-- ==== Sys2Proof/Word.lean ====
section
/-! DEFINITION. Word.lean: the byte, the one bit-vector word the Wolkara 460's manual treats as bits
(frame bodies, table images, IFR bytes). Everything the manual counts is a `Nat`, everything it
computes exactly in signed arithmetic is an `Int`. -/

namespace Sys2Proof

/-- One byte of a frame or of a table image (spec/00_scope.md 4.2: bits 7 to 0). -/
abbrev Byte := BitVec 8

end Sys2Proof
end

