-- ==== Sys2Proof/Config.lean ====
section
/-! DEFINITION. Config.lean: the constants the manual fixes for the part, and the two places where
an installation decides (the strap pins, and what a factory-fresh Table Store holds). The manual
leaves no computed value open, so there is no opaque free value here (NOTES.md, '## Assumptions'). -/

namespace Sys2Proof.Config

/-- Capacities of the transmit queues (section 1.5). -/
def vtqCapacity : Nat := 8
def drqCapacity : Nat := 24

/-- The Alert List holds at most 16 entries (R92). -/
def alertCapacity : Nat := 16

/-- The Driver Accounting Table holds at most 4 records (R108). -/
def driverCapacity : Nat := 4

/-- The Activity Log is a ring of 64 records (R123). -/
def logCapacity : Nat := 64

/-- The minute counter and `last_present` count modulo 2^24 (R115). -/
def minuteModulus : Nat := 16777216

/-- The Activity Log's sequence counter counts modulo 2^16 (R123). -/
def sequenceModulus : Nat := 65536

/-- The driving-time counters stop at 1440 minutes (R108). -/
def dayMinutes : Nat := 1440

/-- SHUTDOWN ends by force after 3000 ms (R169). -/
def shutdownMillis : Nat := 3000

/-- A validation judges 375 entries at one every 100 µs (R162): 37,500 µs. -/
def validationMicros : Nat := 37500

/-- Periods of the free-running timers (R42, R88, R136, R115), in ms. -/
def gaugePeriod : Nat := 10
def loadPeriod : Nat := 20
def supplyPeriod : Nat := 10
def minutePeriod : Nat := 60000

/-- The blink timebase advances every 31.25 ms (R85), held in µs. -/
def blinkMicros : Nat := 31250

/-- REPEAT begins its TRIPLE again every 2000 ms (R100). -/
def repeatCycle : Nat := 2000

/-- The DLI's transmit wire rests for 120 samples before a frame (R155), of which 60 have passed at the EOD of
the frame before, counted from its last dominant (R142; DEDUCED, notes/assumptions/12.md). -/
def wireGap : Nat := 120
def wireAtEod : Nat := 60

/-- 1 ms is 8000 samples of 0.125 µs on the display link (R140). -/
def displaySamplesPerMilli : Nat := 8000

/-- Over-voltage levels in 0.01 V (R136). -/
def overSet : Nat := 3200
def overClear : Nat := 3150

/-- The threshold code in force when the supply entry gives none (R131, R136). -/
def defaultThresholdCode : Nat := 8

/-- What a byte of the Table Store that nothing has written reads as: 0xFF, the erased state of R1
and R161. DESIGN CHOICE (notes/assumptions/5.md): the manual does not say what a fresh part holds. -/
def erasedByte : Byte := 0xFF#8

/-- The strap number `State.reset` is built with. DESIGN CHOICE (notes/assumptions/6.md): the straps
are pins of the board; KEEP_ALIVE_RESET carries the real reading. -/
def resetStraps : Nat := 0

/-- Bound on the number of condition evaluations, changes and releases taken inside one event
(notes/assumptions/10.md): far above what 64 conditions can cause. -/
def cascadeBound : Nat := 1048576

end Sys2Proof.Config
end

