-- ==== Sys2Proof/Syntax.lean ====
section
/-! DEFINITION. Syntax.lean: the commands of the block, one constructor of `Instr` per row of
spec/opcode_table.json, with the operands that the outside world decides (a reading, the samples of
a pin or a wire, which of several like things is meant). A row that carries out an
in-band command (READ STATUS and the rest) has no operand: the Management Unit's
command-in-progress record holds the parameters (R171). -/

namespace Sys2Proof

/-- The two serial links (spec/00_scope.md 1.2). -/
inductive Link where
  | vehicle
  | display
  deriving DecidableEq, Repr

/-- What one coil's sense feedback shows for the interval since the last gauge update (R54). -/
inductive CoilSense where
  /-- the coil drew load current -/
  | current
  /-- the coil was driven and drew no load current -/
  | openCircuit
  /-- the coil was not driven in the interval, so nothing is judged -/
  | undriven
  deriving DecidableEq, Repr

/-- Samples of a receive input as runs of equal ones, `true` for dominant (R140, R141): the level of the
wire, whoever drives it. -/
abbrev Wave := List (Bool × Nat)

/-- What an isolated VLI reads of its test frame (R156): the samples of its transmit output from the SOF's
start on, as they reach the filter, and whether the receiver's CRC check passed. -/
structure LoopRead where
  wave    : Wave
  crcGood : Bool
  deriving DecidableEq, Repr

/-- The commands, in the order of spec/opcode_table.json. -/
inductive Instr where
  /-- R158: the battery feed is connected; the strap pins read as a number of 0 to 15 -/
  | keepAliveReset (straps : Fin 16)
  /-- R133: 1 ms samples of DIN0 (true is the high level) while it is undecided -/
  | ignitionFinding (samples : List Bool)
  /-- R159: 1 ms samples of DIN0 that bring its activating edge -/
  | ignitionOn (samples : List Bool)
  /-- R169: 1 ms samples of DIN0 that bring its deactivating edge -/
  | ignitionOff (samples : List Bool)
  /-- R132: 1 ms raw samples of DIN1 to DIN15 (true is the high level) -/
  | debouncedEdge (input : Fin 16) (samples : List Bool)
  /-- R136: the measured supply in 0.01 V -/
  | supplyMeasurement (centivolts : Nat)
  | underVoltageSet
  | underVoltageClear
  | overVoltageSet
  | overVoltageClear
  /-- R5, R141: the samples that bring the header's last bit; here and in every other row with a wave, those
  that follow the samples of the rows before it -/
  | headerComplete (link : Link) (wave : Wave)
  | frameAccepted (link : Link) (wave : Wave)
  | receiveError (link : Link) (wave : Wave)
  | lineIdle (link : Link)
  | stuckLineTimeout
  | transmitAttemptStart
  | frameSent
  | arbitrationLoss (wave : Wave)
  | transmitError
  | ifrStart
  | ifrSent
  | ifrLoss
  | ifrTransmitError
  | ifrWaitSymbolError (wave : Wave)
  | endOfFrame
  | dliTransmitStart
  | dliFrameSent
  | linkTestBegin
  | linkTestEnd (read : LoopRead)
  | routeFreshnessExpiry (route : Fin 96)
  /-- R42: for G0 to G5, the sense feedback of coil A and coil B -/
  | gaugeUpdate (sense : List (CoilSense × CoilSense))
  | homingComplete (channel : Fin 6)
  | coilOpenFault (channel : Fin 6)
  | blinkTimebaseAdvance
  /-- R88: bit n is set when the driver of lamp n delivers load current -/
  | loadCheck (current : BitVec 32)
  | lampOpen (lamp : Fin 32)
  | lampOvercurrent (lamp : Fin 32)
  | lampCheckEnd
  | chimePatternEnd
  | repeatCycle
  | escalationExpiry (condition : Fin 64)
  | conditionDelayExpiry (condition : Fin 64)
  | minuteEvent
  | speedMismatchExpiry
  | shutdownTimerExpiry
  /-- R162, R134: bit n is the raw level of DINn when sampling begins -/
  | validationComplete (levels : BitVec 16)
  | leaveServiceValidationFail
  /-- R168, R134: bit n is the raw level of DINn when sampling begins afresh -/
  | leaveServiceRestart (levels : BitVec 16)
  | readStatus
  | clearStatus
  | enterService
  | leaveService
  | readEntry
  | writeEntry
  | readSignal
  | readLog
  | readDriver
  | setDriveTime
  | forceLampOn
  | forceLampOff
  | lampRelease
  | gaugeToPosition
  | gaugeRelease
  | forceChimePattern
  | linkTest
  /-- R142, R146: the samples that bring the SOF's end -/
  | sofReceived (link : Link) (wave : Wave)
  deriving DecidableEq, Repr

end Sys2Proof
end

