-- ==== Sys2Proof/WellFormed.lean ====
section
/-! DEFINITION. WellFormed.lean: which operands name an event that can reach the part at all. The
index operands are bounded by their types (`Fin`); what is left is checked here, and `exec` refuses
a command that fails its check with `Refusal.illFormed`. -/

namespace Sys2Proof

/-- The longest debounce number (R130): at most this many samples in one command, so that one
command of DIN0 holds at most one edge (R132). -/
def maxSamples : Nat := 80

/-- Operand checks, one line per command that has one. -/
def Instr.wellFormed : Instr → Bool
  | .ignitionFinding samples => decide (samples.length ≤ maxSamples)
  | .ignitionOn samples => decide (samples.length ≤ maxSamples)
  | .ignitionOff samples => decide (samples.length ≤ maxSamples)
  | .debouncedEdge input samples => decide (input.val ≠ 0) && decide (samples.length ≤ maxSamples)
  | .gaugeUpdate sense => decide (sense.length = 6)
  | .keepAliveReset _ | .supplyMeasurement _ | .underVoltageSet | .underVoltageClear
  | .overVoltageSet | .overVoltageClear | .headerComplete _ _ | .frameAccepted _ _
  | .receiveError _ _ | .lineIdle _ | .stuckLineTimeout | .transmitAttemptStart | .frameSent
  | .arbitrationLoss _ | .transmitError | .ifrStart | .ifrSent | .ifrLoss | .ifrTransmitError
  | .ifrWaitSymbolError _ | .endOfFrame | .dliTransmitStart | .dliFrameSent | .linkTestBegin
  | .linkTestEnd _ | .routeFreshnessExpiry _ | .homingComplete _
  | .coilOpenFault _ | .blinkTimebaseAdvance | .loadCheck _ | .lampOpen _ | .lampOvercurrent _
  | .lampCheckEnd | .chimePatternEnd | .repeatCycle | .escalationExpiry _
  | .conditionDelayExpiry _ | .minuteEvent | .speedMismatchExpiry | .shutdownTimerExpiry
  | .validationComplete _ | .leaveServiceValidationFail | .leaveServiceRestart _ | .readStatus
  | .clearStatus | .enterService | .leaveService | .readEntry | .writeEntry | .readSignal
  | .readLog | .readDriver | .setDriveTime | .forceLampOn | .forceLampOff | .lampRelease
  | .gaugeToPosition | .gaugeRelease | .forceChimePattern | .linkTest | .sofReceived _ _ => true

end Sys2Proof
end

