-- ==== Sys2Proof/Decode.lean ====
section
/-! DEFINITION. Decode.lean: the command that a word of spec/opcode_table.json's bits spells. The
table of this block gives no row any bits (every row's "fields" is empty and none has "fixed"), so
no word spells a command. -/

namespace Sys2Proof

/-- No row of the table has bits, so no word spells a command. -/
def decodeTableWord (_nbits _w : Nat) : Option Instr := none

end Sys2Proof
end

