-- ==== Sys2Proof/Machine/State.lean ====
section
/-! DEFINITION. Machine/State.lean: every piece of state the manual gives the Wolkara 460, as plain
data, with its reset values, and the reasons a command can stop. The grouping is the manual's: the
keep-alive domain (R157, R108, R133, the Table Store) stands in `State` itself, the run domain in
`Run`, one structure per unit. -/

namespace Sys2Proof.Machine

/-! ## Modes (R157) -/

inductive Mode where
  | standby | startup | run | service | shutdown
  deriving DecidableEq, Repr

inductive Phase where
  | none | validating | gaugesAndLamps
  deriving DecidableEq, Repr

/-! ## Tables: descriptors (R1, R21, R38, R60, R80, R105, R130) -/

/-- A working-table entry: unused (erased image), disabled (failed validation) or enabled (R1). -/
inductive Entry (α : Type) where
  | unused
  | disabled
  | enabled (a : α)
  deriving DecidableEq, Repr

inductive Relay where
  | none | all | latest
  deriving DecidableEq, Repr

inductive Supervision where
  | none | display | gateway | tacho
  deriving DecidableEq, Repr

/-- A route entry's fields (R1); `expected = none` is ANY. -/
structure Route where
  link         : Link
  ident        : Nat
  expected     : Option Nat
  first        : Nat
  count        : Nat
  relay        : Relay
  driverAction : Bool
  timeout      : Nat
  supervision  : Supervision
  deriving DecidableEq, Repr

inductive Freshness where
  | never | fresh | stale
  deriving DecidableEq, Repr

/-- An active route with its runtime state: the freshness state and the freshness timer, in ms
left, absent when it does not run (R1, R4, R9). -/
structure LiveRoute where
  cfg   : Route
  fresh : Freshness
  timer : Option Nat
  deriving DecidableEq, Repr

inductive ByteOrder where
  | msbFirst | lsbFirst
  deriving DecidableEq, Repr

/-- A signal descriptor (R21). -/
structure SigDesc where
  start  : Nat
  width  : Nat
  order  : ByteOrder
  signed : Bool
  factor : Int
  shift  : Nat
  offset : Int
  min    : Int
  max    : Int
  naCode  : Option Int
  errCode : Option Int
  deriving DecidableEq, Repr

inductive Policy where
  | hold
  | park (position : Nat)
  deriving DecidableEq, Repr

/-- A gauge descriptor (R38); the curve is its breakpoints in order. -/
structure Gauge where
  source   : Nat
  fallback : Option Nat
  span     : Nat
  curve    : List (Int × Nat)
  gain     : Nat
  rate     : Nat
  policy   : Policy
  sweep    : Bool
  deriving DecidableEq, Repr

/-- The stages of a slot, from lowest to highest (R64, R120). -/
inductive Stage where
  | none | preWarn | limit | over
  deriving DecidableEq, Repr

/-- What a condition watches: the source kind with its parameter (R60). -/
inductive Source where
  | above (signal : Nat)
  | below (signal : Nat)
  | unusable (signal : Nat)
  | input (n : Nat)
  | flag (n : Nat)
  | stage (slot : Nat) (atLeast : Stage)
  deriving DecidableEq, Repr

inductive Severity where
  | info | warn | alarm
  deriving DecidableEq, Repr

inductive UnknownPolicy where
  | hold | forceTrue | forceFalse
  deriving DecidableEq, Repr

/-- A condition descriptor (R60); delays in steps of 100 ms, escalation in s. -/
structure Condition where
  source     : Source
  set        : Int
  clear      : Int
  qualifier  : Option Nat
  onDelay    : Nat
  offDelay   : Nat
  severity   : Severity
  chime      : Bool
  announce   : Bool
  latch      : Bool
  policy     : UnknownPolicy
  escalation : Nat
  deriving DecidableEq, Repr

inductive Period where
  | ms250 | ms500 | ms1000 | ms2000
  deriving DecidableEq, Repr

/-- A lamp descriptor (R80); the source mask is a condition set, bit j for condition j (R185). -/
structure Lamp where
  mask   : BitVec 64
  period : Period
  onTime : Nat
  pulses : Nat
  check  : Bool
  deriving DecidableEq, Repr

inductive Role where
  | general | ackButton | parkBrake
  deriving DecidableEq, Repr

/-- An Input Table entry: the supply entry 0 or a switch entry 1 to 15 (R130). -/
inductive InputCfg where
  | supply (code : Nat)
  | switch (activeLow : Bool) (long : Bool) (role : Role)
  deriving DecidableEq, Repr

/-- The activity of a driver (R108); `none` is NONE, before the first credit. -/
inductive Activity where
  | driving | work | available | rest | unknown | none
  deriving DecidableEq, Repr

/-- The Drive-Time Parameters (R105). -/
structure DriveParams where
  contLimit   : Nat
  fullBreak   : Nat
  splitFirst  : Nat
  splitSecond : Nat
  dailyLimit  : Nat
  dailyRest   : Nat
  prewarn     : Nat
  moving      : Nat
  tolerance   : Nat
  mismatchTime : Nat
  roadSpeed   : Option Nat
  tachoSpeed  : Option Nat
  activity1   : Option Nat
  activity2   : Option Nat
  presence1   : Option Nat
  presence2   : Option Nat
  digest1     : Option Nat
  digest2     : Option Nat
  activityMap : List Activity
  broadcastId : Option Nat
  broadcastPriority : Nat
  cluster     : Nat
  deriving DecidableEq, Repr

/-- The defaults of R105, in force when no valid record is (R106). -/
def DriveParams.defaults : DriveParams :=
  { contLimit := 270, fullBreak := 45, splitFirst := 15, splitSecond := 30, dailyLimit := 540
    dailyRest := 540, prewarn := 15, moving := 500, tolerance := 600, mismatchTime := 10
    roadSpeed := Option.none, tachoSpeed := Option.none, activity1 := Option.none
    activity2 := Option.none, presence1 := Option.none, presence2 := Option.none
    digest1 := Option.none, digest2 := Option.none
    activityMap := List.replicate 8 Activity.unknown
    broadcastId := Option.none, broadcastPriority := 7, cluster := 20 }

/-- The working tables of the run domain (R162). -/
structure Tables where
  routes  : List (Entry LiveRoute)
  signals : List (Entry SigDesc)
  gauges  : List (Entry Gauge)
  conds   : List (Entry Condition)
  lamps   : List (Entry Lamp)
  inputs  : List (Entry InputCfg)
  deriving DecidableEq, Repr

/-- Tables with no enabled entry, as they are after a run-domain reset (R162). That each entry is then UNUSED
and none DISABLED (R179) is the model's choice (DESIGN CHOICE, unsafe: notes/assumptions/15.md). -/
def Tables.initial : Tables :=
  { routes := List.replicate 96 .unused, signals := List.replicate 160 .unused
    gauges := List.replicate 6 .unused, conds := List.replicate 64 .unused
    lamps := List.replicate 32 .unused, inputs := List.replicate 16 .unused }

/-! ## Flags (R78) -/

/-- The internal flags of the run domain, F0 to F11 and F13; F12 is held in the keep-alive domain. -/
structure Flags where
  vlinkStuck      : Bool
  displayLost     : Bool
  gatewayLost     : Bool
  tachoLost       : Bool
  relayOverflow   : Bool
  lampFault       : Bool
  gaugeFault      : Bool
  speedMismatch   : Bool
  configFault     : Bool
  underVoltage    : Bool
  overVoltage     : Bool
  addressConflict : Bool
  service         : Bool
  deriving DecidableEq, Repr

/-- Every flag of the run domain is clear after the run-domain reset (R79). -/
def Flags.initial : Flags :=
  { vlinkStuck := false, displayLost := false, gatewayLost := false, tachoLost := false
    relayOverflow := false, lampFault := false, gaugeFault := false, speedMismatch := false
    configFault := false, underVoltage := false, overVoltage := false, addressConflict := false
    service := false }

/-! ## Frames and queues (R14, R144, R187) -/

inductive Kind where
  | data | cmd | reply | note
  deriving DecidableEq, Repr

/-- A frame: target and source count for the addressed kinds alone (R144). -/
structure Frame where
  kind    : Kind
  prio    : Nat
  ident   : Nat
  target  : Nat
  source  : Nat
  payload : List Byte
  deriving DecidableEq, Repr

inductive NoticeType where
  | telltale | drivetime | status
  deriving DecidableEq, Repr

/-- Where a queue entry came from (R14). -/
inductive Origin where
  | route (n : Nat)
  | broadcast
  | notice (t : NoticeType)
  | resultReply
  | busyReply
  deriving DecidableEq, Repr

/-- A queue entry (R14): one frame, or the two of a two-part item (R187); the part being sent,
whether that part has been attempted (R153), the in-flight mark and the error count (R152). -/
structure QEntry where
  frame0    : Frame
  frame1    : Option Frame
  origin    : Origin
  inFlight  : Bool
  part      : Nat
  attempted : Bool
  errors    : Nat
  deriving DecidableEq, Repr

/-- The contents of a notice: its first frame and, for a two-part notice, its second (R187). -/
abbrev NoticeFrames := Frame × Option Frame

/-- The Frame Router's queues and its three pending notice slots (R14, R18). -/
structure Queues where
  vtq : List QEntry
  duq : List QEntry
  drq : List QEntry
  pendTelltale  : Option NoticeFrames
  pendDrivetime : Option NoticeFrames
  pendStatus    : Option NoticeFrames
  deriving DecidableEq, Repr

def Queues.initial : Queues :=
  { vtq := [], duq := [], drq := [], pendTelltale := Option.none, pendDrivetime := Option.none
    pendStatus := Option.none }

/-! ## Link interfaces (R141, R146, R149 to R156) -/

inductive RxState where
  | idle | receiving | ignoring | ifrWait | errorWait | stuck
  deriving DecidableEq, Repr

/-- The receive filter: its count of 0 to 7 and the filtered level (R141). -/
structure Filter where
  count    : Nat
  dominant : Bool
  deriving DecidableEq, Repr

/-- What the Frame Router bound a frame of interest to at its header (R5): a route, by number, key
and expected payload length, or the Management Unit. -/
inductive Binding where
  | route (n : Nat) (ident : Nat) (expected : Option Nat)
  | mu
  deriving DecidableEq, Repr

/-- What the symbol decoder measures of the filtered level (R142): how many samples the present stretch
and the present cell have lasted, each up to 20000, and whether the line is idle, or was idle before the
present dominant stretch. -/
structure Line where
  filter  : Filter
  stretch : Nat
  cell    : Nat
  idle    : Bool
  deriving DecidableEq, Repr

/-- R141: count 0 and recessive; nothing is measured yet. -/
def Line.initial : Line :=
  { filter := { count := 0, dominant := false }, stretch := 0, cell := 0, idle := false }

/-- The receive side of a link interface (section 8.3); in IFR_WAIT `bits` counts the IFR's bits. -/
structure Iface where
  line    : Line
  rx      : RxState
  buffer  : List Byte
  bits    : Nat
  binding : Option Binding
  deriving DecidableEq, Repr

/-- R141, R146: the filter's reset values, ERROR_WAIT, buffer empty, no binding. -/
def Iface.initial : Iface :=
  { line := Line.initial, rx := .errorWait, buffer := [], bits := 0, binding := Option.none }

inductive LoopTest where
  | off | waiting | running
  deriving DecidableEq, Repr

/-- The IFR the VLI has been handed, and whether its bits are being sent (R154). -/
structure Ifr where
  byte    : Byte
  sending : Bool
  deriving DecidableEq, Repr

/-- The Vehicle Link Interface; the stuck-line timer is in samples (R149), `sending` holds the bytes
of the attempt in progress, CRC byte included (R150). -/
structure Vli where
  iface      : Iface
  stuckTimer : Nat
  sending    : Option (List Byte)
  ifr        : Option Ifr
  test       : LoopTest
  deriving DecidableEq, Repr

def Vli.initial : Vli :=
  { iface := Iface.initial, stuckTimer := 0, sending := Option.none, ifr := Option.none, test := .off }

inductive DliQueue where
  | duq | drq
  deriving DecidableEq, Repr

/-- The Display Link Interface: the queue and the bytes of the frame being sent, and for how many samples, up
to 120, the transmit wire has been recessive since the DLI last drove it or since the run-domain reset
(R155). -/
structure Dli where
  iface     : Iface
  sending   : Option (DliQueue × List Byte)
  recessive : Nat
  deriving DecidableEq, Repr

def Dli.initial : Dli := { iface := Iface.initial, sending := Option.none, recessive := 0 }

/-! ## Signal Store (R23) -/

inductive SigStatus where
  | never | valid | clamped | notAvailable | errorCode | stale
  deriving DecidableEq, Repr

structure SigEntry where
  value  : Int
  status : SigStatus
  deriving DecidableEq, Repr

def SigEntry.initial : SigEntry := { value := 0, status := .never }

/-! ## Gauge channels (R40, R41) -/

inductive ChanState where
  | unhomed | homing | sweepUp | sweepDown | track | sourceless | frozen | fault | ret | atRest
  | forced
  deriving DecidableEq, Repr

inductive Resume where
  | track | sourceless | sweepUp | sweepDown
  deriving DecidableEq, Repr

inductive CoilFault where
  | none | a | b | ab
  deriving DecidableEq, Repr

/-- A channel record; `pos` is P, `filt` is f in sixteenths, `target` is T. -/
structure Channel where
  state  : ChanState
  known  : Bool
  pos    : Int
  filt   : Int
  target : Int
  resume : Option Resume
  homing : Nat
  forced : Option Nat
  openA  : Nat
  openB  : Nat
  fault  : CoilFault
  deriving DecidableEq, Repr

def Channel.initial : Channel :=
  { state := .unhomed, known := false, pos := 0, filt := 0, target := 0, resume := Option.none
    homing := 0, forced := Option.none, openA := 0, openB := 0, fault := .none }

/-- The Gauge Unit: six channel records and the update timer in ms (R42). -/
structure Gu where
  channels : List Channel
  timer    : Nat
  deriving DecidableEq, Repr

def Gu.initial : Gu := { channels := List.replicate 6 Channel.initial, timer := Config.gaugePeriod }

/-! ## Conditions (R62) -/

inductive CondState where
  | inactive | pendingOn | active | pendingOff | latched | suspended
  deriving DecidableEq, Repr

inductive DelayKind where
  | on | off
  deriving DecidableEq, Repr

/-- A condition's delay timer with its ms left (R62, R69). -/
structure Delay where
  kind : DelayKind
  left : Nat
  deriving DecidableEq, Repr

structure CondRec where
  state      : CondState
  remembered : Bool
  timer      : Option Delay
  deriving DecidableEq, Repr

def CondRec.initial : CondRec := { state := .inactive, remembered := false, timer := Option.none }

/-- The Condition Unit: its records, and whether the first evaluation of the working table has been
begun, so that events reach the conditions (R73, R75). -/
structure Cu where
  evaluating : Bool
  recs       : List CondRec
  deriving DecidableEq, Repr

def Cu.initial : Cu := { evaluating := false, recs := List.replicate 64 CondRec.initial }

/-! ## Tell-tale Unit (R82, R92, R98) -/

inductive Load where
  | ok | opened | shorted
  deriving DecidableEq, Repr

/-- A lamp record; `lit` is the pattern phase, `forced` the ordered output. -/
structure LampRec where
  view       : BitVec 64
  requested  : Bool
  alarmBlink : Bool
  lit        : Bool
  load       : Load
  openCount  : Nat
  forced     : Option Bool
  output     : Bool
  deriving DecidableEq, Repr

def LampRec.initial : LampRec :=
  { view := 0#64, requested := false, alarmBlink := false, lit := true, load := .ok, openCount := 0
    forced := Option.none, output := false }

/-- An escalation timer: ms left, running or paused (R92). -/
structure EscTimer where
  left    : Nat
  running : Bool
  deriving DecidableEq, Repr

/-- An Alert List entry (R92). -/
structure Alert where
  cond     : Nat
  severity : Severity
  acked    : Bool
  level    : Nat
  timer    : Option EscTimer
  deriving DecidableEq, Repr

inductive Pattern where
  | check | single | triple | rep
  deriving DecidableEq, Repr

/-- The pattern playing, with the position within it in ms (R98). -/
structure Playing where
  pattern : Pattern
  at_     : Nat
  deriving DecidableEq, Repr

/-- The chime state: the pattern playing and the queue, highest rank first (R98). -/
structure Chime where
  playing : Option Playing
  queue   : List Pattern
  deriving DecidableEq, Repr

def Chime.initial : Chime := { playing := Option.none, queue := [] }

/-- The Tell-tale Unit: lamp records, blink timebase (count, µs to its next advance), lamp-check
timer and load-check timer in ms, Alert List oldest first, chime. -/
structure Tu where
  lamps      : List LampRec
  blink      : Nat
  blinkTimer : Nat
  lampCheck  : Option Nat
  loadTimer  : Nat
  alerts     : List Alert
  chime      : Chime
  deriving DecidableEq, Repr

def Tu.initial : Tu :=
  { lamps := List.replicate 32 LampRec.initial, blink := 0, blinkTimer := Config.blinkMicros
    lampCheck := Option.none, loadTimer := Config.loadPeriod, alerts := [], chime := Chime.initial }

/-! ## Input Unit (R132, R134, R136 to R138) -/

structure Debounce where
  active : Bool
  count  : Nat
  deriving DecidableEq, Repr

def Debounce.initial : Debounce := { active := false, count := 0 }

/-- The run-domain part of the Input Unit: whether a working Input Table is in force, the debounced
inputs (place n is DINn, place 0 is not used), the threshold code in force, the four supply counts
and the measurement timer in ms. -/
structure Iu where
  sampling  : Bool
  inputs    : List Debounce
  code      : Nat
  low       : Nat
  lowClear  : Nat
  high      : Nat
  highClear : Nat
  timer     : Nat
  deriving DecidableEq, Repr

def Iu.initial : Iu :=
  { sampling := false, inputs := List.replicate 16 Debounce.initial
    code := Config.defaultThresholdCode, low := 0, lowClear := 0, high := 0, highClear := 0
    timer := Config.supplyPeriod }

/-! ## Mode Controller, run-domain part (R157) -/

/-- The Mode Controller's run-domain items; `validation` is the µs left of a validation in progress
(R162, R168). -/
structure Mc where
  gaugesStarted  : Bool
  gaugesAtRest   : Bool
  lampCheckEnded : Bool
  disabledCount  : Nat
  gaugeFaults    : List CoilFault
  openLamps      : BitVec 32
  shortLamps     : BitVec 32
  validation     : Option Nat
  deriving DecidableEq, Repr

def Mc.initial : Mc :=
  { gaugesStarted := false, gaugesAtRest := true, lampCheckEnded := false, disabledCount := 0
    gaugeFaults := List.replicate 6 .none, openLamps := 0#32, shortLamps := 0#32
    validation := Option.none }

/-! ## Management Unit (R171) -/

inductive MuPhase where
  | idle | ifrPending | executing | replyQueued
  deriving DecidableEq, Repr

/-- The command of the command-in-progress record: its link, header, source address and payload
(command code first, then its parameters). -/
structure Command where
  link    : Link
  prio    : Nat
  ident   : Nat
  source  : Nat
  payload : List Byte
  deriving DecidableEq, Repr

inductive ErrKind where
  | invalid | brk | framing | crc | length
  deriving DecidableEq, Repr

/-- The last link error: NONE, or a link with a kind (R148). -/
inductive LinkError where
  | none
  | at_ (link : Link) (kind : ErrKind)
  deriving DecidableEq, Repr

/-- The command-in-progress record, BUSY queued, and the status record. -/
structure Mu where
  phase             : MuPhase
  cmd               : Option Command
  busyQueued        : Bool
  lastLinkError     : LinkError
  transmitAbandoned : Bool
  storeDiffers      : Bool
  deriving DecidableEq, Repr

def Mu.initial : Mu :=
  { phase := .idle, cmd := Option.none, busyQueued := false, lastLinkError := .none
    transmitAbandoned := false, storeDiffers := false }

/-! ## The run domain -/

structure Run where
  flags   : Flags
  tables  : Tables
  queues  : Queues
  vli     : Vli
  dli     : Dli
  signals : List SigEntry
  gu      : Gu
  cu      : Cu
  tu      : Tu
  iu      : Iu
  mc      : Mc
  mu      : Mu
  /-- the speed mismatch timer, in ms (R126) -/
  mismatch : Option Nat
  deriving DecidableEq, Repr

/-- Every item of the run domain at its run-domain reset value (R160). -/
def Run.initial : Run :=
  { flags := Flags.initial, tables := Tables.initial, queues := Queues.initial, vli := Vli.initial
    dli := Dli.initial, signals := List.replicate 163 SigEntry.initial, gu := Gu.initial
    cu := Cu.initial, tu := Tu.initial, iu := Iu.initial, mc := Mc.initial, mu := Mu.initial
    mismatch := Option.none }

/-- What stands for the unpowered run domain: the same values, with gauges at rest no, its value after a
keep-alive reset (R157; notes/assumptions/7.md). -/
def Run.unpowered : Run := { Run.initial with mc := { Mc.initial with gaugesAtRest := false } }

/-! ## The Drive-Time Unit (R108, R123) -/

/-- A driver record. -/
structure Driver where
  digest      : Nat
  cont        : Nat
  daily       : Nat
  pauseRun    : Nat
  restRun     : Nat
  splitDone   : Bool
  synced      : Bool
  lastPresent : Nat
  activity    : Activity
  inferred    : Bool
  remaining   : Nat
  stage       : Stage
  deriving DecidableEq, Repr

inductive LogKind where
  | activityChange | cardIn | cardOut | syncLoad | recordEvicted
  deriving DecidableEq, Repr

/-- A log record; `slot` is absent for RECORD_EVICTED. -/
structure LogRec where
  seq      : Nat
  kind     : LogKind
  slot     : Option Nat
  activity : Activity
  inferred : Bool
  digest   : Nat
  minute   : Nat
  deriving DecidableEq, Repr

/-- How the Drive-Time Parameters entry fared at the last activation (R106, R179). -/
inductive WorkState where
  | enabled | disabled | unused
  deriving DecidableEq, Repr

/-- The Drive-Time Unit's keep-alive state: working record, Driver Accounting Table, the digest bound
to each slot, minute timer (ms) and counter, Activity Log oldest first and its sequence counter, F12. -/
structure Dtu where
  params     : DriveParams
  paramState : WorkState
  drivers    : List Driver
  slot1      : Option Nat
  slot2      : Option Nat
  timer      : Nat
  minutes    : Nat
  log        : List LogRec
  seq        : Nat
  unsynced   : Bool
  deriving DecidableEq, Repr

/-- R129: everything empty and 0, the defaults in force, F12 set. The working state of the Drive-Time
Parameters entry (R179) before any activation is given by no rule: UNUSED (DESIGN CHOICE, unsafe:
notes/assumptions/15.md). -/
def Dtu.initial : Dtu :=
  { params := DriveParams.defaults, paramState := .unused, drivers := [], slot1 := Option.none
    slot2 := Option.none, timer := Config.minutePeriod, minutes := 0, log := [], seq := 0
    unsynced := true }

/-! ## The ignition input (R133) -/

inductive Ignition where
  | undecided | active | inactive
  deriving DecidableEq, Repr

/-- DIN0: its debounced state, its debounce count and, while it is undecided, the sample before. -/
structure Din0 where
  level : Ignition
  count : Nat
  last  : Bool
  deriving DecidableEq, Repr

def Din0.initial : Din0 := { level := .undecided, count := 0, last := false }

/-! ## Stops -/

/-- The part reports every trouble it meets in its own state (flags, the last link error, result
codes); the manual describes no event that halts it, so no command faults and there is no fault to
name. Safe: nothing is stopped. -/
inductive Fault where
  deriving DecidableEq, Repr

inductive Refusal where
  /-- Raised by an arm of `exec` whose command has no meaning yet: none in this model. Safe. -/
  | notModelled (mnemonic : String)
  /-- Raised by `exec` for a command whose operands name no event that can reach the part
  (`Instr.wellFormed`; notes/assumptions/1.md). Safe. -/
  | illFormed
  deriving DecidableEq, Repr

/-! ## The whole state -/

/-- The machine: the keep-alive domain, the run domain, and the queue of commands that wait. In
STANDBY the run domain is unpowered and `run` holds `Run.unpowered` (notes/assumptions/7.md). -/
structure State where
  mode          : Mode
  phase         : Phase
  /-- the shutdown timer, in ms -/
  shutdownTimer : Option Nat
  nodeAddress   : Nat
  din0          : Din0
  dtu           : Dtu
  /-- the Table Store's bytes that differ from the erased state, by rising address (R161) -/
  store         : List Host.Cell
  run           : Run
  pending       : List Instr
  deriving DecidableEq, Repr

/-- R158: strap number 15 is taken as 14. -/
def strapAddress (straps : Nat) : Nat := if straps = 15 then 14 else straps

/-- The part right after a keep-alive reset (R157, R158), with a fresh Table Store. -/
def State.reset : State :=
  { mode := .standby, phase := .none, shutdownTimer := Option.none
    nodeAddress := strapAddress Config.resetStraps, din0 := Din0.initial, dtu := Dtu.initial
    store := [], run := Run.unpowered, pending := [] }

end Sys2Proof.Machine
end

