-- ==== Sys2Proof/Machine/Operands.lean ====
section
/-! DEFINITION. Machine/Operands.lean: how bytes are read and written: bits and numbers (R185), the
CRC (R145), the frame header (R186), the checks at EOD (R147), command payloads (R188) and the
codes of the Formats chapter. -/

namespace Sys2Proof.Machine

/-! ## Bits and numbers (R185) -/

def boolNat (b : Bool) : Nat := if b then 1 else 0

/-- The bits of a byte as they are sent: bit 7 first (R140). -/
def byteBits (b : Byte) : List Bool := (List.range 8).map fun i => b.getLsbD (7 - i)

def bytesBits (bs : List Byte) : List Bool := bs.flatMap byteBits

/-- The number whose binary digits these are, most significant first. -/
def bitsNat (bits : List Bool) : Nat := bits.foldl (fun n b => 2 * n + boolNat b) 0

/-- A number sent most significant byte first. -/
def bytesNat (bs : List Byte) : Nat := bs.foldl (fun n b => 256 * n + b.toNat) 0

/-- Two's complement reading of a `width`-bit number (R29). -/
def signedNat (width n : Nat) : Int := if n < 2 ^ (width - 1) then n else (n : Int) - 2 ^ width

def byteOf (n : Nat) : Byte := BitVec.ofNat 8 n

/-- `n` in two bytes, most significant first. -/
def bytes2 (n : Nat) : List Byte := [byteOf (n / 256), byteOf n]

/-- `n` in three bytes, most significant first. -/
def bytes3 (n : Nat) : List Byte := [byteOf (n / 65536), byteOf (n / 256), byteOf n]

/-- A signed 24-bit number in three bytes. -/
def signed3 (v : Int) : List Byte := bytes3 (v % 16777216).toNat

/-- A lamp set as a bit map, bit b of byte k for lamp 8k + b (R185). -/
def lampSetBytes (s : BitVec 32) : List Byte :=
  (List.range 4).map fun k => byteOf ((s.toNat / 256 ^ k) % 256)

/-- The condition set that a bit map of eight bytes holds (R185, R190). -/
def condSetOf (bs : List Byte) : BitVec 64 := BitVec.ofNat 64 (bytesNat bs.reverse)

/-- Place `i` of a payload or image; a byte beyond its end reads as 0. -/
def byteAt (bs : List Byte) (i : Nat) : Byte := bs.getD i 0#8

/-- Bits hi down to lo of a byte, as a number. -/
def bitField (b : Byte) (hi lo : Nat) : Nat := (b.toNat / 2 ^ lo) % 2 ^ (hi + 1 - lo)

/-- `n` bytes of a payload or image from place `i` on, as a number. -/
def natAt (bs : List Byte) (i n : Nat) : Nat := bytesNat ((List.range n).map fun k => byteAt bs (i + k))

/-- A signed number of `n` bytes from place `i` on. -/
def intAt (bs : List Byte) (i n : Nat) : Int := signedNat (8 * n) (natAt bs i n)

/-! ## CRC-8 (R145) -/

/-- One of the eight steps: shift left, and take in the polynomial when a 1 drops out. -/
def crcStep (r : Byte) : Byte := if r.getLsbD 7 then (r <<< 1) ^^^ 0x2F#8 else r <<< 1

def crcByte (r b : Byte) : Byte :=
  crcStep (crcStep (crcStep (crcStep (crcStep (crcStep (crcStep (crcStep (r ^^^ b))))))))

/-- The register after every byte of a body, from 0x00. -/
def crc8 (bs : List Byte) : Byte := bs.foldl crcByte 0#8

/-! ## The frame header (R186) -/

def kindCode : Kind → Nat
  | .data => 0
  | .cmd => 1
  | .reply => 2
  | .note => 3

def kindOf (code : Nat) : Kind :=
  match code with
  | 0 => .data
  | 1 => .cmd
  | 2 => .reply
  | _ => .note

def Kind.addressed : Kind → Bool
  | .cmd | .reply => true
  | .data | .note => false

/-- The fields of a header: priority, kind, identifier and, for the addressed kinds, the target and
source address of the third byte. -/
structure Header where
  prio   : Nat
  kind   : Kind
  ident  : Nat
  target : Nat
  source : Nat
  deriving DecidableEq, Repr

/-- Read a header from the front of a body (R186). -/
def headerOf (body : List Byte) : Header :=
  let b0 := byteAt body 0
  let kind := kindOf (bitField b0 4 3)
  let address := byteAt body 2
  { prio := bitField b0 7 5
    kind := kind
    ident := 256 * bitField b0 2 0 + (byteAt body 1).toNat
    target := if kind.addressed then bitField address 7 4 else 0
    source := if kind.addressed then bitField address 3 0 else 0 }

/-- How many body bytes come before the payload. -/
def headerBytes (kind : Kind) : Nat := if kind.addressed then 3 else 2

/-- Whether a body holds its complete header (R144). -/
def headerIsComplete (body : List Byte) : Bool :=
  decide (2 ≤ body.length) && decide (headerBytes (headerOf body).kind ≤ body.length)

/-- The payload of a received body. -/
def payloadOf (body : List Byte) : List Byte := body.drop (headerBytes (headerOf body).kind)

/-- The body of a frame to be sent (R144, R186). -/
def frameBody (f : Frame) : List Byte :=
  let b0 := byteOf (32 * f.prio + 8 * kindCode f.kind + (f.ident / 256) % 8)
  let b1 := byteOf f.ident
  let address := if f.kind.addressed then [byteOf (16 * f.target + f.source)] else []
  b0 :: b1 :: address ++ f.payload

/-- The bytes a transmitter sends for a frame: the body and its CRC byte (R145). -/
def frameBytes (f : Frame) : List Byte := frameBody f ++ [crc8 (frameBody f)]

/-! ## The checks at EOD (R147) -/

/-- The checks at EOD, in order (R147): framing, CRC, length. `none` is an accepted frame. -/
def endOfDataFault (received : List Byte) (strayBits : Nat) (binding : Option Binding) :
    Option ErrKind :=
  let body := received.dropLast
  let header := headerOf body
  if strayBits ≠ 0 ∨ received.length < 3 ∨ 13 < received.length ∨
      (header.kind.addressed = true ∧ received.length < 4) then some .framing
  else if received.getLastD 0#8 ≠ crc8 body then some .crc
  else
    match binding with
    | some (.route _ _ (some len)) => if (payloadOf body).length = len then none else some .length
    | _ => none

/-! ## Codes (R186, R188) -/

/-- Admission and result codes (R186). -/
inductive Code where
  | ok | pass | fail | refusedInterlock | refusedTable | refusedRange | refusedMode | busy | unknown
  | accepted
  deriving DecidableEq, Repr

def Code.number : Code → Nat
  | .ok => 0
  | .pass => 1
  | .fail => 2
  | .refusedInterlock => 3
  | .refusedTable => 4
  | .refusedRange => 5
  | .refusedMode => 6
  | .busy => 7
  | .unknown => 8
  | .accepted => 9

/-- The IFR byte: the code above its one's complement (R154). -/
def ifrByte (c : Code) : Byte := byteOf (16 * c.number + (15 - c.number))

/-- The commands of R188. -/
inductive CmdCode where
  | readStatus | clearStatus | enterService | leaveService | readEntry | writeEntry | readSignal
  | readLog | readDriver | setDriveTime | forceOutput | linkTest
  deriving DecidableEq, Repr

/-- The command that a first payload byte codes. -/
def cmdCodeOf (b : Byte) : Option CmdCode :=
  match b.toNat with
  | 0x01 => some .readStatus
  | 0x02 => some .clearStatus
  | 0x03 => some .enterService
  | 0x04 => some .leaveService
  | 0x10 => some .readEntry
  | 0x11 => some .writeEntry
  | 0x20 => some .readSignal
  | 0x21 => some .readLog
  | 0x22 => some .readDriver
  | 0x23 => some .setDriveTime
  | 0x30 => some .forceOutput
  | 0x31 => some .linkTest
  | _ => none

/-- The command of a payload; an empty payload codes none. -/
def payloadCmd (payload : List Byte) : Option CmdCode :=
  match payload with
  | b :: _ => cmdCodeOf b
  | [] => none

/-- The payload length each command takes (R188). -/
def CmdCode.length : CmdCode → Nat
  | .readStatus | .clearStatus | .enterService | .leaveService | .linkTest => 1
  | .readSignal | .readDriver => 2
  | .readEntry | .readLog => 3
  | .forceOutput => 5
  | .setDriveTime => 7
  | .writeEntry => 9

/-- Where a command is admitted (section 10.4). -/
def CmdCode.inMode : CmdCode → Mode → Bool
  | .readStatus, m => decide (m = .startup ∨ m = .run ∨ m = .service)
  | .enterService, m => decide (m = .run)
  | .leaveService, m | .writeEntry, m | .forceOutput, m | .linkTest, m => decide (m = .service)
  | .clearStatus, m | .readEntry, m | .readSignal, m | .readLog, m | .readDriver, m
  | .setDriveTime, m => decide (m = .run ∨ m = .service)

/-- The tables of the Table Store (R179), by table code (R188). -/
inductive TableId where
  | route | signal | gauge | condition | lamp | input | drive
  deriving DecidableEq, Repr

def tableOf (code : Nat) : Option TableId :=
  match code with
  | 0 => some .route
  | 1 => some .signal
  | 2 => some .gauge
  | 3 => some .condition
  | 4 => some .lamp
  | 5 => some .input
  | 6 => some .drive
  | _ => none

def TableId.code : TableId → Nat
  | .route => 0
  | .signal => 1
  | .gauge => 2
  | .condition => 3
  | .lamp => 4
  | .input => 5
  | .drive => 6

def TableId.entries : TableId → Nat
  | .route => 96
  | .signal => 160
  | .gauge => 6
  | .condition => 64
  | .lamp => 32
  | .input => 16
  | .drive => 1

def TableId.groups : TableId → Nat
  | .route => 2
  | .signal | .condition | .lamp => 3
  | .gauge | .drive => 8
  | .input => 1

/-- The table/group byte and the index of READ ENTRY and WRITE ENTRY lie within the table (R179). -/
def entryInRange (payload : List Byte) : Bool :=
  match tableOf (bitField (byteAt payload 1) 7 4) with
  | none => false
  | some t =>
      decide (bitField (byteAt payload 1) 3 0 < t.groups) && decide ((byteAt payload 2).toNat < t.entries)

/-- The six actions of FORCE OUTPUT (R183). -/
inductive ForceAction where
  | lampOn | lampOff | lampRelease | gaugePosition | gaugeRelease | chimePattern
  deriving DecidableEq, Repr

def forceActionOf (payload : List Byte) : Option ForceAction :=
  match (byteAt payload 1).toNat with
  | 1 => some .lampOn
  | 2 => some .lampOff
  | 3 => some .lampRelease
  | 4 => some .gaugePosition
  | 5 => some .gaugeRelease
  | 6 => some .chimePattern
  | _ => none

def patternOf (code : Nat) : Option Pattern :=
  match code with
  | 1 => some .check
  | 2 => some .single
  | 3 => some .triple
  | 4 => some .rep
  | _ => none

/-- FORCE OUTPUT's target and position lie in their ranges (section 10.4, R188). -/
def forceInRange (payload : List Byte) : Bool :=
  let target := (byteAt payload 2).toNat
  decide (natAt payload 3 2 ≤ 4095) &&
    match forceActionOf payload with
    | some .lampOn | some .lampOff | some .lampRelease => decide (target < 32)
    | some .gaugePosition | some .gaugeRelease => decide (target < 6)
    | some .chimePattern => (patternOf target).isSome
    | none => false

/-- The parameters that admission checks (section 10.4), the length taken as right. -/
def CmdCode.paramsInRange (c : CmdCode) (payload : List Byte) : Bool :=
  match c with
  | .readStatus | .clearStatus | .enterService | .leaveService | .linkTest | .readLog => true
  | .readEntry | .writeEntry => entryInRange payload
  | .readSignal => decide ((byteAt payload 1).toNat ≤ 162)
  | .readDriver => decide ((byteAt payload 1).toNat = 1 ∨ (byteAt payload 1).toNat = 2)
  | .setDriveTime =>
      decide ((byteAt payload 1).toNat = 1 ∨ (byteAt payload 1).toNat = 2) &&
        decide (natAt payload 4 2 ≤ 1440) && decide (natAt payload 2 2 ≤ natAt payload 4 2) &&
        decide ((byteAt payload 6).toNat ≤ 1)
  | .forceOutput => forceInRange payload

/-- The admission code, decided from the frame alone (R173). -/
def admissionCode (phase : MuPhase) (mode : Mode) (payload : List Byte) : Code :=
  if phase ≠ .idle then .busy
  else
    match payloadCmd payload with
    | none => .unknown
    | some c =>
        if c.inMode mode = false then .refusedMode
        else if payload.length ≠ c.length ∨ c.paramsInRange payload = false then .refusedRange
        else .accepted

def modeCode : Mode → Nat
  | .standby => 0
  | .startup => 1
  | .run => 2
  | .service => 3
  | .shutdown => 4

def errKindCode : ErrKind → Nat
  | .invalid => 1
  | .brk => 2
  | .framing => 3
  | .crc => 4
  | .length => 5

def linkCode : Link → Nat
  | .vehicle => 0
  | .display => 1

/-- The last-link-error byte (R188). For the kind NONE, which has no link (R148), no rule gives bit 0: the
whole byte is 0x00 (DESIGN CHOICE, unsafe: notes/assumptions/14.md). -/
def linkErrorByte : LinkError → Byte
  | .none => 0#8
  | .at_ link kind => byteOf (16 * errKindCode kind + linkCode link)

def sigStatusCode : SigStatus → Nat
  | .never => 0
  | .valid => 1
  | .clamped => 2
  | .notAvailable => 3
  | .errorCode => 4
  | .stale => 5

def activityCode : Activity → Nat
  | .driving => 0
  | .work => 1
  | .available => 2
  | .rest => 3
  | .unknown => 4
  | .none => 7

def stageCode : Stage → Nat
  | .none => 0
  | .preWarn => 1
  | .limit => 2
  | .over => 3

def coilFaultCode : CoilFault → Nat
  | .none => 0
  | .a => 1
  | .b => 2
  | .ab => 3

def logKindCode : LogKind → Nat
  | .activityChange => 0
  | .cardIn => 1
  | .cardOut => 2
  | .syncLoad => 3
  | .recordEvicted => 4

/-- The eight bytes of a log record (section 11.3). -/
def logBytes (r : LogRec) : List Byte :=
  bytes2 r.seq ++
    [byteOf (32 * logKindCode r.kind + (if r.slot = some 2 then 16 else 0) +
        8 * boolNat r.inferred + activityCode r.activity)] ++
    bytes2 r.digest ++ bytes3 r.minute

/-- The slot-state byte: bound, synced, inferred, activity, stage (R188). -/
def slotStateByte (bound synced inferred : Bool) (activity : Activity) (stage : Stage) : Byte :=
  byteOf (128 * boolNat bound + 64 * boolNat synced + 32 * boolNat inferred +
    4 * activityCode activity + stageCode stage)

end Sys2Proof.Machine
end

