-- ==== Sys2Proof/Machine/Line.lean ====
section
/-! DEFINITION. Machine/Line.lean: a line as an interface hears and drives it: the receive filter at each
raw sample (R141), the symbol decoder's measure of the filtered stretches (R142), the samples the 460
drives for a frame (R143), and the reading of one frame from what was decoded. -/

namespace Sys2Proof.Machine

/-- The receive filter takes in one raw sample (R141). -/
def filterSample (f : Filter) (dominant : Bool) : Filter :=
  let count := if dominant then min 7 (f.count + 1) else f.count - 1
  { count := count
    dominant := if count = 7 then true else if count = 0 then false else f.dominant }

/-! ## The symbol decoder (R142) -/

inductive Symbol where
  | one | zero | sof | brk | invalid
  deriving DecidableEq, Repr

/-- The symbol that a dominant stretch of this many samples is, judged at its end or at 240. -/
def dominantSymbol (samples : Nat) (lineWasIdle : Bool) : Symbol :=
  if 240 ≤ samples then .brk
  else if 6 ≤ samples ∧ samples ≤ 14 then .one
  else if 26 ≤ samples ∧ samples ≤ 34 then .zero
  else if 100 ≤ samples ∧ samples ≤ 140 ∧ lineWasIdle = true then .sof
  else .invalid

/-- What one sample of the filtered level can bring. -/
inductive LineEvent where
  /-- a dominant edge, after a recessive stretch and a cell of so many samples (R142) -/
  | edge (recessive cell : Nat)
  /-- a dominant stretch passes 14 samples (R151) -/
  | passes14
  /-- a dominant stretch is judged (R142) -/
  | symbol (x : Symbol)
  /-- the recessive stretch reaches 60, 80 (R154), 100 or 120 samples -/
  | eod | ifrTurn | eof | idle
  /-- the vehicle line's dominant stretch reaches 20000 samples (R149) -/
  | stuck
  deriving DecidableEq, Repr

/-- 10 ms in samples of the vehicle link (R149). -/
def stuckSamples : Nat := 20000

/-- What a recessive stretch means when it reaches this length (R142, R154). -/
def recessiveMeaning (samples : Nat) : List LineEvent :=
  if samples = 60 then [.eod]
  else if samples = 80 then [.ifrTurn]
  else if samples = 100 then [.eof]
  else if samples = 120 then [.idle]
  else []

/-- What a dominant stretch means when it reaches this length: a loss where a ONE was sent (R151), or a
BREAK, judged at once (R142). -/
def dominantMeaning (samples : Nat) : List LineEvent :=
  if samples = 15 then [.passes14]
  else if samples = 240 then [.symbol (dominantSymbol 240 false)]
  else []

/-- What the end of a dominant stretch means (R142). -/
def dominantEnd (samples : Nat) (lineWasIdle : Bool) : List LineEvent :=
  if samples < 240 then [.symbol (dominantSymbol samples lineWasIdle)] else []

/-- A count of samples goes on, up to 20000. -/
def countOn (n : Nat) : Nat := min stuckSamples (n + 1)

/-- A line that is heard: what is measured of it, the stuck-line timer, and what the samples brought. -/
structure Heard where
  line   : Line
  timer  : Nat
  events : List LineEvent
  deriving DecidableEq, Repr

/-- One raw sample passes the filter and is measured (R141, R142, R149). -/
def hearSample (dominant : Bool) (h : Heard) : Heard :=
  let l := h.line
  let f := filterSample l.filter dominant
  if f.dominant then
    let stretch := if l.filter.dominant then countOn l.stretch else 1
    let timer := countOn h.timer
    { line := { filter := f, stretch := stretch, cell := if l.filter.dominant then countOn l.cell else 1
                idle := l.idle }
      timer := timer
      events :=
        h.events ++ (if l.filter.dominant then [] else [.edge l.stretch l.cell]) ++
          dominantMeaning stretch ++
          (if timer = stuckSamples ∧ h.timer ≠ stuckSamples then [.stuck] else []) }
  else
    let stretch := if l.filter.dominant then 1 else countOn l.stretch
    { line := { filter := f, stretch := stretch, cell := countOn l.cell
                idle := (!l.filter.dominant && l.idle) || decide (120 ≤ stretch) }
      timer := 0
      events :=
        h.events ++ (if l.filter.dominant then dominantEnd l.stretch l.idle else []) ++
          recessiveMeaning stretch }

/-- A run of equal samples. -/
def hearRun (dominant : Bool) : Nat → Heard → Heard
  | 0, h => h
  | n + 1, h => hearRun dominant n (hearSample dominant h)

/-- The samples of a wave, in their order. -/
def hearWave (w : Wave) (h : Heard) : Heard := w.foldl (fun h run => hearRun run.1 run.2 h) h

/-- A level held for at most so many samples, until it brings such an event. -/
def hearUntil (stop : LineEvent → Bool) (dominant : Bool) : Nat → Heard → Heard
  | 0, h => h
  | n + 1, h =>
      if h.events.any stop then h else hearUntil stop dominant n (hearSample dominant h)

/-! ## The samples of a frame (R143) -/

/-- A ONE is 10 samples dominant and 30 recessive, a ZERO 30 and 10. -/
def cellWave (bit : Bool) : Wave := if bit then [(true, 10), (false, 30)] else [(true, 30), (false, 10)]

/-- The SOF is 120 samples dominant and 40 recessive. -/
def sofWave : Wave := [(true, 120), (false, 40)]

/-- What a transmitter drives for these bytes, from the SOF's start on; after it, recessive. -/
def frameWave (bytes : List Byte) : Wave := sofWave ++ (bytesBits bytes).flatMap cellWave

/-- How many samples of the present cell have passed on the line: its edge there lies 7 samples before the
moment at which the filter reports it (R143). -/
def Line.cellPlace (l : Line) : Nat := l.cell + 6

/-- A wave without its first samples. -/
def dropSamples : Nat → Wave → Wave
  | _, [] => []
  | n, (dominant, k) :: rest => if n < k then (dominant, k - n) :: rest else dropSamples (n - k) rest

/-- What is left of the cells of `bits`, of which so many have been read, timed from the edge of the present
cell (R143). Before the first of them is the cell that `lead` gives. -/
def restOfCells (lead : Wave) (bits : List Bool) (read : Nat) (l : Line) : Wave :=
  let cells (b : List Bool) : Wave := b.flatMap cellWave
  dropSamples l.cellPlace
    (if l.filter.dominant then cells (bits.drop read)
     else if read = 0 then lead ++ cells bits
     else cells (bits.drop (read - 1)))

/-- The first samples of a wave. -/
def firstSamples : Nat → Wave → Wave
  | _, [] => []
  | n, (dominant, k) :: rest => (dominant, min n k) :: firstSamples (n - k) rest

/-! ## Reading a frame -/

/-- The bit that a symbol is. -/
def Symbol.bit? : Symbol → Option Bool
  | .one => some true
  | .zero => some false
  | .sof | .brk | .invalid => none

/-- The error kind of a symbol met where a bit was due. A SOF there is INVALID (R147). -/
def Symbol.fault : Symbol → ErrKind
  | .brk => .brk
  | .one | .zero | .sof | .invalid => .invalid

/-- Whether a dominant edge comes in time (R142): 10 to 50 samples after the SOF for the first bit, and
36 to 44 samples after the edge of the bit before it for every other. -/
def edgeInTime (bits recessive cell : Nat) : Bool :=
  if bits = 0 then decide (10 ≤ recessive ∧ recessive ≤ 50) else decide (36 ≤ cell ∧ cell ≤ 44)

/-- The bits of a frame from its SOF up to its EOD; none for an INVALID symbol, a BREAK, or no EOD. -/
def readFrame (started : Bool) (bits : List Bool) : List LineEvent → Option (List Bool)
  | [] => none
  | .symbol x :: es =>
      if started then
        match x.bit? with
        | some b => readFrame true (bits ++ [b]) es
        | none => none
      else if x = .sof then readFrame true [] es
      else none
  | .edge r c :: es =>
      if started = true ∧ edgeInTime bits.length r c = false then none else readFrame started bits es
  | .eod :: es => if started then some bits else readFrame started bits es
  | .passes14 :: es | .ifrTurn :: es | .eof :: es | .idle :: es | .stuck :: es => readFrame started bits es

/-- The whole bytes that these bits spell. -/
def bitsBytes (bits : List Bool) : List Byte :=
  (List.range (bits.length / 8)).map fun k => byteOf (bitsNat ((bits.drop (8 * k)).take 8))

end Sys2Proof.Machine
end

