-- ==== Sys2Proof/Machine/Flags.lean ====
section
/-! DEFINITION. Machine/Flags.lean: reading and writing the internal flags F0 to F13 by number (R78,
R79). Delivering a flag change is Machine/Conditions.lean's. -/

namespace Sys2Proof.Machine

/-- The flags by name, in the order F0 to F13. -/
inductive FlagId where
  | vlinkStuck | displayLost | gatewayLost | tachoLost | relayOverflow | lampFault | gaugeFault
  | speedMismatch | configFault | underVoltage | overVoltage | addressConflict | driverUnsynced
  | service
  deriving DecidableEq, Repr

/-- n of Fn. -/
def FlagId.number : FlagId → Nat
  | .vlinkStuck => 0
  | .displayLost => 1
  | .gatewayLost => 2
  | .tachoLost => 3
  | .relayOverflow => 4
  | .lampFault => 5
  | .gaugeFault => 6
  | .speedMismatch => 7
  | .configFault => 8
  | .underVoltage => 9
  | .overVoltage => 10
  | .addressConflict => 11
  | .driverUnsynced => 12
  | .service => 13

/-- Whether Fn is set, as the Condition Unit and the status record read it. -/
def flagNumber (s : State) (n : Nat) : Bool :=
  match n with
  | 0 => s.run.flags.vlinkStuck
  | 1 => s.run.flags.displayLost
  | 2 => s.run.flags.gatewayLost
  | 3 => s.run.flags.tachoLost
  | 4 => s.run.flags.relayOverflow
  | 5 => s.run.flags.lampFault
  | 6 => s.run.flags.gaugeFault
  | 7 => s.run.flags.speedMismatch
  | 8 => s.run.flags.configFault
  | 9 => s.run.flags.underVoltage
  | 10 => s.run.flags.overVoltage
  | 11 => s.run.flags.addressConflict
  | 12 => s.dtu.unsynced
  | 13 => s.run.flags.service
  | _ => false

def getFlag (s : State) (f : FlagId) : Bool := flagNumber s f.number

/-- Store a flag's new value, without delivering a change. -/
def putFlag (s : State) (f : FlagId) (v : Bool) : State :=
  match f with
  | .vlinkStuck => { s with run.flags.vlinkStuck := v }
  | .displayLost => { s with run.flags.displayLost := v }
  | .gatewayLost => { s with run.flags.gatewayLost := v }
  | .tachoLost => { s with run.flags.tachoLost := v }
  | .relayOverflow => { s with run.flags.relayOverflow := v }
  | .lampFault => { s with run.flags.lampFault := v }
  | .gaugeFault => { s with run.flags.gaugeFault := v }
  | .speedMismatch => { s with run.flags.speedMismatch := v }
  | .configFault => { s with run.flags.configFault := v }
  | .underVoltage => { s with run.flags.underVoltage := v }
  | .overVoltage => { s with run.flags.overVoltage := v }
  | .addressConflict => { s with run.flags.addressConflict := v }
  | .driverUnsynced => { s with dtu.unsynced := v }
  | .service => { s with run.flags.service := v }

/-- The two flag bytes of the status result and the STATUS notice: F13 to F8, then F7 to F0 (R188). -/
def flagBytes (s : State) : List Byte :=
  bytes2 ((List.range 14).foldl (fun acc n => acc + 2 ^ n * boolNat (flagNumber s n)) 0)

/-- F9 or F10 is set: the supply is out of its band (R56). -/
def supplyFault (s : State) : Bool := s.run.flags.underVoltage || s.run.flags.overVoltage

end Sys2Proof.Machine
end

