-- ==== Sys2Proof/Machine/Ops.lean ====
section
/-! DEFINITION. Machine/Ops.lean: the named operations over lists and over the Table Store, and the
accessors the units share. -/

namespace Sys2Proof.Machine

/-! ## Lists -/

/-- Replace place `i` of a list by `f` of it; a place beyond the end changes nothing. -/
def updAt {α : Type} : List α → Nat → (α → α) → List α
  | [], _, _ => []
  | x :: xs, 0, f => f x :: xs
  | x :: xs, i + 1, f => x :: updAt xs i f

/-- The last element that satisfies `p`, with its place. -/
def lastWhere {α : Type} (p : α → Bool) : List α → Nat → Option (Nat × α)
  | [], _ => none
  | x :: xs, i =>
      match lastWhere p xs (i + 1) with
      | some r => some r
      | none => if p x then some (i, x) else none

/-- Apply `f` to every element with its place, the first place being `i`. -/
def mapFrom {α β : Type} (f : Nat → α → β) (i : Nat) : List α → List β
  | [] => []
  | x :: xs => f i x :: mapFrom f (i + 1) xs

/-- Remove the first element that satisfies `p`. -/
def dropFirst {α : Type} (p : α → Bool) : List α → List α
  | [] => []
  | x :: xs => if p x then xs else x :: dropFirst p xs

/-! ## Table entries -/

def Entry.get? {α : Type} : Entry α → Option α
  | .enabled a => some a
  | .disabled | .unused => none

/-- The enabled entry `i` of a working table; any other is none. -/
def entryAt {α : Type} (t : List (Entry α)) (i : Nat) : Option α := (t.getD i .unused).get?

def routeAt (s : State) (n : Nat) : Option LiveRoute := entryAt s.run.tables.routes n
def descAt (s : State) (n : Nat) : Option SigDesc := entryAt s.run.tables.signals n
def gaugeAt (s : State) (n : Nat) : Option Gauge := entryAt s.run.tables.gauges n
def condAt (s : State) (j : Nat) : Option Condition := entryAt s.run.tables.conds j
def lampAt (s : State) (n : Nat) : Option Lamp := entryAt s.run.tables.lamps n
def inputAt (s : State) (n : Nat) : Option InputCfg := entryAt s.run.tables.inputs n

def signalAt (s : State) (i : Nat) : SigEntry := s.run.signals.getD i SigEntry.initial
def channelAt (s : State) (n : Nat) : Channel := s.run.gu.channels.getD n Channel.initial
def condRec (s : State) (j : Nat) : CondRec := s.run.cu.recs.getD j CondRec.initial
def lampRec (s : State) (n : Nat) : LampRec := s.run.tu.lamps.getD n LampRec.initial
def debounceAt (s : State) (n : Nat) : Debounce := s.run.iu.inputs.getD n Debounce.initial

/-- A value is usable when its status is VALID or CLAMPED (R23). -/
def SigStatus.usable : SigStatus → Bool
  | .valid | .clamped => true
  | .never | .notAvailable | .errorCode | .stale => false

/-- The usable value of entry `i`, if it has one. -/
def usableAt (s : State) (i : Nat) : Option Int :=
  let e := signalAt s i
  if e.status.usable then some e.value else none

/-- The usable value of an optional signal; an absent signal is not usable. -/
def usableOpt (s : State) (i : Option Nat) : Option Int :=
  match i with
  | some n => usableAt s n
  | none => none

/-! ## Power and modes -/

/-- The run domain is powered in every mode but STANDBY (section 2.2). -/
def powered (s : State) : Bool := decide (s.mode ≠ .standby)

/-- STARTUP, RUN or SERVICE: the modes in which notices are placed (R103, R127, R165). -/
def noticing (s : State) : Bool := decide (s.mode = .startup ∨ s.mode = .run ∨ s.mode = .service)

/-- DATA frames are routed in RUN and SERVICE, and in STARTUP after activation (R5). -/
def routing (s : State) : Bool :=
  decide (s.mode = .run ∨ s.mode = .service ∨ (s.mode = .startup ∧ s.phase = .gaugesAndLamps))

/-! ## The Table Store (R161, R179)

Each entry has a row of 64 addresses: its field groups' bytes in ascending group order, then its
check byte. An address nothing has written reads as 0xFF, so a fresh store is erased throughout. -/

/-- The number of the first entry of a table, the tables taken in validation order (R162). -/
def TableId.base : TableId → Nat
  | .route => 0
  | .signal => 96
  | .gauge => 256
  | .condition => 262
  | .lamp => 326
  | .input => 358
  | .drive => 374

/-- The address of byte `k` of an entry; k = 6 × groups is its check byte. -/
def storeAddress (t : TableId) (index k : Nat) : Nat := 64 * (t.base + index) + k

/-- One byte of the store. -/
def storeRead (m : List Host.Cell) (a : Nat) : Byte :=
  match m with
  | [] => Config.erasedByte
  | (b, v) :: rest => if a = b then v else if a < b then Config.erasedByte else storeRead rest a

/-- Put a cell before the first cell of a higher address; a byte equal to the erased one is not listed. -/
def storeCons (a : Nat) (v : Byte) (m : List Host.Cell) : List Host.Cell :=
  if v = Config.erasedByte then m else (a, v) :: m

/-- Write one byte, keeping the canonical form. -/
def storeWrite (m : List Host.Cell) (a : Nat) (v : Byte) : List Host.Cell :=
  match m with
  | [] => storeCons a v []
  | (b, w) :: rest =>
      if a = b then storeCons a v rest
      else if a < b then storeCons a v ((b, w) :: rest)
      else (b, w) :: storeWrite rest a v

/-- Every address is above `low`, addresses rise strictly, and no cell holds the erased byte. -/
def storeRises (low : Nat) : List Host.Cell → Bool
  | [] => true
  | (a, v) :: rest => decide (low ≤ a) && decide (v ≠ Config.erasedByte) && storeRises (a + 1) rest

/-- The canonical form of the store (Memory.wf). -/
def storeWf (m : List Host.Cell) : Bool := storeRises 0 m

/-- Write bytes at consecutive addresses. -/
def storeWriteAll (m : List Host.Cell) (a : Nat) : List Byte → List Host.Cell
  | [] => m
  | v :: vs => storeWriteAll (storeWrite m a v) (a + 1) vs

/-- The field-group bytes of an entry, in ascending group order. -/
def storeImage (m : List Host.Cell) (t : TableId) (index : Nat) : List Byte :=
  (List.range (6 * t.groups)).map fun k => storeRead m (storeAddress t index k)

def storeCheck (m : List Host.Cell) (t : TableId) (index : Nat) : Byte :=
  storeRead m (storeAddress t index (6 * t.groups))

/-- The store state of an entry (R161, R179). -/
inductive StoreState where
  | erased | good | bad
  deriving DecidableEq, Repr

def storeStateOf (m : List Host.Cell) (t : TableId) (index : Nat) : StoreState :=
  let image := storeImage m t index
  let check := storeCheck m t index
  if image.all (· = 0xFF#8) ∧ check = 0xFF#8 then .erased
  else if check = crc8 image then .good
  else .bad

/-- WRITE ENTRY's change of the store: six bytes into one group, then the check byte over all the
entry's groups (R180). -/
def writeGroup (m : List Host.Cell) (t : TableId) (index group : Nat) (bytes : List Byte) :
    List Host.Cell :=
  let m' := storeWriteAll m (storeAddress t index (6 * group)) bytes
  storeWrite m' (storeAddress t index (6 * t.groups)) (crc8 (storeImage m' t index))

end Sys2Proof.Machine
end

