-- ==== Sys2Proof/Machine/Queues.lean ====
section
/-! DEFINITION. Machine/Queues.lean: the frames the 460 builds itself (R189), and the placement and
removal rules of the three transmit queues (R14 to R18, R187). Overflow (R19) needs a flag change
and is in Machine/Traffic.lean. -/

namespace Sys2Proof.Machine

/-- A new, waiting queue entry (R14). -/
def newEntry (frames : NoticeFrames) (origin : Origin) : QEntry :=
  { frame0 := frames.1, frame1 := frames.2, origin := origin, inFlight := false, part := 0
    attempted := false, errors := 0 }

/-- The frame of the part that is sent next (R187). -/
def QEntry.current (e : QEntry) : Frame :=
  if e.part = 0 then e.frame0 else e.frame1.getD e.frame0

/-- Part 0 has been sent and part 1 is still to be sent. -/
def QEntry.partsLeft (e : QEntry) : Bool := decide (e.part = 0) && e.frame1.isSome

/-! ## Vehicle Transmit Queue (R15, R16) -/

/-- R15: behind every waiting entry of the same or a more urgent priority, never ahead of an entry
in flight. -/
def vtqInsert (e : QEntry) : List QEntry → List QEntry
  | [] => [e]
  | x :: xs =>
      if x.inFlight = true ∨ x.frame0.prio ≤ e.frame0.prio then x :: vtqInsert e xs else e :: x :: xs

/-- A waiting entry of this origin. -/
def waitingOf (o : Origin) (e : QEntry) : Bool := decide (e.origin = o) && !e.inFlight

/-- Replace the frame of the waiting entry of an origin, in place (R16). -/
def replaceFrame (o : Origin) (frames : NoticeFrames) : List QEntry → List QEntry
  | [] => []
  | x :: xs =>
      if waitingOf o x then { x with frame0 := frames.1, frame1 := frames.2 } :: xs
      else x :: replaceFrame o frames xs

/-- A new entry in the VTQ; none when the queue is full (R15, R19). -/
def vtqNew (e : QEntry) (q : List QEntry) : Option (List QEntry) :=
  if q.length < Config.vtqCapacity then some (vtqInsert e q) else none

/-- R16 in the VTQ: in place at an equal priority, otherwise taken out and placed again. -/
def vtqLatest (e : QEntry) (q : List QEntry) : Option (List QEntry) :=
  match q.find? (waitingOf e.origin) with
  | some old =>
      if old.frame0.prio = e.frame0.prio then some (replaceFrame e.origin (e.frame0, e.frame1) q)
      else some (vtqInsert e (dropFirst (waitingOf e.origin) q))
  | none => vtqNew e q

/-! ## Display Relay Queue (R16, R17) -/

def drqNew (e : QEntry) (q : List QEntry) : Option (List QEntry) :=
  if q.length < Config.drqCapacity then some (q ++ [e]) else none

def drqLatest (e : QEntry) (q : List QEntry) : Option (List QEntry) :=
  if q.any (waitingOf e.origin) then some (replaceFrame e.origin (e.frame0, e.frame1) q)
  else drqNew e q

/-! ## Display Urgent Queue (R18) -/

def Queues.pendingOf (q : Queues) : NoticeType → Option NoticeFrames
  | .telltale => q.pendTelltale
  | .drivetime => q.pendDrivetime
  | .status => q.pendStatus

def Queues.setPending (q : Queues) (t : NoticeType) (f : Option NoticeFrames) : Queues :=
  match t with
  | .telltale => { q with pendTelltale := f }
  | .drivetime => { q with pendDrivetime := f }
  | .status => { q with pendStatus := f }

/-- R18: replace a waiting notice of the type, else place it at the tail, else (one is in flight)
hold it as the pending notice of the type. -/
def Queues.placeNotice (q : Queues) (t : NoticeType) (f : NoticeFrames) : Queues :=
  match q.duq.find? (fun e => decide (e.origin = .notice t)) with
  | some e =>
      if e.inFlight then q.setPending t (some f)
      else { q with duq := replaceFrame (.notice t) f q.duq }
  | none => { q with duq := q.duq ++ [newEntry f (.notice t)] }

/-- Remove the DUQ's head; when it was a notice, its pending successor goes to the tail (R18). -/
def Queues.duqRemoveHead (q : Queues) : Queues :=
  match q.duq with
  | [] => q
  | e :: rest =>
      let q' := { q with duq := rest }
      match e.origin with
      | .notice t =>
          match q'.pendingOf t with
          | some f => { q' with duq := rest ++ [newEntry f (.notice t)] }.setPending t none
          | none => q'
      | .route _ | .broadcast | .resultReply | .busyReply => q'

/-- Change the head of a queue. -/
def updHead (q : List QEntry) (f : QEntry → QEntry) : List QEntry :=
  match q with
  | [] => []
  | e :: rest => f e :: rest

/-- A first attempt puts an entry in flight with error count 0 (R14, R152); the part is attempted. -/
def QEntry.begin_ (e : QEntry) : QEntry :=
  { e with inFlight := true, attempted := true, errors := if e.inFlight then e.errors else 0 }

/-- Go on with part 1 of a two-part item (R187). -/
def QEntry.nextPart (e : QEntry) : QEntry := { e with part := 1, attempted := false }

/-! ## Notices (R189) -/

def noteFrame (noticeCode part : Nat) (payload : List Byte) : Frame :=
  { kind := .note, prio := 0, ident := 256 * noticeCode + part, target := 0, source := 0
    payload := payload }

/-- The set of the lamps whose record satisfies `p`. -/
def lampsWhere (s : State) (p : LampRec → Bool) : BitVec 32 :=
  BitVec.ofNat 32 ((List.range 32).foldl (fun acc n => acc + 2 ^ n * boolNat (p (lampRec s n))) 0)

/-- The newest unacknowledged Alert List entry (R95, R103), with its place. -/
def newestUnacked (l : List Alert) : Option (Nat × Alert) := lastWhere (fun a => !a.acked) l 0

/-- The head item of the Tell-tale notice: a condition index, or 127 for none. -/
def alertHead (l : List Alert) : Nat :=
  match newestUnacked l with
  | some (_, a) => a.cond
  | none => 127

/-- The items the Tell-tale notice carries (R103), as its payload. -/
def telltalePayload (s : State) : List Byte :=
  lampSetBytes (lampsWhere s LampRec.requested) ++ lampSetBytes (lampsWhere s LampRec.alarmBlink) ++
    [byteOf (128 * boolNat s.run.flags.lampFault + alertHead s.run.tu.alerts),
      byteOf s.run.tu.alerts.length]

/-- The record of a digest in the Driver Accounting Table. -/
def driverOf (s : State) (digest : Nat) : Option Driver :=
  s.dtu.drivers.find? fun d => decide (d.digest = digest)

/-- The digest bound to slot 1 or slot 2. -/
def slotDigest (s : State) (slot : Nat) : Option Nat := if slot = 1 then s.dtu.slot1 else s.dtu.slot2

/-- The record bound to a slot. -/
def slotDriver (s : State) (slot : Nat) : Option Driver :=
  match slotDigest s slot with
  | some d => driverOf s d
  | none => none

/-- The stage of a slot: NONE while it is empty (R109). -/
def slotStage (s : State) (slot : Nat) : Stage :=
  match slotDriver s slot with
  | some d => d.stage
  | none => .none

/-- One part of the Drive-time notice (R127, R189). -/
def drivetimePart (s : State) (slot : Nat) : List Byte :=
  match slotDriver s slot with
  | some d =>
      [slotStateByte true d.synced d.inferred d.activity d.stage] ++ bytes2 d.digest ++
        bytes2 d.cont ++ bytes2 d.daily ++ bytes2 d.remaining
  | none => slotStateByte false false false .none .none :: List.replicate 8 0#8

/-- Channel n's coil fault in bits 2n + 1 and 2n (R189). -/
def gaugeFaultNumber (faults : List CoilFault) : Nat :=
  (List.range 6).foldl (fun acc n => acc + 4 ^ n * coilFaultCode (faults.getD n .none)) 0

/-- The two parts of the STATUS notice (R165, R189). -/
def statusPart0 (s : State) : List Byte :=
  [byteOf (modeCode s.mode)] ++ flagBytes s ++ [byteOf (boolNat s.run.mu.storeDiffers)] ++
    bytes2 s.run.mc.disabledCount ++ bytes2 (gaugeFaultNumber s.run.mc.gaugeFaults)

def statusPart1 (s : State) : List Byte :=
  lampSetBytes s.run.mc.openLamps ++ lampSetBytes s.run.mc.shortLamps

/-- The frames of a notice, as the items stand now. -/
def noticeFrames (s : State) (t : NoticeType) : NoticeFrames :=
  match t with
  | .telltale => (noteFrame 1 0 (telltalePayload s), none)
  | .drivetime => (noteFrame 2 0 (drivetimePart s 1), some (noteFrame 2 1 (drivetimePart s 2)))
  | .status => (noteFrame 3 0 (statusPart0 s), some (noteFrame 3 1 (statusPart1 s)))

/-- Place a notice whatever the mode. -/
def placeNotice (t : NoticeType) (s : State) : State :=
  { s with run.queues := s.run.queues.placeNotice t (noticeFrames s t) }

/-- Place a notice while the mode is STARTUP, RUN or SERVICE (R103, R127, R165). -/
def noticeIfOn (t : NoticeType) (s : State) : State := if noticing s then placeNotice t s else s

/-- Place a Tell-tale notice when an item it carries differs from before (R103). -/
def telltaleIfChanged (before s : State) : State :=
  if telltalePayload before = telltalePayload s then s else noticeIfOn .telltale s

end Sys2Proof.Machine
end

