-- ==== Sys2Proof/Machine/Telltale.lean ====
section
/-! DEFINITION. Machine/Telltale.lean: the Tell-tale Unit's own operations: the chime (R98 to R102),
the lamps' requests, pattern phases and outputs (R84 to R86), the Alert List (R92 to R94, R97) and
the handling of one condition change (R83). -/

namespace Sys2Proof.Machine

/-! ## The chime -/

def Pattern.rank : Pattern → Nat
  | .check => 1
  | .single => 2
  | .triple => 3
  | .rep => 4

/-- R98's Sound: whether the pattern is tone, not silence, so many ms after it began. -/
def Pattern.tone (p : Pattern) (ms : Nat) : Bool :=
  match p with
  | .check => decide (ms < 100)
  | .single => decide (ms < 200)
  | .triple | .rep => decide (ms < 150 ∨ (300 ≤ ms ∧ ms < 450) ∨ (600 ≤ ms ∧ ms < 750))

/-- The chime output: tone at the position held, or silence (R98, R100). -/
def chimeOutput (s : State) : Bool :=
  match s.run.tu.chime.playing with
  | some p => p.pattern.tone p.at_
  | none => false

/-- A request joins the queue, which keeps one entry for each pattern, highest rank first. -/
def queuePattern (p : Pattern) : List Pattern → List Pattern
  | [] => [p]
  | x :: xs =>
      if x = p then x :: xs
      else if x.rank < p.rank then p :: x :: xs
      else x :: queuePattern p xs

def Chime.start (c : Chime) (p : Pattern) : Chime := { c with playing := some { pattern := p, at_ := 0 } }

/-- The highest-ranked queued pattern starts; with an empty queue the chime is silent (R99). -/
def Chime.next (c : Chime) : Chime :=
  match c.queue with
  | p :: rest => { playing := some { pattern := p, at_ := 0 }, queue := rest }
  | [] => { playing := none, queue := [] }

/-- A request while the chime may sound (R99). -/
def Chime.request (c : Chime) (p : Pattern) : Chime :=
  match c.playing with
  | none => c.start p
  | some cur => if cur.pattern.rank < p.rank then c.start p else { c with queue := queuePattern p c.queue }

/-- REPEAT is withdrawn (R100): stopped while it plays, taken out of the queue while it waits. -/
def Chime.withdraw (c : Chime) : Chime :=
  let c' := { c with queue := c.queue.filter (· ≠ .rep) }
  match c.playing with
  | some cur => if cur.pattern = .rep then c'.next else c'
  | none => c'

/-- F9 becomes set: the pattern playing is abandoned, REPEAT goes back to the queue (R101). -/
def Chime.abandon (c : Chime) : Chime :=
  match c.playing with
  | some cur =>
      { playing := none, queue := if cur.pattern = .rep then queuePattern .rep c.queue else c.queue }
  | none => c

/-- A chime request from an activation, an escalation or the lamp check, in the mode as it stands
(R99, R101): discarded in SERVICE and SHUTDOWN, queued while F9 is set. -/
def chimeRequest (p : Pattern) (s : State) : State :=
  if s.mode = .startup ∨ s.mode = .run then
    if s.run.flags.underVoltage then
      { s with run.tu.chime.queue := queuePattern p s.run.tu.chime.queue }
    else { s with run.tu.chime := s.run.tu.chime.request p }
  else s

/-- The pattern playing is stopped and the queue is emptied (SERVICE entry, SHUTDOWN entry). -/
def chimeSilence (s : State) : State := { s with run.tu.chime := Chime.initial }

/-- Start the highest-ranked queued pattern when nothing plays and the chime may sound (R101). -/
def chimeResume (s : State) : State :=
  if s.run.tu.chime.playing = none ∧ s.run.flags.underVoltage = false then
    { s with run.tu.chime := s.run.tu.chime.next }
  else s

/-- An entry stands at escalation level 2. -/
def anyLevel2 (l : List Alert) : Bool := l.any fun a => decide (a.level = 2)

/-- When the last entry at level 2 has left it, REPEAT is withdrawn (R97). -/
def withdrawIfNone (before : List Alert) (s : State) : State :=
  if anyLevel2 before = true ∧ anyLevel2 s.run.tu.alerts = false then
    { s with run.tu.chime := s.run.tu.chime.withdraw }
  else s

/-! ## Lamps -/

/-- A condition of the view has an unacknowledged ALARM entry (R84). -/
def alarmBlinks (view : BitVec 64) (alerts : List Alert) : Bool :=
  alerts.any fun a => !a.acked && decide (a.severity = .alarm) && view.getLsbD a.cond

/-- Set the alarm-blink of every lamp afresh (R84). -/
def refreshBlink (s : State) : State :=
  { s with run.tu.lamps :=
      s.run.tu.lamps.map fun r => { r with alarmBlink := alarmBlinks r.view s.run.tu.alerts } }

/-- The number of timebase steps in a period (R85). -/
def Period.steps : Period → Nat
  | .ms250 => 8
  | .ms500 => 16
  | .ms1000 => 32
  | .ms2000 => 64

/-- The pattern phase of a lamp at a timebase count: LIT or DARK (R85). -/
def patternLit (l : Lamp) (count : Nat) : Bool :=
  let place := count % l.period.steps
  let lit := l.onTime * (l.period.steps / 8)
  decide (place < lit) ||
    (decide (l.pulses = 2) && decide (2 * lit ≤ place) && decide (place < 3 * lit))

/-- The output of a lamp: the first row of R86's table that applies. -/
def lampOutput (s : State) (n : Nat) (r : LampRec) : Bool :=
  if s.mode = .standby then false
  else if r.load = .shorted then false
  else if s.run.flags.overVoltage then false
  else if s.mode = .shutdown then false
  else
    match r.forced with
    | some on => on
    | none =>
        if s.run.tu.lampCheck.isSome && ((lampAt s n).map Lamp.check).getD false then true
        else if r.requested && r.alarmBlink then r.lit
        else r.requested

/-- Decide every output afresh (R86). -/
def driveLamps (s : State) : State :=
  { s with run.tu.lamps := mapFrom (fun n r => { r with output := lampOutput s n r }) 0 s.run.tu.lamps }

/-- The states in which a condition lights its lamps (R83 step 1). -/
def CondState.lights : CondState → Bool
  | .active | .pendingOff | .latched => true
  | .inactive | .pendingOn | .suspended => false

/-- Add a condition to a set, or take it out. -/
def viewWith (view : BitVec 64) (j : Nat) (member : Bool) : BitVec 64 :=
  if member then view ||| (1#64 <<< j) else view &&& ~~~(1#64 <<< j)

/-- Step 1 of R83 for one lamp. -/
def lampChange (s : State) (j : Nat) (now : CondState) (n : Nat) (r : LampRec) : LampRec :=
  match lampAt s n with
  | some l =>
      if l.mask.getLsbD j then
        let view := viewWith r.view j now.lights
        { r with view := view, requested := decide (view ≠ 0#64) }
      else r
  | none => r

/-! ## The Alert List -/

/-- The escalation timer of a new or moved entry (R97): E seconds for an ALARM with an escalation time. -/
def escStart (c : Condition) (paused : Bool) : Option EscTimer :=
  if c.severity = .alarm ∧ c.escalation ≠ 0 then
    some { left := 1000 * c.escalation, running := !paused }
  else none

def newAlert (c : Condition) (j : Nat) (paused : Bool) : Alert :=
  { cond := j, severity := c.severity, acked := false, level := 0, timer := escStart c paused }

/-- R93: the list with j's entry at the tail, and the condition whose entry was evicted. -/
def alertEnter (c : Condition) (j : Nat) (paused : Bool) (l : List Alert) :
    List Alert × Option Nat :=
  let e := newAlert c j paused
  if l.any (fun a => decide (a.cond = j)) then (l.filter (fun a => decide (a.cond ≠ j)) ++ [e], none)
  else if l.length < Config.alertCapacity then (l ++ [e], none)
  else
    match l.find? Alert.acked with
    | some old => (dropFirst Alert.acked l ++ [e], some old.cond)
    | none =>
        if c.severity = .alarm then
          match l.find? (fun a => decide (a.severity = .warn)) with
          | some old => (dropFirst (fun a => decide (a.severity = .warn)) l ++ [e], some old.cond)
          | none => (l, none)
        else (l, none)

/-- R94: on a deactivation an unacknowledged ALARM entry is kept, any other is removed. -/
def alertLeave (j : Nat) (l : List Alert) : List Alert :=
  l.filterMap fun a =>
    if a.cond = j then
      if a.acked = false ∧ a.severity = .alarm then some { a with level := 0, timer := none } else none
    else some a

/-- R97: an entry's timer is paused while its condition is LATCHED or PENDING_OFF, and runs on when
a PENDING_OFF condition returns to ACTIVE. -/
def alertPause (j : Nat) (running : Bool) (l : List Alert) : List Alert :=
  l.map fun a =>
    if a.cond = j then
      match a.timer with
      | some t => { a with timer := some { t with running := running } }
      | none => a
    else a

/-- A change whose new state is ACTIVE and whose previous state is not PENDING_OFF (R74). -/
def isActivation (old now : CondState) : Bool := decide (now = .active) && decide (old ≠ .pendingOff)

/-- A change from ACTIVE, PENDING_OFF or LATCHED to INACTIVE or SUSPENDED (R74). -/
def isDeactivation (old now : CondState) : Bool :=
  old.lights && decide (now = .inactive ∨ now = .suspended)

/-- Step 2 of R83: the Alert List, and the condition evicted from it. -/
def alertChange (s : State) (c : Condition) (j : Nat) (old now : CondState) :
    List Alert × Option Nat :=
  let l := s.run.tu.alerts
  let shutdown := decide (s.mode = .shutdown)
  if isActivation old now then
    if c.announce then alertEnter c j shutdown l else (l, none)
  else if isDeactivation old now then (alertLeave j l, none)
  else if now = .latched ∨ now = .pendingOff then (alertPause j false l, none)
  else if now = .active then (alertPause j (!shutdown) l, none)
  else (l, none)

/-- Step 3 of R83: the chime an activation requests. -/
def chimeOf (c : Condition) (old now : CondState) (s : State) : State :=
  if isActivation old now && c.chime then
    match c.severity with
    | .info => s
    | .warn => chimeRequest .single s
    | .alarm => chimeRequest .triple s
  else s

/-- Put a changed Alert List in place, with its effect on REPEAT (R97). -/
def setAlerts (l : List Alert) (s : State) : State :=
  withdrawIfNone s.run.tu.alerts { s with run.tu.alerts := l }

/-- R83: the Tell-tale Unit takes one condition change whole; the condition whose entry was evicted
is handed back for its release. -/
def telltaleChange (j : Nat) (old now : CondState) (s : State) : State × Option Nat :=
  match condAt s j with
  | none => (s, none)
  | some c =>
      let s1 := { s with run.tu.lamps := mapFrom (lampChange s j now) 0 s.run.tu.lamps }
      let (l, evicted) := alertChange s1 c j old now
      let s2 := chimeOf c old now (setAlerts l s1)
      (telltaleIfChanged s (driveLamps (refreshBlink s2)), evicted)

end Sys2Proof.Machine
end

