-- ==== Sys2Proof/Machine/Conditions.lean ====
section
/-! DEFINITION. Machine/Conditions.lean: the Condition Unit (R62 to R76), the cascade of condition
changes through the Tell-tale Unit (R71, R73, R74), acknowledgement (R96), and the delivery of flag
and stage changes (R78, R109). -/

namespace Sys2Proof.Machine

/-! ## Source truth (R63, R64) -/

/-- The rank of a stage, lowest first (R64). -/
def Stage.rank : Stage → Nat
  | .none => 0
  | .preWarn => 1
  | .limit => 2
  | .over => 3

/-- The truth of a condition's source; `none` is unknown, for the threshold kinds alone. -/
def sourceTruth (s : State) (c : Condition) (remembered : Bool) : Option Bool :=
  match c.source with
  | .above i =>
      match usableAt s i with
      | some v => some (if c.set ≤ v then true else if v < c.clear then false else remembered)
      | none => none
  | .below i =>
      match usableAt s i with
      | some v => some (if v ≤ c.set then true else if c.clear < v then false else remembered)
      | none => none
  | .unusable i => some (!(signalAt s i).status.usable)
  | .input n => some (debounceAt s n).active
  | .flag n => some (flagNumber s n)
  | .stage slot atLeast => some (decide (atLeast.rank ≤ (slotStage s slot).rank))

/-- Only the threshold kinds remember a truth, and only one decided from a usable value (R63). -/
def remember (c : Condition) (truth : Option Bool) (remembered : Bool) : Bool :=
  match c.source with
  | .above _ | .below _ => truth.getD remembered
  | .unusable _ | .input _ | .flag _ | .stage _ _ => remembered

/-! ## Transitions (R66 to R72) -/

/-- The Alert List holds an unacknowledged entry for the condition (R68). -/
def hasUnacked (s : State) (j : Nat) : Bool :=
  s.run.tu.alerts.any fun a => decide (a.cond = j) && !a.acked

/-- The latch choice (R68). -/
def latchChoice (s : State) (c : Condition) (j : Nat) : CondState :=
  if c.latch = true ∧ hasUnacked s j = true then .latched else .inactive

/-- Step 3 of R66 for a resolved truth (R67, R68, R70). -/
def condMove (s : State) (c : Condition) (j : Nat) (truth : Bool) (r : CondRec) : CondRec :=
  match r.state with
  | .inactive =>
      if truth then
        if c.onDelay = 0 then { r with state := .active, timer := none }
        else { r with state := .pendingOn, timer := some { kind := .on, left := 100 * c.onDelay } }
      else r
  | .pendingOn => if truth then r else { r with state := .inactive, timer := none }
  | .active =>
      if truth then r
      else if c.offDelay = 0 then { r with state := latchChoice s c j, timer := none }
      else { r with state := .pendingOff, timer := some { kind := .off, left := 100 * c.offDelay } }
  | .pendingOff => if truth then { r with state := .active, timer := none } else r
  | .latched => if truth then { r with state := .active, timer := none } else r
  | .suspended => r

/-- HOLD on an unknown source (R65): a running delay is cancelled. -/
def condHold (r : CondRec) : CondRec :=
  match r.state with
  | .pendingOn => { r with state := .inactive, timer := none }
  | .pendingOff => { r with state := .active, timer := none }
  | .inactive | .active | .latched | .suspended => r

/-- The qualifier is not ACTIVE (R72): everything but LATCHED is suspended. -/
def condSuspend (r : CondRec) : CondRec :=
  match r.state with
  | .latched => r
  | .inactive | .pendingOn | .active | .pendingOff | .suspended =>
      { r with state := .suspended, timer := none }

/-- A present qualifier is not ACTIVE. -/
def qualifierBlocks (s : State) (c : Condition) : Bool :=
  match c.qualifier with
  | some q => decide ((condRec s q).state ≠ .active)
  | none => false

/-- One evaluation of condition j from a record (R66). -/
def evalRec (s : State) (c : Condition) (j : Nat) (r : CondRec) : CondRec :=
  let truth := sourceTruth s c r.remembered
  let r1 := { r with remembered := remember c truth r.remembered }
  if qualifierBlocks s c then condSuspend r1
  else
    let r2 := if r1.state = .suspended then { r1 with state := .inactive, timer := none } else r1
    match truth with
    | some t => condMove s c j t r2
    | none =>
        match c.policy with
        | .hold => condHold r2
        | .forceTrue => condMove s c j true r2
        | .forceFalse => condMove s c j false r2

/-! ## The cascade (R71, R73, R74) -/

/-- What the Condition Unit still has to take inside one event. -/
inductive Task where
  | evaluate (j : Nat)
  | release (j : Nat)
  | changed (j : Nat) (old now : CondState)
  deriving DecidableEq, Repr

def putCondRec (s : State) (j : Nat) (r : CondRec) : State :=
  { s with run.cu.recs := updAt s.run.cu.recs j fun _ => r }

/-- Evaluate condition j, its record first set to `base`; a changed state is one condition change. -/
def evaluateFrom (s : State) (j : Nat) (base : CondRec → CondRec) : State × List Task :=
  match condAt s j with
  | none => (s, [])
  | some c =>
      if s.run.cu.evaluating then
        let old := condRec s j
        let new := evalRec s c j (base old)
        (putCondRec s j new, if old.state = new.state then [] else [.changed j old.state new.state])
      else (s, [])

/-- A release takes a LATCHED condition to INACTIVE before it is evaluated (R71). -/
def unlatch (r : CondRec) : CondRec := if r.state = .latched then { r with state := .inactive } else r

/-- Evaluate the conditions whose descriptor satisfies `p`, in ascending index (R73). -/
def watchers (s : State) (p : Condition → Bool) : List Task :=
  (List.range 64).filterMap fun j =>
    match condAt s j with
    | some c => if p c then some (.evaluate j) else none
    | none => none

/-- The release of an evicted condition that is LATCHED, with the change it causes (R93). R71 names a release
at every eviction, which for a condition that is not LATCHED is an evaluation; R93 names one only for a
LATCHED condition. The model follows R93 and evaluates no other evicted condition (DESIGN CHOICE, unsafe:
notes/assumptions/14.md). -/
def releaseEvicted (evicted : Option Nat) (s : State) : State × List Task :=
  match evicted with
  | some k => if (condRec s k).state = .latched then evaluateFrom s k unlatch else (s, [])
  | none => (s, [])

/-- One task: what it does to the state, and the tasks it causes, to be taken next. A change of j goes first to
the Tell-tale Unit and then to the conditions qualified by j (R74). The release of a condition that it evicts
comes after the Tell-tale Unit has finished (R83, R93); that it is taken, with its cascade, before the
conditions qualified by j is the model's choice, for the rules give no order of the two (DESIGN CHOICE, unsafe:
notes/assumptions/14.md). -/
def takeTask (t : Task) (s : State) : State × List Task :=
  match t with
  | .evaluate j => evaluateFrom s j id
  | .release j => evaluateFrom s j unlatch
  | .changed j old now =>
      let (s1, evicted) := telltaleChange j old now s
      let (s2, released) := releaseEvicted evicted s1
      (s2, released ++ watchers s2 fun c => decide (c.qualifier = some j))

/-- Take the tasks in order, each with the whole cascade it causes before the next is begun (R73). -/
def cascade : Nat → List Task → State → State
  | 0, _, s => s
  | _ + 1, [], s => s
  | fuel + 1, t :: ts, s =>
      let (s', caused) := takeTask t s
      cascade fuel (caused ++ ts) s'

/-- Take one event's tasks whole. -/
def runTasks (ts : List Task) (s : State) : State := cascade Config.cascadeBound ts s

/-! ## Evaluation events (R73) -/

/-- The signal a source watches. -/
def Source.signal? : Source → Option Nat
  | .above i | .below i | .unusable i => some i
  | .input _ | .flag _ | .stage _ _ => none

def conditionsOnSignal (i : Nat) (s : State) : State :=
  runTasks (watchers s fun c => decide (c.source.signal? = some i)) s

def conditionsOnInput (n : Nat) (s : State) : State :=
  runTasks (watchers s fun c => decide (c.source = .input n)) s

def conditionsOnFlag (n : Nat) (s : State) : State :=
  runTasks (watchers s fun c => decide (c.source = .flag n)) s

/-- The slot a DRIVE_STAGE source names. -/
def Source.slot? : Source → Option Nat
  | .stage slot _ => some slot
  | .above _ | .below _ | .unusable _ | .input _ | .flag _ => none

def conditionsOnStage (slot : Nat) (s : State) : State :=
  runTasks (watchers s fun c => decide (c.source.slot? = some slot)) s

/-- A state change that a unit makes outside an evaluation, with its cascade (R67, R68). -/
def changeCondition (j : Nat) (r : CondRec) (s : State) : State :=
  let old := (condRec s j).state
  runTasks (if old = r.state then [] else [.changed j old r.state]) (putCondRec s j r)

/-! ## Flag and stage changes (R78, R109, R165) -/

/-- Set or clear a flag. A change is delivered to the Condition Unit, then the Mode Controller
places its STATUS notice; F5 is also an item of the Tell-tale notice (R103). -/
def flagChange (f : FlagId) (v : Bool) (s : State) : State :=
  if getFlag s f = v then s
  else
    let s1 := conditionsOnFlag f.number (putFlag s f v)
    let s2 := if f = .lampFault then noticeIfOn .telltale s1 else s1
    noticeIfOn .status s2

/-- A stage change of a slot whose stage differs from before (R109). -/
def stageChange (slot : Nat) (before : Stage) (s : State) : State :=
  if slotStage s slot = before then s else conditionsOnStage slot s

/-! ## Acknowledgement (R95, R96) -/

/-- The entry an acknowledgement of condition j finds: j's, when it is unacknowledged. -/
def ackCondition (s : State) (j : Nat) : Option Nat := if hasUnacked s j then some j else none

/-- The condition whose entry ACK_NEWEST finds: the unacknowledged entry nearest the tail. -/
def ackNewest (s : State) : Option Nat := (newestUnacked s.run.tu.alerts).map fun r => r.2.cond

/-- Step 1 of R96: the entry is acknowledged, its escalation stopped. -/
def markAcked (j : Nat) (l : List Alert) : List Alert :=
  l.map fun a => if a.cond = j then { a with acked := true, level := 0, timer := none } else a

/-- Step 3 of R96: the acknowledged entry goes when its condition is in neither ACTIVE nor PENDING_OFF. -/
def dropSettled (j : Nat) (s : State) : List Alert :=
  if (condRec s j).state = .active ∨ (condRec s j).state = .pendingOff then s.run.tu.alerts
  else s.run.tu.alerts.filter fun a => decide (a.cond ≠ j) || !a.acked

/-- R96, for the condition whose entry the acknowledgement found; none has no effect. -/
def acknowledge (found : Option Nat) (s : State) : State :=
  match found with
  | none => s
  | some j =>
      let s1 := setAlerts (markAcked j s.run.tu.alerts) s
      let s2 := runTasks [.release j] s1
      let s3 := setAlerts (dropSettled j s2) s2
      telltaleIfChanged s (driveLamps (refreshBlink s3))

/-! ## Tables put in force and abandoned (R75, R76, R94) -/

/-- R94: at a table activation an entry stays only when its condition is an announced ALARM of the
new working table; what stays has level 0 and no timer. -/
def alertFilter (s : State) : List Alert :=
  s.run.tu.alerts.filterMap fun a =>
    match condAt s a.cond with
    | some c =>
        if c.announce = true ∧ c.severity = .alarm then some { a with level := 0, timer := none }
        else none
    | none => none

def filterAlerts (s : State) : State :=
  telltaleIfChanged s (driveLamps (refreshBlink (setAlerts (alertFilter s) s)))

/-- R75: every enabled condition is evaluated once, in ascending index, each with its cascade. -/
def firstEvaluation (s : State) : State :=
  let s1 := { s with run.cu.evaluating := true, run.cu.recs := List.replicate 64 CondRec.initial }
  runTasks ((List.range 64).map Task.evaluate) s1

/-- R76 for one condition: set INACTIVE, and hand the change to the Tell-tale Unit alone. -/
def abandonCondition (s : State) (j : Nat) : State :=
  let r := condRec s j
  let s1 := putCondRec s j { state := .inactive, remembered := false, timer := none }
  if r.state = .inactive then s1 else (telltaleChange j r.state .inactive s1).1

/-- R76: the working Condition Table is abandoned when a STARTUP validation begins in SHUTDOWN. Every entry is
then unused, a disabled one too (DESIGN CHOICE, unsafe: notes/assumptions/14.md). -/
def abandonConditions (s : State) : State :=
  let s1 := (List.range 64).foldl abandonCondition { s with run.cu.evaluating := false }
  { s1 with run.tables.conds := Tables.initial.conds }

end Sys2Proof.Machine
end

