-- ==== Sys2Proof/Machine/Traffic.lean ====
section
/-! DEFINITION. Machine/Traffic.lean: placing frames in the VTQ and the DRQ with their overflow (R13,
R19, R20), the report that a REPLY has left its queue (R14), the Management Unit's answers (R175,
R176), and the drive-time broadcast (R128). -/

namespace Sys2Proof.Machine

/-- R14, R175, R176: a REPLY has left its queue, sent or abandoned. -/
def replyLeft (o : Origin) (s : State) : State :=
  match o with
  | .resultReply =>
      if s.run.mu.phase = .replyQueued then { s with run.mu.phase := .idle, run.mu.cmd := none } else s
  | .busyReply => { s with run.mu.busyQueued := false }
  | .route _ | .broadcast | .notice _ => s

/-- R19: a frame dropped at a full VTQ or DRQ sets F4; a dropped result REPLY is reported at once. -/
def overflow (o : Origin) (s : State) : State := replyLeft o (flagChange .relayOverflow true s)

/-- Place an entry in the VTQ (R15, R16, R19); in SHUTDOWN it is dropped without F4 (R20). -/
def placeVtq (e : QEntry) (replaces : Bool) (s : State) : State :=
  if s.mode = .shutdown then replyLeft e.origin s
  else
    match (if replaces then vtqLatest e s.run.queues.vtq else vtqNew e s.run.queues.vtq) with
    | some q => { s with run.queues.vtq := q }
    | none => overflow e.origin s

/-- Place an entry in the DRQ (R16, R17, R19); in SHUTDOWN it is dropped without F4 (R20). -/
def placeDrq (e : QEntry) (replaces : Bool) (s : State) : State :=
  if s.mode = .shutdown then s
  else
    match (if replaces then drqLatest e s.run.queues.drq else drqNew e s.run.queues.drq) with
    | some q => { s with run.queues.drq := q }
    | none => overflow e.origin s

/-- R13: the copy of an accepted DATA frame, to the queue of the other link. -/
def relayFrame (link : Link) (n : Nat) (relay : Relay) (body : List Byte) (s : State) : State :=
  let h := headerOf body
  let f : Frame :=
    { kind := .data, prio := h.prio, ident := h.ident, target := 0, source := 0
      payload := payloadOf body }
  let e := newEntry (f, none) (.route n)
  match relay with
  | .none => s
  | .all => match link with
    | .vehicle => placeDrq e false s
    | .display => placeVtq e false s
  | .latest => match link with
    | .vehicle => placeDrq e true s
    | .display => placeVtq e true s

/-- R176: the REPLY to a command, its status byte first; `part` is the part of a two-part REPLY and
`gap` READ LOG's mark (R188). -/
def replyFrame (s : State) (c : Command) (code : Code) (part : Nat) (gap : Bool) (data : List Byte) :
    Frame :=
  { kind := .reply, prio := c.prio, ident := c.ident, target := c.source, source := s.nodeAddress
    payload := byteOf (128 * boolNat gap + 16 * part + code.number) :: data }

/-- R176: place the result REPLY of the command in progress; the phase becomes REPLY_QUEUED. -/
def sendResult (frames : Command → NoticeFrames) (s : State) : State :=
  match s.run.mu.cmd with
  | none => s
  | some c =>
      let e := newEntry (frames c) .resultReply
      let s1 := { s with run.mu.phase := .replyQueued }
      match c.link with
      | .vehicle => placeVtq e false s1
      | .display => { s1 with run.queues.duq := s1.run.queues.duq ++ [e] }

/-- A result REPLY of one frame. -/
def answer (code : Code) (data : List Byte) (s : State) : State :=
  sendResult (fun c => (replyFrame s c code 0 false data, none)) s

/-- R128, R189: the drive-time broadcast's payload. -/
def broadcastPayload (s : State) : List Byte :=
  let bound (slot : Nat) := boolNat (slotDriver s slot).isSome
  let stage (slot : Nat) := stageCode (slotStage s slot)
  let left (slot : Nat) := ((slotDriver s slot).map Driver.remaining).getD 0
  byteOf (128 * bound 1 + 16 * stage 1 + 8 * bound 2 + stage 2) :: bytes2 (left 1) ++ bytes2 (left 2)

/-- R128: placed in the VTQ with origin BROADCAST when the working record has an identifier. -/
def placeBroadcast (s : State) : State :=
  match s.dtu.params.broadcastId with
  | none => s
  | some ident =>
      let f : Frame :=
        { kind := .data, prio := s.dtu.params.broadcastPriority, ident := ident, target := 0
          source := 0, payload := broadcastPayload s }
      placeVtq (newEntry (f, none) .broadcast) true s

end Sys2Proof.Machine
end

