-- ==== Sys2Proof/Machine/Signals.lean ====
section
/-! DEFINITION. Machine/Signals.lean: the Signal Unit: extraction, code check, scaling and clamping
(R26 to R33), STALE marking (R34) and the writing of an entry (R24). -/

namespace Sys2Proof.Machine

/-! ## Extraction (R26 to R29) -/

/-- R26: the payload holds the field. -/
def fieldFits (d : SigDesc) (payload : List Byte) : Bool :=
  decide (d.start + d.width ≤ 8 * payload.length)

/-- The field's bits, in the order they are sent (R27). -/
def fieldBits (d : SigDesc) (payload : List Byte) : List Bool :=
  ((bytesBits payload).drop d.start).take d.width

/-- R28: the pieces of the bytes touched, taken in reversed order of their bytes. -/
def lsbFirstBits (start : Nat) (field : List Bool) : List Bool :=
  let inFirst := 8 - start % 8
  ((field.drop (inFirst + 8)).take 8) ++ ((field.drop inFirst).take 8) ++ field.take inFirst

/-- The raw value: the field by its byte order and sign (R27 to R29). -/
def rawValue (d : SigDesc) (payload : List Byte) : Int :=
  let bits := fieldBits d payload
  let n := bitsNat (match d.order with
    | .msbFirst => bits
    | .lsbFirst => lsbFirstBits d.start bits)
  if d.signed then signedNat d.width n else n

/-! ## Scaling and clamping (R31 to R33) -/

/-- R31: p ÷ 2^shift, rounded half up. -/
def scaleRound (p : Int) (shift : Nat) : Int :=
  if shift = 0 then p else (p + 2 ^ (shift - 1)) / 2 ^ shift

/-- R31, R32: raw × factor ÷ 2^shift + offset, exact. -/
def scaledValue (d : SigDesc) (raw : Int) : Int := scaleRound (raw * d.factor) d.shift + d.offset

/-- R33. -/
def clampValue (d : SigDesc) (v : Int) : SigEntry :=
  if v < d.min then { value := d.min, status := .clamped }
  else if d.max < v then { value := d.max, status := .clamped }
  else { value := v, status := .valid }

/-- R25, R30: the entry that one signal's extraction writes, given what it held. -/
def extractSignal (d : SigDesc) (payload : List Byte) (held : SigEntry) : SigEntry :=
  if fieldFits d payload then
    let raw := rawValue d payload
    if d.naCode = some raw then { held with status := .notAvailable }
    else if d.errCode = some raw then { held with status := .errorCode }
    else clampValue d (scaledValue d raw)
  else { held with status := .notAvailable }

/-- R34: STALE, the value held or, where it lies outside the limits, moved. The rule tells only a held 0,
which goes to the limit nearer to 0; any other value (held through an activation from SHUTDOWN that
narrowed the limits) goes to the limit it lies beyond, which for 0 is the same (DESIGN CHOICE,
notes/assumptions/14.md). -/
def staleEntry (d : SigDesc) (held : SigEntry) : SigEntry :=
  { value := if held.value < d.min then d.min else if d.max < held.value then d.max else held.value
    status := .stale }

/-! ## Writing (R24, R35, R36) -/

def putSignal (s : State) (i : Nat) (e : SigEntry) : State :=
  { s with run.signals := updAt s.run.signals i fun _ => e }

/-- Write an internal entry (160 to 162) and deliver its update event to the Condition Unit; no
index above 159 concerns the Drive-Time Unit or the Mode Controller (R105). -/
def writeInternal (i : Nat) (e : SigEntry) (s : State) : State :=
  conditionsOnSignal i (putSignal s i e)

/-- R35: the supply voltage, CLAMPED above 40.00 V. -/
def supplyEntry (centivolts : Nat) : SigEntry :=
  if centivolts ≤ 4000 then { value := centivolts, status := .valid }
  else { value := 4000, status := .clamped }

/-- R36: the entry of a slot, 161 or 162. -/
def slotEntry (s : State) (slot : Nat) : SigEntry :=
  match slotDriver s slot with
  | some d => { value := d.remaining, status := .valid }
  | none => { signalAt s (160 + slot) with status := .notAvailable }

/-- R36: write a slot's internal signal when the run domain is powered. -/
def writeSlotSignal (slot : Nat) (s : State) : State :=
  if powered s then writeInternal (160 + slot) (slotEntry s slot) s else s

/-- R36: both entries, 161 with all that its update event brings, then 162 (DESIGN CHOICE: the rule gives
no order, notes/assumptions/14.md). -/
def writeSlotSignals (s : State) : State := writeSlotSignal 2 (writeSlotSignal 1 s)

end Sys2Proof.Machine
end

