-- ==== Sys2Proof/Machine/Drive.lean ====
section
/-! DEFINITION. Machine/Drive.lean: the Drive-Time Unit (R107 to R128): the Activity Log, the slot
bindings and card events, crediting, the minute event, sync loads, READ LOG and the speed judgement. -/

namespace Sys2Proof.Machine

/-! ## The Activity Log (R123, R124) -/

/-- R123: append a record to the ring of 64, with the next sequence number. -/
def appendLog (kind : LogKind) (slot : Option Nat) (activity : Activity) (inferred : Bool)
    (digest : Nat) (t : Dtu) : Dtu :=
  let r : LogRec :=
    { seq := t.seq, kind := kind, slot := slot, activity := activity, inferred := inferred
      digest := digest, minute := t.minutes }
  { t with log := t.log.drop (t.log.length + 1 - Config.logCapacity) ++ [r]
           seq := (t.seq + 1) % Config.sequenceModulus }

/-- Append a record about a driver record. -/
def logDriver (kind : LogKind) (slot : Option Nat) (d : Driver) (t : Dtu) : Dtu :=
  appendLog kind slot d.activity d.inferred d.digest t

/-- R124: the record READ LOG answers with, and the gap mark. -/
def readLogAnswer (log : List LogRec) (start : Nat) : Option LogRec × Bool :=
  match log with
  | [] => (none, false)
  | oldest :: _ =>
      let k := (start + Config.sequenceModulus - oldest.seq) % Config.sequenceModulus
      if k < log.length then (log[k]?, false)
      else if k = log.length then (none, false)
      else (some oldest, true)

/-! ## Remaining time and stage (R120) -/

/-- The larger of 0 and the smaller of the two times left. -/
def remainingOf (p : DriveParams) (cont daily : Nat) : Nat :=
  min (p.contLimit - cont) (p.dailyLimit - daily)

def stageFor (p : DriveParams) (cont daily : Nat) : Stage :=
  if p.contLimit < cont ∨ p.dailyLimit < daily then .over
  else if remainingOf p cont daily = 0 then .limit
  else if remainingOf p cont daily ≤ p.prewarn then .preWarn
  else .none

/-- R120: the record's remaining time and stage computed afresh. -/
def assess (p : DriveParams) (d : Driver) : Driver :=
  { d with remaining := remainingOf p d.cont d.daily, stage := stageFor p d.cont d.daily }

/-! ## Slots and records (R108, R111 to R113) -/

def recordOf (t : Dtu) (digest : Nat) : Option Driver :=
  t.drivers.find? fun d => decide (d.digest = digest)

def boundTo (t : Dtu) (slot : Nat) : Option Nat := if slot = 1 then t.slot1 else t.slot2

def setSlot (slot : Nat) (digest : Option Nat) (t : Dtu) : Dtu :=
  if slot = 1 then { t with slot1 := digest } else { t with slot2 := digest }

/-- Change the record with a digest. -/
def updRecord (digest : Nat) (f : Driver → Driver) (t : Dtu) : Dtu :=
  { t with drivers := t.drivers.map fun d => if d.digest = digest then f d else d }

/-- R113: a bound slot becomes empty, and CARD_OUT is logged; the record stays as it is. -/
def unbind (slot : Nat) (t : Dtu) : Dtu :=
  match boundTo t slot with
  | none => t
  | some digest =>
      let t' := setSlot slot none t
      match recordOf t digest with
      | some d => logDriver .cardOut (some slot) d t'
      | none => t'

/-- R111: bind a record of the table to an empty slot, and log CARD_IN. -/
def bind (slot digest : Nat) (t : Dtu) : Dtu :=
  let t' := updRecord digest (fun d => { d with lastPresent := t.minutes }) (setSlot slot (some digest) t)
  match recordOf t' digest with
  | some d => logDriver .cardIn (some slot) d t'
  | none => t'

/-- The record is bound to neither slot. -/
def isUnbound (t : Dtu) (d : Driver) : Bool :=
  decide (t.slot1 ≠ some d.digest) && decide (t.slot2 ≠ some d.digest)

/-- R112: minutes since the record was last present, modulo 2^24. -/
def ageOf (t : Dtu) (d : Driver) : Nat :=
  (t.minutes + Config.minuteModulus - d.lastPresent) % Config.minuteModulus

/-- R112: whether `d` is evicted rather than `e`. -/
def evictedBefore (t : Dtu) (d e : Driver) : Bool :=
  decide (ageOf t e < ageOf t d ∨ (ageOf t d = ageOf t e ∧ d.digest < e.digest))

/-- R112: the unbound record whose last presence is oldest, the lower digest at equal age. -/
def oldestUnbound (t : Dtu) : Option Driver :=
  (t.drivers.filter (isUnbound t)).foldl
    (fun best d =>
      match best with
      | none => some d
      | some e => if evictedBefore t d e then some d else some e)
    none

/-- R112: room for a new record; an eviction is logged. -/
def makeRoom (t : Dtu) : Dtu :=
  if t.drivers.length < Config.driverCapacity then t
  else
    match oldestUnbound t with
    | none => t
    | some d =>
        logDriver .recordEvicted none d
          { t with drivers := t.drivers.filter fun e => decide (e.digest ≠ d.digest) }

/-- R108, R112: a record as it is created. -/
def freshRecord (t : Dtu) (digest : Nat) : Driver :=
  assess t.params
    { digest := digest, cont := 0, daily := 0, pauseRun := 0, restRun := 0, splitDone := false
      synced := false, lastPresent := t.minutes, activity := .none, inferred := false
      remaining := 0, stage := .none }

def createRecord (digest : Nat) (t : Dtu) : Dtu :=
  let t' := makeRoom t
  { t' with drivers := t'.drivers ++ [freshRecord t' digest] }

/-- The other slot. -/
def otherSlot (slot : Nat) : Nat := if slot = 1 then 2 else 1

/-- R111, cases 3 to 5: bind a digest to a slot that is empty. -/
def bindPresent (slot digest : Nat) (t : Dtu) : Dtu :=
  match recordOf t digest with
  | some _ =>
      if boundTo t (otherSlot slot) = some digest then bind slot digest (unbind (otherSlot slot) t)
      else bind slot digest t
  | none => bind slot digest (createRecord digest t)

/-- R111: the card with this digest is present in the slot. -/
def cardPresent (slot digest : Nat) (t : Dtu) : Dtu :=
  if boundTo t slot = some digest then t else bindPresent slot digest (unbind slot t)

/-! ## Outputs of the slots (R109, R114) -/

/-- R109: set F12 afresh from slot 1. -/
def refreshUnsynced (s : State) : State :=
  flagChange .driverUnsynced
    (match slotDriver s 1 with
      | some d => !d.synced
      | none => true) s

/-- R114 for one slot whose binding changed; `before` is its stage before the event. -/
def bindingOutputs (slot : Nat) (before : Stage) (s : State) : State :=
  let s1 := stageChange slot before (writeSlotSignal slot s)
  let s2 := if slot = 1 then refreshUnsynced s1 else s1
  noticeIfOn .drivetime s2

/-- Put a changed Drive-Time state in place, and take R114 where it changed a binding: all four
consequences for slot 1, then all for slot 2 (DESIGN CHOICE: R114 orders the consequences and not the
slots, notes/assumptions/14.md). -/
def putBindings (t : Dtu) (s : State) : State :=
  let s1 := { s with dtu := t }
  let s2 := if t.slot1 = s.dtu.slot1 then s1 else bindingOutputs 1 (slotStage s 1) s1
  if t.slot2 = s.dtu.slot2 then s2 else bindingOutputs 2 (slotStage s 2) s2

/-! ## Card events (R110) -/

inductive Presence where
  | present | absent | unknown
  deriving DecidableEq, Repr

def presenceOf (e : SigEntry) : Presence :=
  match e.status with
  | .valid | .clamped => if e.value = 0 then .absent else .present
  | .notAvailable | .errorCode => .absent
  | .stale | .never => .unknown

def presenceSignal (p : DriveParams) (slot : Nat) : Option Nat :=
  if slot = 1 then p.presence1 else p.presence2

def digestSignal (p : DriveParams) (slot : Nat) : Option Nat :=
  if slot = 1 then p.digest1 else p.digest2

def activitySignal (p : DriveParams) (slot : Nat) : Option Nat :=
  if slot = 1 then p.activity1 else p.activity2

/-- The usable digest of a slot's digest signal (R110). -/
def usableDigest (s : State) (slot : Nat) : Option Nat :=
  match usableOpt s (digestSignal s.dtu.params slot) with
  | some v => if 0 ≤ v ∧ v ≤ 65535 then some v.toNat else none
  | none => none

/-- R110: judge a slot whose presence signal is named. -/
def judgeCard (slot presence : Nat) (s : State) : State :=
  match presenceOf (signalAt s presence) with
  | .unknown => s
  | .absent => putBindings (unbind slot s.dtu) s
  | .present =>
      match usableDigest s slot with
      | some d => putBindings (cardPresent slot d s.dtu) s
      | none => s

/-- R110: an update of index `i` is a card event for a slot that names it. -/
def cardEvent (slot i : Nat) (s : State) : State :=
  match presenceSignal s.dtu.params slot with
  | none => s
  | some p =>
      if i = p ∨ digestSignal s.dtu.params slot = some i then judgeCard slot p s else s

/-! ## Speed plausibility (R126) -/

/-- Both speeds are usable and differ by more than the tolerance. -/
def speedsDiffer (s : State) : Bool :=
  match usableOpt s s.dtu.params.roadSpeed, usableOpt s s.dtu.params.tachoSpeed with
  | some r, some t => decide ((s.dtu.params.tolerance : Int) < |r - t|)
  | _, _ => false

/-- R126: judge both speeds as they stand. -/
def judgeSpeeds (s : State) : State :=
  if speedsDiffer s then
    if s.run.mismatch = none ∧ s.run.flags.speedMismatch = false then
      { s with run.mismatch := some (1000 * s.dtu.params.mismatchTime) }
    else s
  else flagChange .speedMismatch false { s with run.mismatch := none }

/-- R126: an update of index `i` is judged when both indices are named and `i` is one of them. -/
def speedEvent (i : Nat) (s : State) : State :=
  match s.dtu.params.roadSpeed, s.dtu.params.tachoSpeed with
  | some r, some t => if i = r ∨ i = t then judgeSpeeds s else s
  | _, _ => s

/-! ## Crediting (R116 to R119) -/

/-- R116: the activity of the record bound to a slot, and whether it is inferred. -/
def boundActivity (s : State) (slot : Nat) : Activity × Bool :=
  match usableOpt s (activitySignal s.dtu.params slot) with
  | some v =>
      (if 0 ≤ v ∧ v ≤ 7 then s.dtu.params.activityMap.getD v.toNat .unknown else .unknown, false)
  | none =>
      if s.mode = .standby ∨ s.mode = .shutdown then (.rest, true)
      else if slot = 1 then
        match usableOpt s s.dtu.params.roadSpeed with
        | some v => (if (s.dtu.params.moving : Int) ≤ v then .driving else .unknown, true)
        | none => (.unknown, true)
      else (.unknown, true)

/-- R116, R117: the activity credited to a record. -/
def chosenActivity (s : State) (d : Driver) : Activity × Bool :=
  if s.dtu.slot1 = some d.digest then boundActivity s 1
  else if s.dtu.slot2 = some d.digest then boundActivity s 2
  else (.rest, true)

/-- R118, steps 1 to 4. -/
def creditRest (p : DriveParams) (d : Driver) : Driver :=
  let d1 := { d with pauseRun := min 1440 (d.pauseRun + 1), restRun := min 1440 (d.restRun + 1) }
  let d2 := if p.fullBreak ≤ d1.pauseRun then { d1 with cont := 0, splitDone := false } else d1
  let d3 :=
    if p.splitSecond ≤ d2.pauseRun ∧ d2.splitDone = true then
      { d2 with cont := 0, splitDone := false }
    else d2
  if p.dailyRest ≤ d3.restRun then
    { d3 with daily := 0, cont := 0, splitDone := false, synced := true }
  else d3

/-- R119, steps 1 to 3. -/
def creditOther (p : DriveParams) (driving : Bool) (d : Driver) : Driver :=
  let done :=
    d.splitDone || decide (p.splitFirst ≤ d.pauseRun ∧ d.pauseRun ≤ p.fullBreak - 1)
  let d1 := { d with splitDone := done, pauseRun := 0, restRun := 0 }
  if driving then { d1 with cont := min 1440 (d1.cont + 1), daily := min 1440 (d1.daily + 1) } else d1

/-- Credit a record with one activity. -/
def credit (p : DriveParams) (activity : Activity) (inferred : Bool) (d : Driver) : Driver :=
  let d1 :=
    if activity = .rest then creditRest p d else creditOther p (decide (activity = .driving)) d
  { d1 with activity := activity, inferred := inferred }

/-- R115, steps 2 and 3 for one record; `minutes` is the counter after step 1. -/
def minuteRecord (s : State) (minutes : Nat) (d : Driver) : Driver :=
  let (activity, inferred) := chosenActivity s d
  let d1 := assess s.dtu.params (credit s.dtu.params activity inferred d)
  if isUnbound s.dtu d then d1 else { d1 with lastPresent := minutes }

/-- R121: log a bound slot whose record's activity or inferred changed since `old`. -/
def logActivity (old : Dtu) (slot : Nat) (t : Dtu) : Dtu :=
  match boundTo t slot with
  | none => t
  | some digest =>
      match recordOf old digest, recordOf t digest with
      | some before, some now =>
          if before.activity = now.activity ∧ before.inferred = now.inferred then t
          else logDriver .activityChange (some slot) now t
      | _, _ => t

/-- R115, steps 1 to 4: the Drive-Time Unit's own part of the minute event. -/
def minuteDtu (s : State) : Dtu :=
  let minutes := (s.dtu.minutes + 1) % Config.minuteModulus
  let t : Dtu :=
    { s.dtu with minutes := minutes, timer := Config.minutePeriod
                 drivers := s.dtu.drivers.map (minuteRecord s minutes) }
  logActivity s.dtu 2 (logActivity s.dtu 1 t)

/-- Stage changes of both slots against the stages they had in `before` (R109), slot 1's before slot 2's
(DESIGN CHOICE: R73, R107 step 4 and R115 step 6 say 'for each slot', notes/assumptions/14.md). -/
def stageChanges (before s : State) : State :=
  stageChange 2 (slotStage before 2) (stageChange 1 (slotStage before 1) s)

/-- R115: the minute event taken whole. -/
def minuteEvent (s : State) : State :=
  let s1 := refreshUnsynced { s with dtu := minuteDtu s }
  if powered s then placeBroadcast (noticeIfOn .drivetime (stageChanges s (writeSlotSignals s1)))
  else s1

/-! ## Sync loads (R122) -/

/-- R122's change of the loaded record. -/
def loadRecord (p : DriveParams) (cont daily : Nat) (splitDone : Bool) (d : Driver) : Driver :=
  assess p { d with cont := cont, daily := daily, splitDone := splitDone, synced := true }

/-- R122: the sync load of a bound slot. -/
def syncLoad (slot digest cont daily : Nat) (splitDone : Bool) (s : State) : State :=
  let t := updRecord digest (loadRecord s.dtu.params cont daily splitDone) s.dtu
  let t' := match recordOf t digest with
    | some d => logDriver .syncLoad (some slot) d t
    | none => t
  let s1 := stageChange slot (slotStage s slot) (writeSlotSignal slot { s with dtu := t' })
  let s2 := if slot = 1 then refreshUnsynced s1 else s1
  noticeIfOn .drivetime s2

/-! ## A new working record (R107) -/

/-- R107: the slots whose presence signal is absent in the record in force are unbound, slot 1 before slot 2
(DESIGN CHOICE: step 1 says 'each slot', notes/assumptions/14.md). -/
def unbindUnobserved (t : Dtu) : Dtu :=
  let t1 := if t.params.presence1 = none then unbind 1 t else t
  if t1.params.presence2 = none then unbind 2 t1 else t1

/-- R106, R107: replace the working record and apply it at once. -/
def replaceParams (p : DriveParams) (w : WorkState) (s : State) : State :=
  let s0 := { s with dtu.params := p, dtu.paramState := w }
  let s1 := putBindings (unbindUnobserved s0.dtu) s0
  let s2 := flagChange .speedMismatch false { s1 with run.mismatch := none }
  let s3 := { s2 with dtu.drivers := s2.dtu.drivers.map (assess p) }
  let s4 := refreshUnsynced (stageChanges s (writeSlotSignals s3))
  noticeIfOn .drivetime s4

end Sys2Proof.Machine
end

