-- ==== Sys2Proof/Machine/Gauges.lean ====
section
/-! DEFINITION. Machine/Gauges.lean: the Gauge Unit's operations: coil supervision (R54), the movement
of a channel at a gauge update event (R43 to R47, R49, R50, R53, R57), freezing (R56), placement
(R48, R59), return (R52), release (R58) and the reports to the Mode Controller (R51, R55). -/

namespace Sys2Proof.Machine

/-! ## States (R41, R56) -/

def ChanState.energised : ChanState → Bool
  | .homing | .sweepUp | .sweepDown | .track | .sourceless | .frozen | .ret | .forced => true
  | .unhomed | .fault | .atRest => false

def Resume.state : Resume → ChanState
  | .track => .track
  | .sourceless => .sourceless
  | .sweepUp => .sweepUp
  | .sweepDown => .sweepDown

/-- The resume state of a state that F9 and F10 freeze. -/
def ChanState.resume? : ChanState → Option Resume
  | .track => some .track
  | .sourceless => some .sourceless
  | .sweepUp => some .sweepUp
  | .sweepDown => some .sweepDown
  | .unhomed | .homing | .frozen | .fault | .ret | .atRest | .forced => none

/-- Enter a moving state, or FROZEN with it as the resume state while the supply is at fault (R56). -/
def enterMoving (supply : Bool) (r : Resume) (c : Channel) : Channel :=
  if supply then { c with state := .frozen, resume := some r, openA := 0, openB := 0 }
  else { c with state := r.state, resume := none }

/-- A supply flag becomes set: a moving channel freezes (R56). -/
def freezeChannel (c : Channel) : Channel :=
  match c.state.resume? with
  | some r => { c with state := .frozen, resume := some r, openA := 0, openB := 0 }
  | none => c

/-- Both supply flags are clear: a FROZEN channel returns to its resume state (R56). -/
def resumeChannel (c : Channel) : Channel :=
  match c.state, c.resume with
  | .frozen, some r => { c with state := r.state, resume := none }
  | _, _ => c

/-- An idle channel (R39): de-energised, AT_REST, its position unknown, its open counts 0 (R54). What
becomes of the homing remaining, the coil fault, the resume state and the forced target R39, R48 and R59
leave open: here 0, none and absent (DESIGN CHOICE, notes/assumptions/14.md). -/
def idleChannel (c : Channel) : Channel :=
  { c with state := .atRest, known := false, resume := none, homing := 0, forced := none, openA := 0
           openB := 0, fault := .none }

/-- Start a homing (R48, R59). -/
def homeChannel (g : Gauge) (c : Channel) : Channel :=
  { c with state := .homing, known := false, resume := none, homing := g.span + 200, forced := none
           fault := .none }

/-- Both open counts are 0. -/
def clearCounts (c : Channel) : Channel := { c with openA := 0, openB := 0 }

/-- R54: a channel energised from a de-energised state starts with both counts 0; one whose coils were
energised already, in RETURN, keeps them. -/
def energise (c : Channel) : Channel := if c.state.energised then c else clearCounts c

/-! ## Coil supervision (R54) -/

/-- A driven coil without current raises its count, one with current clears it. -/
def coilCount (sense : CoilSense) (n : Nat) : Nat :=
  match sense with
  | .openCircuit => min 3 (n + 1)
  | .current => 0
  | .undriven => n

/-- Supervision acts on energised channels that are not FROZEN. -/
def supervised (c : Channel) : Bool := c.state.energised && decide (c.state ≠ .frozen)

/-- R54: the check at a gauge update, of the sense feedback since the expiry before. The check that follows an
energising between two expiries (R48, R59) would judge a part of an interval, and R54 says that the first
check judges the first full one: the model judges at every expiry what the command tells, and leaves it to the
sender to tell a part of an interval as undriven (DESIGN CHOICE, unsafe: notes/assumptions/14.md). -/
def coilCheck (sense : CoilSense × CoilSense) (c : Channel) : Channel :=
  if supervised c then { c with openA := coilCount sense.1 c.openA, openB := coilCount sense.2 c.openB }
  else c

/-- A count of a supervised channel has reached 3: it enters FAULT (COIL_OPEN_FAULT). -/
def coilsOpen (c : Channel) : Bool := supervised c && decide (3 ≤ c.openA ∨ 3 ≤ c.openB)

/-! ## The movement (R43 to R50, R53, R57) -/

/-- R43: the source's usable value, else the fallback's. -/
def gaugeValue (s : State) (g : Gauge) : Option Int :=
  match usableAt s g.source with
  | some v => some v
  | none => usableOpt s g.fallback

/-- R45: the target for a value, through the curve. -/
def curveTarget : List (Int × Nat) → Int → Int
  | [], _ => 0
  | [(_, y)], _ => y
  | (x0, y0) :: (x1, y1) :: rest, v =>
      if v ≤ x0 then y0
      else if v < x1 then
        let n := (v - x0) * ((y1 : Int) - y0)
        let d := x1 - x0
        y0 + (2 * n + d) / (2 * d)
      else curveTarget ((x1, y1) :: rest) v

/-- R46: the filtered position moves toward 16 × T. -/
def filterMove (filt target : Int) (gain : Nat) : Int :=
  let d := 16 * target - filt
  let s := (d * gain).tdiv 16
  filt + (if s = 0 ∧ 0 < d then 1 else if s = 0 ∧ d < 0 then -1 else s)

/-- A change limited to plus or minus the rate limit. -/
def limited (rate : Nat) (d : Int) : Int := max (-(rate : Int)) (min rate d)

/-- R47: the commanded position follows the filtered one, rounded half up. -/
def commandMove (pos filt : Int) (rate : Nat) : Int := pos + limited rate ((filt + 8) / 16 - pos)

/-- Stages 6 and 7 on a target. -/
def followTarget (g : Gauge) (target : Int) (c : Channel) : Channel :=
  let f := filterMove c.filt target g.gain
  { c with target := target, filt := f, pos := commandMove c.pos f g.rate }

/-- R44: the target without a usable value. -/
def policyTarget (g : Gauge) (c : Channel) : Int :=
  match g.policy with
  | .hold => c.target
  | .park p => p

/-- R43, R44: TRACK on a usable value, SOURCELESS without one. -/
def trackMove (s : State) (g : Gauge) (c : Channel) : Channel :=
  match gaugeValue s g with
  | some v => followTarget g (curveTarget g.curve v) { c with state := .track }
  | none => followTarget g (policyTarget g c) { c with state := .sourceless }

/-- R49: up to 40 microsteps toward the stop. -/
def homingMove (c : Channel) : Channel := { c with homing := c.homing - min 40 c.homing }

/-- Move P to `pos` with f = 16 × P. -/
def setPos (pos : Int) (c : Channel) : Channel := { c with pos := pos, filt := 16 * pos }

/-- R50: up at the rate limit; at the span the sweep turns. -/
def sweepUpMove (g : Gauge) (c : Channel) : Channel :=
  let pos := c.pos + min (g.rate : Int) (g.span - c.pos)
  let c' := setPos pos c
  if pos = g.span then { c' with state := .sweepDown } else c'

/-- R50: down at the rate limit; at 0 the channel enters TRACK with T = 0. -/
def sweepDownMove (g : Gauge) (c : Channel) : Channel :=
  let pos := c.pos - min (g.rate : Int) c.pos
  let c' := setPos pos c
  if pos = 0 then { c' with state := .track, target := 0 } else c'

/-- R53: down at the rate limit; at 0 the coils are de-energised. -/
def returnMove (g : Gauge) (c : Channel) : Channel :=
  let pos := c.pos - min (g.rate : Int) c.pos
  let c' := setPos pos c
  if pos = 0 then { c' with state := .atRest, openA := 0, openB := 0 } else c'

/-- R57: toward the forced target at the rate limit. -/
def forcedMove (g : Gauge) (c : Channel) : Channel :=
  match c.forced with
  | some target => setPos (c.pos + limited g.rate (target - c.pos)) c
  | none => c

/-- The movement of a channel by its state (R41). -/
def moveChannel (s : State) (g : Gauge) (c : Channel) : Channel :=
  match c.state with
  | .homing => homingMove c
  | .sweepUp => sweepUpMove g c
  | .sweepDown => sweepDownMove g c
  | .track | .sourceless => trackMove s g c
  | .ret => returnMove g c
  | .forced => forcedMove g c
  | .unhomed | .frozen | .fault | .atRest => c

/-- R42: one channel at a gauge update event: supervision, then movement unless it faults. -/
def updateChannel (s : State) (sense : List (CoilSense × CoilSense)) (n : Nat) (c : Channel) :
    Channel :=
  match gaugeAt s n with
  | none => c
  | some g =>
      let c' := coilCheck (sense.getD n (.undriven, .undriven)) c
      if coilsOpen c' then c' else moveChannel s g c'

/-- Change every channel, each with its number. -/
def mapChannels (f : Nat → Channel → Channel) (s : State) : State :=
  { s with run.gu.channels := mapFrom f 0 s.run.gu.channels }

def updChannel (n : Nat) (f : Channel → Channel) (s : State) : State :=
  { s with run.gu.channels := updAt s.run.gu.channels n f }

/-! ## Reports to the Mode Controller (R51, R55) -/

def channelStarted (c : Channel) : Bool :=
  match c.state with
  | .unhomed | .homing | .sweepUp | .sweepDown => false
  | .frozen => decide (c.resume ≠ some .sweepUp ∧ c.resume ≠ some .sweepDown)
  | .track | .sourceless | .fault | .ret | .atRest | .forced => true

def channelAtRest (c : Channel) : Bool := decide (c.state = .atRest ∨ c.state = .unhomed)

/-- R51: the Mode Controller holds the last truth reported of both conditions. -/
def reportGauges (s : State) : State :=
  { s with run.mc.gaugesStarted := s.run.gu.channels.all channelStarted
           run.mc.gaugesAtRest := s.run.gu.channels.all channelAtRest }

/-- The coil fault of a channel that is in FAULT. -/
def faultOf (c : Channel) : CoilFault := if c.state = .fault then c.fault else .none

/-- R55: F6 is set while any channel is in FAULT, and clear while none is. -/
def evaluateF6 (s : State) : State :=
  flagChange .gaugeFault (s.run.gu.channels.any fun c => decide (c.state = .fault)) s

/-- The coils whose counts reached 3. -/
def openCoils (c : Channel) : CoilFault :=
  if 3 ≤ c.openA ∧ 3 ≤ c.openB then .ab
  else if 3 ≤ c.openA then .a
  else if 3 ≤ c.openB then .b
  else .none

/-- R55: the channel is de-energised, P kept, its position unknown. -/
def faultChannel (c : Channel) : Channel :=
  { c with state := .fault, known := false, resume := none, forced := none, fault := openCoils c
           openA := 0, openB := 0 }

/-- R55: a channel enters FAULT; F6, the report of the faulty channels, and the STATUS notice. -/
def enterFault (n : Nat) (s : State) : State :=
  let s1 := evaluateF6 (updChannel n faultChannel s)
  noticeIfOn .status { s1 with run.mc.gaugeFaults := s1.run.gu.channels.map faultOf }

/-! ## Homing, release, return, placement -/

/-- R49: the homing completes. -/
def homedChannel (startup supply : Bool) (g : Gauge) (c : Channel) : Channel :=
  let c' := { c with known := true, pos := 0, filt := 0, target := 0 }
  enterMoving supply (if startup && g.sweep then .sweepUp else .track) c'

/-- R58: the release of a FORCED channel; any other is unchanged. -/
def releaseChannel (supply : Bool) (c : Channel) : Channel :=
  if c.state = .forced then
    enterMoving supply .track { c with forced := none, filt := 16 * c.pos, target := c.pos }
  else c

def releaseGauges (s : State) : State := mapChannels (fun _ => releaseChannel (supplyFault s)) s

/-- R52: what SHUTDOWN entry does to a channel. A FORCED channel is released and returns as one from TRACK,
its open counts kept. While F9 or F10 is set R58's release alone would lead to FROZEN, and R54 zeroes the
counts of a FROZEN channel: that the counts are kept then too, with no FROZEN in between, is the model's
choice (DESIGN CHOICE, unsafe: notes/assumptions/14.md). -/
def shutdownChannel (c : Channel) : Channel :=
  match c.state with
  | .forced =>
      { c with state := .ret, resume := none, forced := none, filt := 16 * c.pos, target := c.pos }
  | .track | .sourceless | .sweepUp | .sweepDown | .frozen => { c with state := .ret, resume := none }
  | .homing => { c with state := .unhomed, homing := 0, openA := 0, openB := 0 }
  | .unhomed | .atRest | .fault | .ret => c

/-- R48: the placement of one channel at the start of the gauges-and-lamps phase. -/
def placeChannel (s : State) (n : Nat) (c : Channel) : Channel :=
  match gaugeAt s n with
  | none => idleChannel c
  | some g =>
      if c.state = .fault then c
      else if c.known = true ∧ c.pos ≤ g.span then
        if g.sweep then enterMoving (supplyFault s) .sweepUp (energise c)
        else enterMoving (supplyFault s) .track { energise c with filt := 16 * c.pos, target := c.pos }
      else homeChannel g (energise c)

/-- R59: the placement of one channel at the restart after a passed LEAVE SERVICE validation. -/
def restartChannel (s : State) (n : Nat) (c : Channel) : Channel :=
  match gaugeAt s n with
  | none => idleChannel c
  | some g =>
      if c.known = true ∧ c.pos ≤ g.span then
        { c with state := .track, filt := 16 * c.pos, target := c.pos, resume := none, forced := none
                 openA := 0, openB := 0 }
      else homeChannel g (clearCounts c)

/-- R57: whether a forcing of this channel to this position is taken. -/
def canForce (g : Option Gauge) (position : Nat) (c : Channel) : Bool :=
  match g with
  | none => false
  | some g =>
      c.known && decide (position ≤ g.span) &&
        decide (c.state = .track ∨ c.state = .sourceless ∨ c.state = .frozen ∨ c.state = .forced)

def forceChannel (position : Nat) (c : Channel) : Channel :=
  { c with state := .forced, forced := some position, resume := none }

end Sys2Proof.Machine
end

