-- ==== Sys2Proof/Machine/Tables.lean ====
section
/-! DEFINITION. Machine/Tables.lean: reading a table entry's image (R190) and the validation of the
Table Store (R2, R3, R22, R39, R61, R81, R106, R131, R161, R162). -/

namespace Sys2Proof.Machine

/-- A value for which a check must hold. -/
def guardOpt {α : Type} (ok : Bool) (a : α) : Option α := if ok then some a else none

/-- A one-byte optional field: 0xFF means absent (R190). -/
def optByte (b : Byte) : Option Nat := if b = 0xFF#8 then none else some b.toNat

/-- An optional index is absent or at most `top`. -/
def optAtMost (top : Nat) (i : Option Nat) : Bool :=
  match i with
  | none => true
  | some n => decide (n ≤ top)

/-! ## Route images -/

def relayOf (code : Nat) : Option Relay :=
  match code with
  | 0 => some .none
  | 1 => some .all
  | 2 => some .latest
  | _ => none

def supervisionOf (code : Nat) : Option Supervision :=
  match code with
  | 0 => some .none
  | 1 => some .display
  | 2 => some .gateway
  | 3 => some .tacho
  | _ => none

/-- The field checks of R2. -/
def routeOk (r : Route) : Bool :=
  decide (r.ident ≤ 2047) && optAtMost 10 r.expected && decide (r.first ≤ 159) &&
    decide (r.count ≤ 8) && decide (r.first + r.count ≤ 160) && decide (r.timeout ≤ 255) &&
    (decide (r.supervision = .none) || decide (r.timeout ≠ 0))

/-- A route image (R190) whose fields pass R2. -/
def parseRoute (b : List Byte) : Option Route :=
  match relayOf (bitField (byteAt b 0) 6 5), supervisionOf (byteAt b 6).toNat with
  | some relay, some supervision =>
      let r : Route :=
        { link := if (byteAt b 0).getLsbD 7 then .display else .vehicle
          ident := 256 * bitField (byteAt b 0) 2 0 + (byteAt b 1).toNat
          expected := optByte (byteAt b 2)
          first := (byteAt b 3).toNat
          count := (byteAt b 4).toNat
          relay := relay
          driverAction := (byteAt b 0).getLsbD 4
          timeout := (byteAt b 5).toNat
          supervision := supervision }
      guardOpt (routeOk r) r
  | _, _ => none

/-- A route fills signal n (R1). -/
def Route.fills (r : Route) (n : Nat) : Bool := decide (r.first ≤ n) && decide (n < r.first + r.count)

/-- The key test and the signal test of R3 against a lower-numbered active entry. -/
def routeClash (r : Route) (lower : Entry Route) : Bool :=
  match lower with
  | .enabled e =>
      (decide (e.link = r.link) && decide (e.ident = r.ident)) ||
        (decide (0 < e.count) && decide (0 < r.count) && decide (r.first < e.first + e.count) &&
          decide (e.first < r.first + r.count))
  | .disabled | .unused => false

/-! ## Signal images -/

/-- The raw range of a field (R22). -/
def rawInRange (signed : Bool) (width : Nat) (code : Int) : Bool :=
  if signed then decide (-(2 ^ (width - 1) : Int) ≤ code) && decide (code < (2 ^ (width - 1) : Int))
  else decide (0 ≤ code) && decide (code < (2 ^ width : Int))

def codeInRange (signed : Bool) (width : Nat) (code : Option Int) : Bool :=
  match code with
  | some c => rawInRange signed width c
  | none => true

/-- The checks of R22 that need no route. -/
def sigOk (d : SigDesc) : Bool :=
  decide (d.start ≤ 79) && decide (1 ≤ d.width) && decide (d.width ≤ 16) &&
    decide (d.start + d.width ≤ 80) && decide (d.factor ≠ 0) && decide (d.shift ≤ 15) &&
    decide (d.min ≤ d.max) && codeInRange d.signed d.width d.naCode &&
    codeInRange d.signed d.width d.errCode &&
    (d.naCode.isNone || decide (d.naCode ≠ d.errCode))

/-- A code of a signal image, present when its bit of byte 2 says so, read by the field's sign. -/
def sigCode (present signed : Bool) (n : Nat) : Option Int :=
  if present then some (if signed then signedNat 16 n else (n : Int)) else none

def parseSignal (b : List Byte) : Option SigDesc :=
  let signed := (byteAt b 2).getLsbD 7
  let d : SigDesc :=
    { start := bitField (byteAt b 0) 6 0
      width := bitField (byteAt b 1) 7 4 + 1
      order := if (byteAt b 0).getLsbD 7 then .lsbFirst else .msbFirst
      signed := signed
      factor := intAt b 3 2
      shift := bitField (byteAt b 1) 3 0
      offset := intAt b 5 3
      min := intAt b 8 3
      max := intAt b 11 3
      naCode := sigCode ((byteAt b 2).getLsbD 6) signed (natAt b 14 2)
      errCode := sigCode ((byteAt b 2).getLsbD 5) signed (natAt b 16 2) }
  guardOpt (sigOk d) d

/-- The per-route length test of R22. -/
def sigFits (d : SigDesc) (route : Option Route) : Bool :=
  match route with
  | some r =>
      match r.expected with
      | some len => decide (d.start + d.width ≤ 8 * len)
      | none => true
  | none => true

/-- The active route, if any, whose range holds signal n. -/
def routeFilling (routes : List (Entry Route)) (n : Nat) : Option Route :=
  routes.findSome? fun e =>
    match e with
    | .enabled r => if r.fills n then some r else none
    | .disabled | .unused => none

/-! ## Gauge images -/

/-- The x values rise strictly. -/
def xsRise : List (Int × Nat) → Bool
  | (x, _) :: (x', y') :: rest => decide (x < x') && xsRise ((x', y') :: rest)
  | [_] | [] => true

/-- The checks of R39. -/
def gaugeOk (g : Gauge) : Bool :=
  decide (g.source ≤ 162) && optAtMost 162 g.fallback && decide (1 ≤ g.span) &&
    decide (g.span ≤ 4095) && decide (2 ≤ g.curve.length) && decide (g.curve.length ≤ 8) &&
    xsRise g.curve && (g.curve.all fun p => decide (p.2 ≤ g.span)) && decide (1 ≤ g.gain) &&
    decide (g.gain ≤ 16) && decide (1 ≤ g.rate) && decide (g.rate ≤ 255) &&
    match g.policy with
    | .hold => true
    | .park p => decide (p ≤ g.span)

/-- A gauge image. A breakpoint count above 8 names breakpoints that the image does not hold. -/
def parseGauge (b : List Byte) : Option Gauge :=
  let count := bitField (byteAt b 5) 7 4
  let packed := natAt b 2 3
  let g : Gauge :=
    { source := (byteAt b 0).toNat
      fallback := optByte (byteAt b 1)
      span := packed / 4096
      curve := (List.range count).map fun i => (intAt b (8 + 5 * i) 3, natAt b (11 + 5 * i) 2)
      gain := bitField (byteAt b 5) 3 0 + 1
      rate := (byteAt b 6).toNat
      policy := if (byteAt b 7).getLsbD 7 then .park (packed % 4096) else .hold
      sweep := (byteAt b 7).getLsbD 0 }
  guardOpt (gaugeOk g) g

/-! ## Condition images -/

def stageOf (code : Nat) : Option Stage :=
  match code with
  | 1 => some .preWarn
  | 2 => some .limit
  | 3 => some .over
  | _ => none

/-- The source kind and its parameter, in the range of the kind (R61). -/
def parseSource (kind param : Nat) : Option Source :=
  match kind with
  | 0 => guardOpt (decide (param ≤ 162)) (.above param)
  | 1 => guardOpt (decide (param ≤ 162)) (.below param)
  | 2 => guardOpt (decide (param ≤ 162)) (.unusable param)
  | 3 => guardOpt (decide (1 ≤ param) && decide (param ≤ 15)) (.input param)
  | 4 => guardOpt (decide (param ≤ 13)) (.flag param)
  | 5 =>
      match stageOf (param % 16) with
      | some st => guardOpt (decide (param / 16 = 1 ∨ param / 16 = 2)) (.stage (param / 16) st)
      | none => none
  | _ => none

def severityOf (code : Nat) : Option Severity :=
  match code with
  | 0 => some .info
  | 1 => some .warn
  | 2 => some .alarm
  | _ => none

def policyOf (code : Nat) : Option UnknownPolicy :=
  match code with
  | 0 => some .hold
  | 1 => some .forceTrue
  | 2 => some .forceFalse
  | _ => none

/-- The levels of a threshold source are in their order (R61). -/
def levelsOk (c : Condition) : Bool :=
  match c.source with
  | .above _ => decide (c.clear ≤ c.set)
  | .below _ => decide (c.set ≤ c.clear)
  | .unusable _ | .input _ | .flag _ | .stage _ _ => true

/-- The checks of R61 on one entry's own fields. -/
def condOk (c : Condition) : Bool :=
  levelsOk c && decide (c.onDelay ≤ 255) && decide (c.offDelay ≤ 255) &&
    (!c.latch || c.announce) && (!c.chime || decide (c.severity ≠ .info)) &&
    decide (c.escalation ≤ 60) &&
    (decide (c.escalation = 0) || (decide (c.severity = .alarm) && c.announce))

def parseCondition (b : List Byte) : Option Condition :=
  match parseSource (byteAt b 0).toNat (byteAt b 1).toNat, severityOf (bitField (byteAt b 11) 7 6),
      policyOf (bitField (byteAt b 11) 1 0) with
  | some source, some severity, some policy =>
      let c : Condition :=
        { source := source
          set := intAt b 2 3
          clear := intAt b 5 3
          qualifier := optByte (byteAt b 8)
          onDelay := (byteAt b 9).toNat
          offDelay := (byteAt b 10).toNat
          severity := severity
          chime := (byteAt b 11).getLsbD 5
          announce := (byteAt b 11).getLsbD 4
          latch := (byteAt b 11).getLsbD 3
          policy := policy
          escalation := (byteAt b 12).toNat }
      guardOpt (condOk c) c
  | _, _, _ => none

/-- A present qualifier is lower than the entry's own index and enabled (R61). -/
def qualifierOk (lower : List (Entry Condition)) (own : Nat) (c : Condition) : Bool :=
  match c.qualifier with
  | none => true
  | some q => decide (q < own) && (entryAt lower q).isSome

/-! ## Lamp, input and Drive-Time Parameter images -/

def periodOf (code : Nat) : Option Period :=
  match code with
  | 0 => some .ms250
  | 1 => some .ms500
  | 2 => some .ms1000
  | 3 => some .ms2000
  | _ => none

/-- A field of 0 no and 1 yes. -/
def yesNo (code : Nat) : Option Bool :=
  match code with
  | 0 => some false
  | 1 => some true
  | _ => none

/-- The checks of R81. -/
def lampOk (l : Lamp) : Bool :=
  decide (1 ≤ l.onTime) && decide (l.onTime ≤ 4) && decide (1 ≤ l.pulses) && decide (l.pulses ≤ 2) &&
    (decide (l.pulses = 1) || decide (l.onTime ≤ 2))

def parseLamp (b : List Byte) : Option Lamp :=
  match periodOf (byteAt b 8).toNat, yesNo (byteAt b 11).toNat with
  | some period, some check =>
      let l : Lamp :=
        { mask := condSetOf (b.take 8)
          period := period
          onTime := (byteAt b 9).toNat
          pulses := (byteAt b 10).toNat
          check := check }
      guardOpt (lampOk l) l
  | _, _ => none

def roleOf (code : Nat) : Option Role :=
  match code with
  | 0 => some .general
  | 1 => some .ackButton
  | 2 => some .parkBrake
  | _ => none

/-- An Input Table image: entry 0 is the supply entry (R130). -/
def parseInput (index : Nat) (b : List Byte) : Option InputCfg :=
  if index = 0 then some (.supply (byteAt b 0).toNat)
  else
    match yesNo (byteAt b 0).toNat, yesNo (byteAt b 1).toNat, roleOf (byteAt b 2).toNat with
    | some low, some long, some role => some (.switch low long role)
    | _, _, _ => none

/-- A lower-numbered enabled entry already has this ACK_BUTTON or PARK_BRAKE role (R131). -/
def roleTaken (lower : List (Entry InputCfg)) (c : InputCfg) : Bool :=
  match c with
  | .switch _ _ .ackButton => lower.any fun e =>
      match e with
      | .enabled (.switch _ _ .ackButton) => true
      | _ => false
  | .switch _ _ .parkBrake => lower.any fun e =>
      match e with
      | .enabled (.switch _ _ .parkBrake) => true
      | _ => false
  | .switch _ _ .general => false
  | .supply _ => false

def activityOf (code : Nat) : Option Activity :=
  match code with
  | 0 => some .driving
  | 1 => some .work
  | 2 => some .available
  | 3 => some .rest
  | 4 => some .unknown
  | _ => none

/-- The activity map: every entry must be one of the five activities (R105, R190). -/
def parseMap : List Byte → Option (List Activity)
  | [] => some []
  | b :: bs =>
      match activityOf b.toNat, parseMap bs with
      | some a, some as => some (a :: as)
      | _, _ => none

def inRange (lo hi n : Nat) : Bool := decide (lo ≤ n) && decide (n ≤ hi)

/-- The ranges of R105, with the cross-field checks of R106. -/
def driveOk (p : DriveParams) : Bool :=
  inRange 1 1440 p.contLimit && inRange 1 1440 p.fullBreak && decide (1 ≤ p.splitFirst) &&
    decide (p.splitFirst < p.fullBreak) && decide (1 ≤ p.splitSecond) &&
    decide (p.splitSecond < p.fullBreak) && inRange 1 1440 p.dailyLimit &&
    inRange 1 1440 p.dailyRest && decide (p.prewarn ≤ 120) && decide (p.prewarn < p.contLimit) &&
    inRange 1 255 p.mismatchTime && optAtMost 159 p.roadSpeed && optAtMost 159 p.tachoSpeed &&
    optAtMost 159 p.activity1 && optAtMost 159 p.activity2 && optAtMost 159 p.presence1 &&
    optAtMost 159 p.presence2 && optAtMost 159 p.digest1 && optAtMost 159 p.digest2 &&
    optAtMost 2047 p.broadcastId && decide (p.broadcastPriority ≤ 7) && decide (p.cluster ≤ 50)

def parseDrive (b : List Byte) : Option DriveParams :=
  match parseMap ((b.drop 26).take 8) with
  | none => none
  | some activityMap =>
      let ident := natAt b 34 2
      let p : DriveParams :=
        { contLimit := natAt b 0 2
          fullBreak := natAt b 2 2
          splitFirst := natAt b 4 2
          splitSecond := natAt b 6 2
          dailyLimit := natAt b 8 2
          dailyRest := natAt b 10 2
          prewarn := (byteAt b 12).toNat
          moving := natAt b 13 2
          tolerance := natAt b 15 2
          mismatchTime := (byteAt b 17).toNat
          roadSpeed := optByte (byteAt b 18)
          tachoSpeed := optByte (byteAt b 19)
          activity1 := optByte (byteAt b 20)
          activity2 := optByte (byteAt b 21)
          presence1 := optByte (byteAt b 22)
          presence2 := optByte (byteAt b 23)
          digest1 := optByte (byteAt b 24)
          digest2 := optByte (byteAt b 25)
          activityMap := activityMap
          broadcastId := if ident = 65535 then none else some ident
          broadcastPriority := (byteAt b 36).toNat
          cluster := (byteAt b 37).toNat }
      guardOpt (driveOk p) p

/-! ## Validation (R162) -/

/-- One entry by its store state and its image, before the tests against other entries (R161). -/
def judgeEntry {α : Type} (m : List Host.Cell) (t : TableId) (i : Nat)
    (parse : List Byte → Option α) : Entry α :=
  match storeStateOf m t i with
  | .erased => .unused
  | .bad => .disabled
  | .good =>
      match parse (storeImage m t i) with
      | some a => .enabled a
      | none => .disabled

/-- Disable an enabled entry that fails a further test. -/
def Entry.keepIf {α : Type} (e : Entry α) (ok : α → Bool) : Entry α :=
  match e with
  | .enabled a => if ok a then .enabled a else .disabled
  | .disabled => .disabled
  | .unused => .unused

/-- Judge the entries of a table in ascending number, each against the ones before it. -/
def judgeTable {α : Type} (judge : List (Entry α) → Nat → Entry α) (n : Nat) : List (Entry α) :=
  (List.range n).foldl (fun lower i => lower ++ [judge lower i]) []

/-- Routes: the checks of R2, then the key and signal tests of R3. -/
def judgeRoute (m : List Host.Cell) (lower : List (Entry Route)) (i : Nat) : Entry Route :=
  (judgeEntry m .route i parseRoute).keepIf fun r => !(lower.any (routeClash r))

/-- Signal descriptors against the active routes (R22): an erased one in a route's range is disabled. -/
def judgeSignal (m : List Host.Cell) (routes : List (Entry Route)) (i : Nat) : Entry SigDesc :=
  let route := routeFilling routes i
  match judgeEntry m .signal i parseSignal with
  | .unused => if route.isSome then .disabled else .unused
  | e => e.keepIf fun d => sigFits d route

def judgeCondition (m : List Host.Cell) (lower : List (Entry Condition)) (i : Nat) :
    Entry Condition :=
  (judgeEntry m .condition i parseCondition).keepIf (qualifierOk lower i)

def judgeInput (m : List Host.Cell) (lower : List (Entry InputCfg)) (i : Nat) : Entry InputCfg :=
  (judgeEntry m .input i (parseInput i)).keepIf fun c => !(roleTaken lower c)

/-- The tables a validation builds, before they are put in force. -/
structure NewTables where
  routes  : List (Entry Route)
  signals : List (Entry SigDesc)
  gauges  : List (Entry Gauge)
  conds   : List (Entry Condition)
  lamps   : List (Entry Lamp)
  inputs  : List (Entry InputCfg)
  drive   : Entry DriveParams
  deriving DecidableEq, Repr

/-- The whole walk of R162, in its order. -/
def validate (m : List Host.Cell) : NewTables :=
  let routes := judgeTable (judgeRoute m) 96
  { routes := routes
    signals := (List.range 160).map (judgeSignal m routes)
    gauges := (List.range 6).map fun i => judgeEntry m .gauge i parseGauge
    conds := judgeTable (judgeCondition m) 64
    lamps := (List.range 32).map fun i => judgeEntry m .lamp i parseLamp
    inputs := judgeTable (judgeInput m) 16
    drive := judgeEntry m .drive 0 parseDrive }

def Entry.isDisabled {α : Type} : Entry α → Bool
  | .disabled => true
  | .enabled _ | .unused => false

/-- The numbers of the disabled entries of one table, with the table. -/
def failuresIn {α : Type} (t : TableId) (entries : List (Entry α)) : List (TableId × Nat) :=
  (List.range entries.length).filterMap fun i =>
    if (entries.getD i .unused).isDisabled then some (t, i) else none

/-- Every failing entry, in the order of R162. -/
def NewTables.failures (n : NewTables) : List (TableId × Nat) :=
  failuresIn .route n.routes ++ failuresIn .signal n.signals ++ failuresIn .gauge n.gauges ++
    failuresIn .condition n.conds ++ failuresIn .lamp n.lamps ++ failuresIn .input n.inputs ++
    failuresIn .drive [n.drive]

/-- A route put in force: NEVER, its timer started for timeout × 20 ms (R4). -/
def liveRoute (r : Route) : LiveRoute :=
  { cfg := r, fresh := .never, timer := if r.timeout = 0 then none else some (20 * r.timeout) }

def Entry.mapTo {α β : Type} (e : Entry α) (f : α → β) : Entry β :=
  match e with
  | .enabled a => .enabled (f a)
  | .disabled => .disabled
  | .unused => .unused

/-- The working tables of the run domain that a validation's result gives (R163). -/
def NewTables.working (n : NewTables) : Tables :=
  { routes := n.routes.map fun e => e.mapTo liveRoute
    signals := n.signals
    gauges := n.gauges
    conds := n.conds
    lamps := n.lamps
    inputs := n.inputs }

def Entry.workState {α : Type} : Entry α → WorkState
  | .enabled _ => .enabled
  | .disabled => .disabled
  | .unused => .unused

/-- The Drive-Time record a validation produces: the entry's, or the defaults (R106). -/
def NewTables.params (n : NewTables) : DriveParams :=
  match n.drive with
  | .enabled p => p
  | .disabled | .unused => DriveParams.defaults

/-- The working state of an entry in the tables now in force (R179). -/
def workStateAt (s : State) (t : TableId) (i : Nat) : WorkState :=
  match t with
  | .route => (s.run.tables.routes.getD i .unused).workState
  | .signal => (s.run.tables.signals.getD i .unused).workState
  | .gauge => (s.run.tables.gauges.getD i .unused).workState
  | .condition => (s.run.tables.conds.getD i .unused).workState
  | .lamp => (s.run.tables.lamps.getD i .unused).workState
  | .input => (s.run.tables.inputs.getD i .unused).workState
  | .drive => s.dtu.paramState

end Sys2Proof.Machine
end

