-- ==== Sys2Proof/Machine/Modes.lean ====
section
/-! DEFINITION. Machine/Modes.lean: the Mode Controller's transitions (R159 to R170) with the part each
unit takes in them: the run-domain reset, the start of a STARTUP validation, the activation of the
tables, the gauges-and-lamps phase, SERVICE and its forced exit, the restart, SHUTDOWN and STANDBY
entry; and the delivery of a frame signal's update event (R24). -/

namespace Sys2Proof.Machine

/-! ## STARTUP to RUN, SHUTDOWN to STANDBY (R164, R170) -/

/-- R164: with both reports yes in the gauges-and-lamps phase, the mode becomes RUN. -/
def startupCheck (s : State) : State :=
  if s.mode = .startup ∧ s.phase = .gaugesAndLamps ∧ s.run.mc.gaugesStarted = true ∧
      s.run.mc.lampCheckEnded = true then
    noticeIfOn .status { s with mode := .run, phase := .none }
  else s

/-- R170: STANDBY is entered and the run domain is powered down: everything in it is lost. -/
def enterStandby (s : State) : State :=
  { s with mode := .standby, phase := .none, shutdownTimer := none, run := Run.unpowered }

/-- R170: with the gauges at rest and the DUQ empty, SHUTDOWN ends. -/
def standbyCheck (s : State) : State :=
  if s.mode = .shutdown ∧ s.run.mc.gaugesAtRest = true ∧ s.run.queues.duq = [] then enterStandby s
  else s

/-- The Gauge Unit's reports (R51), and what the Mode Controller does on them. -/
def gaugesMoved (s : State) : State := standbyCheck (startupCheck (reportGauges s))

/-! ## Forcings (R58, R91, R102) -/

/-- Every lamp's forcing is released. -/
def releaseLamps (s : State) : State :=
  driveLamps { s with run.tu.lamps := s.run.tu.lamps.map fun r => { r with forced := none } }

/-- Every forcing is released: gauges, lamps and a chime pattern playing in SERVICE. -/
def releaseForcings (s : State) : State := chimeSilence (releaseLamps (releaseGauges s))

/-! ## The forced exit from SERVICE (R167) -/

/-- The command in progress, when it is this one and is being carried out. -/
def executing (s : State) (c : CmdCode) : Bool :=
  decide (s.run.mu.phase = .executing) &&
    match s.run.mu.cmd with
    | some cmd => decide (payloadCmd cmd.payload = some c)
    | none => false

/-- R167 step 4, R177: a LEAVE SERVICE validation in progress ends with REFUSED_INTERLOCK. -/
def abandonLeaveService (s : State) : State :=
  if s.run.mc.validation.isSome then
    let s1 := { s with run.mc.validation := none }
    if executing s1 .leaveService then answer .refusedInterlock [] s1 else s1
  else s

/-- R167 step 3, R101: REPEAT is requested when an entry is at level 2. -/
def requestRepeat (s : State) : State :=
  if anyLevel2 s.run.tu.alerts then chimeRequest .rep s else s

/-- R167: the forced exit; in any mode but SERVICE it has no effect. -/
def forcedExit (s : State) : State :=
  if s.mode = .service then
    let s1 := flagChange .service false { s with mode := .run }
    noticeIfOn .status (abandonLeaveService (requestRepeat (releaseForcings s1)))
  else s

/-! ## Signal update events (R24) -/

/-- R167: an update of the road-speed index whose entry is usable above 50 forces the exit. -/
def roadSpeedEvent (i : Nat) (s : State) : State :=
  if s.dtu.params.roadSpeed = some i then
    match usableAt s i with
    | some v => if 50 < v then forcedExit s else s
    | none => s
  else s

/-- R24: an update event of a frame signal: to the Condition Unit, the Drive-Time Unit (card events
of slot 1 and slot 2, then the speeds) and the Mode Controller (notes/assumptions/8.md). -/
def signalUpdate (i : Nat) (s : State) : State :=
  roadSpeedEvent i (speedEvent i (cardEvent 2 i (cardEvent 1 i (conditionsOnSignal i s))))

/-- Write entry `i` and deliver its update event. -/
def writeSignal (i : Nat) (e : SigEntry) (s : State) : State := signalUpdate i (putSignal s i e)

/-! ## Ignition on (R160, R170) -/

/-- A STARTUP validation begins (R162). -/
def beginStartup (s : State) : State :=
  { s with mode := .startup, phase := .validating, shutdownTimer := none
           run.mc.validation := some Config.validationMicros }

/-- R160: the run-domain reset and the entry into STARTUP from STANDBY. -/
def coldStart (s : State) : State :=
  noticeIfOn .status (writeSlotSignals (beginStartup { s with run := Run.initial }))

/-- R1, R10: the Frame Router holds no active route, and F1 to F3 are clear without a change. Every route
entry is then unused, a disabled one too (DESIGN CHOICE: the rules name the active ones alone,
notes/assumptions/14.md). -/
def dropRoutes (s : State) : State :=
  putFlag (putFlag (putFlag { s with run.tables.routes := Tables.initial.routes }
    .displayLost false) .gatewayLost false) .tachoLost false

/-- R134: DIN1 to DIN15 are no longer sampled and count as inactive. -/
def stopSampling (s : State) : State :=
  { s with run.iu.sampling := false, run.iu.inputs := Iu.initial.inputs }

/-- R170: STARTUP entered from SHUTDOWN, without a run-domain reset. -/
def warmStart (s : State) : State :=
  noticeIfOn .status (driveLamps (stopSampling (abandonConditions (dropRoutes (beginStartup s)))))

/-- R159: ignition on. -/
def ignitionOn (s : State) : State :=
  match s.mode with
  | .standby => coldStart s
  | .shutdown => warmStart s
  | .startup | .run | .service => s

/-! ## Activation (R163) -/

/-- R134: the debounced inputs as one sample each begins them. -/
def sampleInputs (s : State) (levels : BitVec 16) : List Debounce :=
  (List.range 16).map fun n =>
    match inputAt s n with
    | some (.switch activeLow _ _) => { active := levels.getLsbD n != activeLow, count := 0 }
    | some (.supply _) | none => Debounce.initial

/-- R136: the threshold code in force; code 8 when the supply entry gives none. -/
def thresholdCode (s : State) : Nat :=
  match inputAt s 0 with
  | some (.supply code) => code
  | some (.switch _ _ _) | none => Config.defaultThresholdCode

/-- R163 step 4: sampling begins, and the supply monitor takes the new code with its counts at 0. -/
def startSampling (levels : BitVec 16) (s : State) : State :=
  { s with run.iu.sampling := true, run.iu.inputs := sampleInputs s levels
           run.iu.code := thresholdCode s, run.iu.low := 0, run.iu.lowClear := 0, run.iu.high := 0
           run.iu.highClear := 0 }

/-- R163: the activation of the tables a validation has built, in its seven steps. After a STARTUP from
SHUTDOWN the Signal Store keeps every entry (R170), also one whose descriptor the new table disables or
no longer holds, or whose limits it moves, which R25 and R33 do not tell (DESIGN CHOICE,
notes/assumptions/14.md). -/
def activate (new : NewTables) (levels : BitVec 16) (s : State) : State :=
  let count := new.failures.length
  let s1 := flagChange .configFault (decide (count ≠ 0))
    { s with run.mc.disabledCount := count, run.mu.storeDiffers := false }
  let s4 := startSampling levels { s1 with run.tables := new.working }
  firstEvaluation (filterAlerts (replaceParams new.params new.drive.workState s4))

/-! ## The gauges-and-lamps phase (R164) -/

/-- R87: the lamp check starts for the cluster field's duration and requests CHECK; with duration 0
it ends at once. -/
def startLampCheck (s : State) : State :=
  let duration := 100 * s.dtu.params.cluster
  let s1 := { s with run.tu.lampCheck := if duration = 0 then none else some duration
                     run.mc.lampCheckEnded := decide (duration = 0) }
  driveLamps (chimeRequest .check s1)

/-- R164: the phase begins: placement, the gauges' report, the lamp check, the Tell-tale notice. -/
def beginGaugesAndLamps (s : State) : State :=
  let s1 := { s with phase := .gaugesAndLamps, run.mc.lampCheckEnded := false }
  let s2 := reportGauges (evaluateF6 (mapChannels (placeChannel s1) s1))
  startupCheck (placeNotice .telltale (startLampCheck s2))

/-- R162: the STARTUP validation has completed. -/
def completeStartup (levels : BitVec 16) (s : State) : State :=
  beginGaugesAndLamps
    (activate (validate s.store) levels { s with run.mc.validation := none })

/-! ## SHUTDOWN (R169) -/

/-- R153: the Vehicle Link Interface finishes an entry in flight when its attempt is in progress, or
when part 1 of it has not been attempted. -/
def finishes (sending : Bool) (e : QEntry) : Bool :=
  e.inFlight && (sending || (decide (e.part = 1) && !e.attempted))

/-- Report each removed REPLY as having left its queue (R14). -/
def reportRemoved (removed : List QEntry) (s : State) : State :=
  removed.foldl (fun t e => replyLeft e.origin t) s

/-- R20, R153: the VTQ and the DRQ are emptied but for the frames on hand. -/
def emptyQueues (s : State) : State :=
  let keep := finishes s.run.vli.sending.isSome
  let kept := { s with run.queues.vtq := s.run.queues.vtq.filter keep
                       run.queues.drq := s.run.queues.drq.filter QEntry.inFlight }
  reportRemoved (s.run.queues.vtq.filter fun e => !keep e) kept

/-- R4: the freshness timers stop; states and flags are held. -/
def stopFreshness (s : State) : State :=
  { s with run.tables.routes :=
      s.run.tables.routes.map fun e => e.mapTo fun r => { r with timer := none } }

/-- ERROR_WAIT: the assembly buffer is empty and nothing is bound; the line is measured on (R142). -/
def Iface.waitIdle (i : Iface) : Iface :=
  { i with rx := .errorWait, buffer := [], bits := 0, binding := none }

/-- ERROR_WAIT at a reconnection: what the isolated VLI drove and heard counts for nothing, and the line is
measured anew; the filter is kept (DEDUCED, notes/assumptions/12.md). -/
def Iface.waitAnew (i : Iface) : Iface :=
  { i.waitIdle with line := { Line.initial with filter := i.line.filter } }

/-- R156: the VLI is connected to the line again after a loopback test. -/
def reconnect (v : Vli) : Vli := { v with test := .off, stuckTimer := 0, iface := v.iface.waitAnew }

/-- R156: at SHUTDOWN entry a running test is abandoned, a waiting one withdrawn. -/
def dropTest (v : Vli) : Vli :=
  match v.test with
  | .running => reconnect v
  | .waiting => { v with test := .off }
  | .off => v

/-- R177: at SHUTDOWN entry a command not yet answered is abandoned. -/
def abandonCommand (s : State) : State :=
  if s.run.mu.phase = .ifrPending ∨ s.run.mu.phase = .executing then
    { s with run.mu.phase := .idle, run.mu.cmd := none }
  else s

/-- R97, R104: the escalation timers are paused. -/
def pauseAlerts (l : List Alert) : List Alert :=
  l.map fun a =>
    match a.timer with
    | some t => { a with timer := some { t with running := false } }
    | none => a

/-- R52: what SHUTDOWN entry does to the channels, with the reports. -/
def returnGauges (s : State) : State := reportGauges (mapChannels (fun _ => shutdownChannel) s)

/-- R86, R87, R91, R101, R104: the Tell-tale Unit's part of SHUTDOWN entry. -/
def darkenLamps (s : State) : State :=
  let s1 := { s with run.tu.lampCheck := none, run.tu.alerts := pauseAlerts s.run.tu.alerts }
  chimeSilence (releaseLamps s1)

/-- R169: SHUTDOWN entry. -/
def enterShutdown (s : State) : State :=
  let s1 := { s with mode := .shutdown, phase := .none, run.mc.validation := none
                     shutdownTimer := some Config.shutdownMillis }
  let s2 := darkenLamps (returnGauges (emptyQueues (stopFreshness s1)))
  let s3 := abandonCommand { s2 with run.vli := dropTest s2.run.vli }
  placeNotice .status (flagChange .service false s3)

/-- R159: ignition off. -/
def ignitionOff (s : State) : State :=
  match s.mode with
  | .startup | .run | .service => enterShutdown s
  | .standby | .shutdown => s

/-! ## The restart after LEAVE SERVICE (R168) -/

/-- R149, R153: the VLI's part: an attempt in progress is stopped, which leads to ERROR_WAIT as STUCK does,
and everything received so far is kept. The filter and the measure of the line go on (R141, R142): the line is
idle 120 samples after its last dominant, one's own included. -/
def restartVli (v : Vli) : Vli :=
  { v with sending := none, stuckTimer := 0, test := .off
           iface := if v.sending.isSome ∨ v.iface.rx = .stuck then v.iface.waitIdle else v.iface }

/-- R155: the DLI's part: a frame in flight is stopped, and the transmit wire is to be recessive for 120
samples from there (DEDUCED, notes/assumptions/12.md). -/
def restartDli (d : Dli) : Dli :=
  { d with sending := none, recessive := if d.sending.isSome then 0 else d.recessive }

/-- R168 step 2: the run domain as it stands after the reset of the restart. -/
def restartRun (r : Run) : Run :=
  { Run.initial with
    flags := { Flags.initial with relayOverflow := r.flags.relayOverflow
                                  addressConflict := r.flags.addressConflict }
    vli := restartVli r.vli
    dli := restartDli r.dli
    gu := { Gu.initial with channels := r.gu.channels }
    tu := { Tu.initial with blink := r.tu.blink, blinkTimer := r.tu.blinkTimer }
    mu := { r.mu with busyQueued := false } }

/-- R168: the restart, in its five steps. -/
def restart (levels : BitVec 16) (s : State) : State :=
  let s1 := releaseForcings s
  let s2 := { s1 with run := restartRun s1.run }
  let s3 := activate (validate s2.store) levels s2
  let s4 := reportGauges (mapChannels (restartChannel s3) s3)
  let s5 := placeNotice .telltale (driveLamps (writeSlotSignals s4))
  answer .ok [] (noticeIfOn .status { s5 with mode := .run })

end Sys2Proof.Machine
end

