-- ==== Sys2Proof/Machine/Inputs.lean ====
section
/-! DEFINITION. Machine/Inputs.lean: the Input Unit: debouncing (R132), the ignition input (R133), the
edges of DIN1 to DIN15 (R135), the supply measurement and the judging of F9 and F10 (R136 to R138)
with what a supply flag does to the gauges, the chime and the lamps (R56, R86, R101). -/

namespace Sys2Proof.Machine

/-! ## Debouncing (R132) -/

/-- Debounce numbers (R130). -/
def debounceNumber (long : Bool) : Nat := if long then 80 else 8

/-- R132: one sample, after polarity; and whether it raises an edge. -/
def debounceSample (number : Nat) (d : Debounce) (sample : Bool) : Debounce × Bool :=
  if sample = d.active then ({ d with count := 0 }, false)
  else if number ≤ d.count + 1 then ({ active := sample, count := 0 }, true)
  else ({ d with count := d.count + 1 }, false)

/-! ## The ignition input (R133) -/

inductive IgnitionEvent where
  | finding (active : Bool)
  | on
  | off
  deriving DecidableEq, Repr

/-- R133: one sample of DIN0; a high level is active. -/
def din0Sample (d : Din0) (sample : Bool) : Din0 × Option IgnitionEvent :=
  match d.level with
  | .undecided =>
      let count := if d.count ≠ 0 ∧ sample = d.last then d.count + 1 else 1
      if count < debounceNumber true then ({ d with count := count, last := sample }, none)
      else
        ({ level := if sample then .active else .inactive, count := 0, last := sample }
          , some (.finding sample))
  | .active =>
      if sample then ({ d with count := 0, last := sample }, none)
      else if d.count + 1 < debounceNumber true then
        ({ d with count := d.count + 1, last := sample }, none)
      else ({ level := .inactive, count := 0, last := sample }, some .off)
  | .inactive =>
      if sample = false then ({ d with count := 0, last := sample }, none)
      else if d.count + 1 < debounceNumber true then
        ({ d with count := d.count + 1, last := sample }, none)
      else ({ level := .active, count := 0, last := sample }, some .on)

/-- What the Mode Controller does on the finding and on the edges of DIN0 (R133, R159). -/
def ignitionEvent (e : IgnitionEvent) (s : State) : State :=
  match e with
  | .finding true | .on => ignitionOn s
  | .finding false => s
  | .off => ignitionOff s

/-- One 1 ms sample of DIN0, with what it raises. -/
def ignitionSample (s : State) (sample : Bool) : State :=
  let (d, e) := din0Sample s.din0 sample
  let s1 := { s with din0 := d }
  match e with
  | some e => ignitionEvent e s1
  | none => s1

/-- The 1 ms samples of DIN0 in their order. -/
def ignitionSamples (samples : List Bool) (s : State) : State := samples.foldl ignitionSample s

/-! ## DIN1 to DIN15 (R134, R135) -/

/-- R135: one edge is handed to the Condition Unit, then by the input's role to the Tell-tale Unit
or the Mode Controller (notes/assumptions/8.md). -/
def inputEdge (n : Nat) (role : Role) (active : Bool) (s : State) : State :=
  let s1 := conditionsOnInput n s
  match role with
  | .general => s1
  | .ackButton => if active then acknowledge (ackNewest s1) s1 else s1
  | .parkBrake => if active then s1 else forcedExit s1

/-- One 1 ms sample of DINn, true for the high level; an input that is not sampled ignores it. -/
def inputSample (n : Nat) (s : State) (level : Bool) : State :=
  if s.run.iu.sampling then
    match inputAt s n with
    | some (.switch activeLow long role) =>
        let (d, edge) := debounceSample (debounceNumber long) (debounceAt s n) (level != activeLow)
        let s1 := { s with run.iu.inputs := updAt s.run.iu.inputs n fun _ => d }
        if edge then inputEdge n role d.active s1 else s1
    | some (.supply _) | none => s
  else s

def inputSamples (n : Nat) (samples : List Bool) (s : State) : State :=
  samples.foldl (inputSample n) s

/-! ## The supply monitor (R136 to R138) -/

/-- R136: the under-voltage threshold U. -/
def underThreshold (code : Nat) : Nat := 1600 + 25 * min code 24

/-- R137: the low count and the recovery count of F9 after a measurement. -/
def judgeUnder (code v : Nat) (flag : Bool) (u : Iu) : Iu :=
  if flag then
    { u with lowClear := if underThreshold code + 50 ≤ v then min 10 (u.lowClear + 1) else 0 }
  else { u with low := if v < underThreshold code then min 10 (u.low + 1) else 0 }

/-- R138: the high count and the recovery count of F10 after a measurement. -/
def judgeOver (v : Nat) (flag : Bool) (u : Iu) : Iu :=
  if flag then { u with highClear := if v < Config.overClear then min 10 (u.highClear + 1) else 0 }
  else { u with high := if Config.overSet ≤ v then min 10 (u.high + 1) else 0 }

/-- R136: a measurement is written to entry 160 and then judged, above 40.00 V as 4000. -/
def measureSupply (centivolts : Nat) (s : State) : State :=
  let s1 := writeInternal 160 (supplyEntry centivolts) s
  let v := min 4000 centivolts
  let u := judgeOver v s1.run.flags.overVoltage
    (judgeUnder s1.run.iu.code v s1.run.flags.underVoltage s1.run.iu)
  { s1 with run.iu := { u with timer := Config.supplyPeriod } }

/-- A count of R137 or R138 has reached 10 for this flag. -/
def underSetDue (s : State) : Bool :=
  !s.run.flags.underVoltage && decide (10 ≤ s.run.iu.low)

def underClearDue (s : State) : Bool :=
  s.run.flags.underVoltage && decide (10 ≤ s.run.iu.lowClear)

def overSetDue (s : State) : Bool :=
  !s.run.flags.overVoltage && decide (10 ≤ s.run.iu.high)

def overClearDue (s : State) : Bool :=
  s.run.flags.overVoltage && decide (10 ≤ s.run.iu.highClear)

/-- R56: a supply flag is set: every moving channel freezes. -/
def freezeGauges (s : State) : State := mapChannels (fun _ => freezeChannel) s

/-- R56: when both supply flags are clear, every FROZEN channel returns to its resume state. -/
def resumeGauges (s : State) : State :=
  if supplyFault s then s else mapChannels (fun _ => resumeChannel) s

/-- R101: the pattern playing is abandoned. -/
def abandonChime (s : State) : State := { s with run.tu.chime := s.run.tu.chime.abandon }

/-- R137, R56, R101: F9 is set. Its flag change, with all that it causes, is taken before the pattern playing
is abandoned. Where that change withdraws REPEAT while it plays, the highest pattern in the queue starts
(R100) with F9 already set and is lost here: R100 and R101 give no order (DESIGN CHOICE, unsafe:
notes/assumptions/14.md). -/
def setUnder (s : State) : State :=
  let s1 := { s with run.iu.low := 0, run.iu.lowClear := 0 }
  abandonChime (freezeGauges (flagChange .underVoltage true s1))

/-- R137: F9 is cleared. -/
def clearUnder (s : State) : State :=
  let s1 := { s with run.iu.low := 0, run.iu.lowClear := 0 }
  chimeResume (resumeGauges (flagChange .underVoltage false s1))

/-- R138: F10 is set; the lamp drivers are cut (R86). -/
def setOver (s : State) : State :=
  let s1 := { s with run.iu.high := 0, run.iu.highClear := 0 }
  driveLamps (freezeGauges (flagChange .overVoltage true s1))

/-- R138: F10 is cleared. -/
def clearOver (s : State) : State :=
  let s1 := { s with run.iu.high := 0, run.iu.highClear := 0 }
  driveLamps (resumeGauges (flagChange .overVoltage false s1))

/-- R138: a flag is set before the other is cleared. -/
def underSetStep (s : State) : State := if underSetDue s then setUnder s else s
def overSetStep (s : State) : State := if overSetDue s then setOver s else s

def underClearStep (s : State) : State :=
  let s1 := overSetStep s
  if underClearDue s1 then clearUnder s1 else s1

def overClearStep (s : State) : State :=
  let s1 := underSetStep s
  if overClearDue s1 then clearOver s1 else s1

end Sys2Proof.Machine
end

