-- ==== Sys2Proof/Machine/Outputs.lean ====
section
/-! DEFINITION. Machine/Outputs.lean: what the lamps, the chime and the gauges do on events of their
own: the blink timebase (R85), load supervision (R88 to R90), the lamp check's end (R87), the chime's
clockwork (R98 to R100), escalation (R97), condition delays (R67, R68), and the gauge update with the
homing and coil-fault steps it makes due (R42, R49, R54). -/

namespace Sys2Proof.Machine

/-! ## Blink timebase (R85) -/

/-- R85: the pattern phase of one lamp at a timebase count. An idle lamp has no period, and the rule does not
say what its phase becomes: it is kept, also by a lamp that an activation then enables, up to the next advance
(DESIGN CHOICE, unsafe: notes/assumptions/14.md). -/
def phaseAt (s : State) (count n : Nat) (r : LampRec) : LampRec :=
  match lampAt s n with
  | some l => { r with lit := patternLit l count }
  | none => r

/-- R85: the timebase advances, every pattern phase is set afresh and the outputs follow. -/
def advanceBlink (s : State) : State :=
  let count := (s.run.tu.blink + 1) % 64
  driveLamps { s with run.tu.blink := count, run.tu.blinkTimer := Config.blinkMicros
                      run.tu.lamps := mapFrom (phaseAt s count) 0 s.run.tu.lamps }

/-! ## Load supervision (R88 to R90) -/

def updLamp (n : Nat) (f : LampRec → LampRec) (s : State) : State :=
  { s with run.tu.lamps := updAt s.run.tu.lamps n f }

/-- The lamps whose load state is this one. -/
def lampsLoaded (s : State) (l : Load) : BitVec 32 := lampsWhere s fun r => decide (r.load = l)

/-- R90: the faulty lamps are reported to the Mode Controller, F5 is re-evaluated, and a STATUS
notice lists them (R165). -/
def reportLamps (s : State) : State :=
  let s1 := { s with run.mc.openLamps := lampsLoaded s .opened
                     run.mc.shortLamps := lampsLoaded s .shorted }
  let faulty := s.run.tu.lamps.any fun r => decide (r.load ≠ .ok)
  noticeIfOn .status (flagChange .lampFault faulty s1)

/-- R88: the check of one lamp whose output is on. An OPEN lamp that delivers current is OK again; a
count that reaches 3 makes LAMP_OPEN due. -/
def checkLoad (current : BitVec 32) (n : Nat) (r : LampRec) : LampRec :=
  if r.output then
    if current.getLsbD n then
      { r with openCount := 0, load := if r.load = .opened then .ok else r.load }
    else { r with openCount := min 3 (r.openCount + 1) }
  else r

/-- R88: the load check of every lamp; recoveries from OPEN are reported. Where one check brings lamps back
from OPEN and others to the count of 3, the rule gives no order of the lamps: every recovery is reported here,
and F5 may clear with its change, before the others open by their own step, which sets F5 again (DESIGN
CHOICE, unsafe: notes/assumptions/14.md and 2.md). -/
def loadCheck (current : BitVec 32) (s : State) : State :=
  let s1 := { s with run.tu.lamps := mapFrom (checkLoad current) 0 s.run.tu.lamps
                     run.tu.loadTimer := Config.loadPeriod }
  if s1.run.tu.lamps.map LampRec.load = s.run.tu.lamps.map LampRec.load then s1 else reportLamps s1

/-- R88: the open count of an OK lamp stands at 3. -/
def lampOpenDue (s : State) (n : Nat) : Bool :=
  decide ((lampRec s n).load = .ok) && decide (3 ≤ (lampRec s n).openCount)

def openLamp (n : Nat) (s : State) : State :=
  reportLamps (updLamp n (fun r => { r with load := .opened }) s)

def lampOpenStep (n : Nat) (s : State) : State := if lampOpenDue s n then openLamp n s else s

/-- R89: overcurrent in a lamp whose output is on: the SHORT latch. -/
def shortLamp (n : Nat) (s : State) : State :=
  reportLamps (driveLamps (updLamp n (fun r => { r with load := .shorted, openCount := 0 }) s))

/-- R89: CLEAR STATUS clears the SHORT latches. -/
def clearShorts (s : State) : State :=
  if s.run.tu.lamps.any fun r => decide (r.load = .shorted) then
    let lamps := s.run.tu.lamps.map fun r => if r.load = .shorted then { r with load := .ok } else r
    reportLamps (driveLamps { s with run.tu.lamps := lamps })
  else s

/-! ## The lamp check (R87) -/

/-- R87: the lamp check ends and its end is reported. -/
def endLampCheck (s : State) : State :=
  startupCheck (driveLamps { s with run.tu.lampCheck := none, run.mc.lampCheckEnded := true })

/-! ## The chime (R98 to R100) -/

/-- A pattern that ends is playing: REPEAT does not end. -/
def endingPattern (s : State) : Bool :=
  match s.run.tu.chime.playing with
  | some p => decide (p.pattern ≠ .rep)
  | none => false

/-- REPEAT is playing. -/
def repeatPlaying (s : State) : Bool :=
  match s.run.tu.chime.playing with
  | some p => decide (p.pattern = .rep)
  | none => false

def endPattern (s : State) : State := { s with run.tu.chime := s.run.tu.chime.next }

def restartRepeat (s : State) : State := { s with run.tu.chime := s.run.tu.chime.start .rep }

/-! ## Escalation (R97) -/

/-- The entry of condition j whose escalation timer runs. -/
def escalating (s : State) (j : Nat) : Option Alert :=
  s.run.tu.alerts.find? fun a =>
    decide (a.cond = j) && match a.timer with
      | some t => t.running
      | none => false

/-- Change the entry of condition j. -/
def updAlert (j : Nat) (f : Alert → Alert) (l : List Alert) : List Alert :=
  l.map fun a => if a.cond = j then f a else a

/-- The escalation time of condition j's descriptor, in s. -/
def escalationOf (s : State) (j : Nat) : Nat := ((condAt s j).map Condition.escalation).getD 0

/-- R97: the first expiry raises the level to 1 and requests TRIPLE; the second raises it to 2, and
requests REPEAT when no entry was there. -/
def escalate (j : Nat) (a : Alert) (s : State) : State :=
  if a.level = 0 then
    let timer : EscTimer := { left := 1000 * escalationOf s j, running := true }
    let alerts := updAlert j (fun x => { x with level := 1, timer := some timer }) s.run.tu.alerts
    chimeRequest .triple { s with run.tu.alerts := alerts }
  else
    let alerts := updAlert j (fun x => { x with level := 2, timer := none }) s.run.tu.alerts
    let s1 := { s with run.tu.alerts := alerts }
    if anyLevel2 s.run.tu.alerts then s1 else chimeRequest .rep s1

/-! ## Condition delays (R67, R68) -/

/-- What the expiry of a condition's delay timer makes of its record. -/
def delayExpired (s : State) (j : Nat) (c : Condition) : Option CondRec :=
  let r := condRec s j
  match r.state, r.timer with
  | .pendingOn, some _ => some { r with state := .active, timer := none }
  | .pendingOff, some _ => some { r with state := latchChoice s c j, timer := none }
  | _, _ => none

/-! ## Gauge updates (R42, R49, R54, R55) -/

/-- R42: one gauge update event; homings and faults that it completes become due. -/
def updateGauges (sense : List (CoilSense × CoilSense)) (s : State) : State :=
  gaugesMoved (mapChannels (updateChannel s sense) { s with run.gu.timer := Config.gaugePeriod })

/-- R49: a homing whose remaining steps are driven. -/
def homingDue (s : State) (n : Nat) : Bool :=
  decide ((channelAt s n).state = .homing) && decide ((channelAt s n).homing = 0)

/-- R49: the homing of a channel completes. -/
def completeHoming (n : Nat) (g : Gauge) (s : State) : State :=
  gaugesMoved (updChannel n (homedChannel (decide (s.mode = .startup)) (supplyFault s) g) s)

/-- R49 when it is due; an idle channel is never homing (R48, R59). -/
def homingStep (n : Nat) (s : State) : State :=
  match gaugeAt s n with
  | some g => if homingDue s n then completeHoming n g s else s
  | none => s

/-- R54: a coil's open count has reached 3. -/
def coilDue (s : State) (n : Nat) : Bool := coilsOpen (channelAt s n)

/-- R55 when it is due. -/
def coilStep (n : Nat) (s : State) : State := if coilDue s n then gaugesMoved (enterFault n s) else s

end Sys2Proof.Machine
end

