-- ==== Sys2Proof/Machine/Management.lean ====
section
/-! DEFINITION. Machine/Management.lean: the Management Unit: addressing and admission (R172 to R175),
the carrying out of each command (R177 to R184) with its REPLY (R176, R188), and the progress of a
vehicle-link command through its IFR (R174). -/

namespace Sys2Proof.Machine

/-! ## Reading (R178, R179, R182) -/

/-- The READ STATUS result's bytes (R188). -/
def statusBytes (s : State) : List Byte :=
  [byteOf (modeCode s.mode)] ++ flagBytes s ++
    [linkErrorByte s.run.mu.lastLinkError,
      byteOf (2 * boolNat s.run.mu.transmitAbandoned + boolNat s.run.mu.storeDiffers)] ++
    bytes2 s.run.mc.disabledCount

def runReadStatus (s : State) : State := answer .ok (statusBytes s) s

def storeStateCode : StoreState → Nat
  | .erased => 0
  | .good => 1
  | .bad => 2

def workStateCode : WorkState → Nat
  | .enabled => 0
  | .disabled => 1
  | .unused => 2

/-- The table, index and group that a READ ENTRY or WRITE ENTRY names. -/
def entryTable (payload : List Byte) : TableId :=
  (tableOf (bitField (byteAt payload 1) 7 4)).getD .route

def entryIndex (payload : List Byte) : Nat := (byteAt payload 2).toNat
def entryGroup (payload : List Byte) : Nat := bitField (byteAt payload 1) 3 0

/-- The READ ENTRY result's bytes: the six of the group, then the states byte. -/
def entryBytes (s : State) (payload : List Byte) : List Byte :=
  let t := entryTable payload
  let i := entryIndex payload
  ((storeImage s.store t i).drop (6 * entryGroup payload)).take 6 ++
    [byteOf (16 * storeStateCode (storeStateOf s.store t i) + workStateCode (workStateAt s t i))]

def runReadEntry (c : Command) (s : State) : State := answer .ok (entryBytes s c.payload) s

/-- The READ SIGNAL result's bytes; a NEVER entry gives value 0. -/
def signalBytes (e : SigEntry) : List Byte :=
  byteOf (sigStatusCode e.status) :: signed3 (if e.status = .never then 0 else e.value)

def runReadSignal (c : Command) (s : State) : State :=
  answer .ok (signalBytes (signalAt s (byteAt c.payload 1).toNat)) s

/-- R124, R188: the record or nothing, with the gap mark in the status byte. -/
def runReadLog (c : Command) (s : State) : State :=
  let (record, gap) := readLogAnswer s.dtu.log (natAt c.payload 1 2)
  let data := (record.map logBytes).getD []
  sendResult (fun cmd => (replyFrame s cmd .ok 0 gap data, none)) s

/-- READ DRIVER's part 0 and part 1 for a bound slot (R188). -/
def driverPart0 (d : Driver) : List Byte :=
  [slotStateByte true d.synced d.inferred d.activity d.stage, byteOf (boolNat d.splitDone)] ++
    bytes2 d.digest ++ bytes2 d.cont ++ bytes2 d.daily

def driverPart1 (d : Driver) : List Byte :=
  bytes2 d.pauseRun ++ bytes2 d.restRun ++ bytes2 d.remaining

/-- R125. -/
def runReadDriver (c : Command) (s : State) : State :=
  match slotDriver s (byteAt c.payload 1).toNat with
  | none => answer .ok [0#8] s
  | some d =>
      sendResult (fun cmd =>
        (replyFrame s cmd .ok 0 false (driverPart0 d)
          , some (replyFrame s cmd .ok 1 false (driverPart1 d)))) s

/-! ## Status and store (R178, R180) -/

/-- R178: CLEAR STATUS's effect. Where it changes several flags it takes F4, then F11, then the SHORT
latches with F5, each with all its consequences: the order of R178's sentence, which neither R79 nor R178
numbers (DESIGN CHOICE, notes/assumptions/14.md). -/
def clearStatus (s : State) : State :=
  let s1 := { s with run.mu.lastLinkError := .none, run.mu.transmitAbandoned := false }
  clearShorts (flagChange .addressConflict false (flagChange .relayOverflow false s1))

def runClearStatus (s : State) : State := answer .ok [] (clearStatus s)

/-- R180: six bytes into the named group, the check byte recomputed, store differs yes. -/
def writeEntry (payload : List Byte) (s : State) : State :=
  { s with
    store := writeGroup s.store (entryTable payload) (entryIndex payload) (entryGroup payload)
      ((List.range 6).map fun k => byteAt payload (3 + k))
    run.mu.storeDiffers := true }

def runWriteEntry (c : Command) (s : State) : State := answer .ok [] (writeEntry c.payload s)

/-! ## SERVICE (R166, R168, R181) -/

/-- An enabled input with role PARK_BRAKE is ACTIVE. -/
def parkBrakeOn (s : State) : Bool :=
  (List.range 16).any fun n =>
    match inputAt s n with
    | some (.switch _ _ .parkBrake) => (debounceAt s n).active
    | some (.switch _ _ _) | some (.supply _) | none => false

/-- R166: the interlock of ENTER SERVICE. -/
def interlock (s : State) : Bool :=
  parkBrakeOn s &&
    match usableOpt s s.dtu.params.roadSpeed with
    | some v => decide (v ≤ 50)
    | none => false

/-- R166: the entry into SERVICE. -/
def enterService (s : State) : State :=
  noticeIfOn .status (chimeSilence (flagChange .service true { s with mode := .service }))

def runEnterService (s : State) : State :=
  if interlock s then answer .ok [] (enterService s) else answer .refusedInterlock [] s

/-- R168: the validation is started and the command stays in EXECUTING. -/
def runLeaveService (s : State) : State :=
  { s with run.mc.validation := some Config.validationMicros }

/-! ## Drive time (R122) -/

/-- R122: the load is refused for a parameter out of its range and for an empty slot. -/
def runSetDriveTime (c : Command) (s : State) : State :=
  let slot := (byteAt c.payload 1).toNat
  match slotDriver s slot with
  | none => answer .refusedRange [] s
  | some d =>
      if CmdCode.setDriveTime.paramsInRange c.payload then
        answer .ok []
          (syncLoad slot d.digest (natAt c.payload 2 2) (natAt c.payload 4 2)
            (decide ((byteAt c.payload 6).toNat = 1)) s)
      else answer .refusedRange [] s

/-! ## Forcings (R57, R58, R91, R102, R183) -/

def forceTarget (c : Command) : Nat := (byteAt c.payload 2).toNat

/-- R91: a lamp's forced field is set, and its output follows. -/
def forceLamp (n : Nat) (forced : Option Bool) (s : State) : State :=
  driveLamps (updLamp n (fun r => { r with forced := forced }) s)

def runLampOn (c : Command) (s : State) : State :=
  answer .ok [] (forceLamp (forceTarget c) (some true) s)

def runLampOff (c : Command) (s : State) : State :=
  answer .ok [] (forceLamp (forceTarget c) (some false) s)

def runLampRelease (c : Command) (s : State) : State :=
  answer .ok [] (forceLamp (forceTarget c) none s)

def runGaugePosition (c : Command) (s : State) : State :=
  let n := forceTarget c
  let position := natAt c.payload 3 2
  if canForce (gaugeAt s n) position (channelAt s n) then
    answer .ok [] (reportGauges (updChannel n (forceChannel position) s))
  else answer .refusedRange [] s

def runGaugeRelease (c : Command) (s : State) : State :=
  answer .ok [] (updChannel (forceTarget c) (releaseChannel (supplyFault s)) s)

/-- R102: the forced pattern takes the place of any pattern playing; under F9 it is abandoned at the
moment it starts. -/
def forceChime (p : Pattern) (s : State) : State :=
  let playing : Option Playing :=
    if s.run.flags.underVoltage then none else some { pattern := p, at_ := 0 }
  { s with run.tu.chime.playing := playing }

def runChimePattern (c : Command) (s : State) : State :=
  match patternOf (forceTarget c) with
  | none | some .rep => answer .refusedRange [] s
  | some p => answer .ok [] (forceChime p s)

/-! ## LINK TEST (R156, R184) -/

def runLinkTest (s : State) : State := { s with run.vli.test := .waiting }

/-! ## Carrying out (R177) -/

/-- The command in progress when it is this one in EXECUTING, in a mode that admits it (R177), and has
not been carried out yet: LEAVE SERVICE and LINK TEST stay in EXECUTING while their work goes on. -/
def commandDue (s : State) (c : CmdCode) : Option Command :=
  match s.run.mu.cmd with
  | none => none
  | some cmd =>
      if s.run.mu.phase = .executing ∧ payloadCmd cmd.payload = some c ∧ c.inMode s.mode = true ∧
          (c = .leaveService → s.run.mc.validation = none) ∧ (c = .linkTest → s.run.vli.test = .off) then
        some cmd
      else none

/-- FORCE OUTPUT due with this action. -/
def forceDue (s : State) (a : ForceAction) : Option Command :=
  match commandDue s .forceOutput with
  | some cmd => if forceActionOf cmd.payload = some a then some cmd else none
  | none => none

/-- Carry out a due command by its row; nothing when it is not due. -/
def whenDue (due : Option Command) (run : Command → State → State) (s : State) : State :=
  match due with
  | some cmd => run cmd s
  | none => s

def readStatusStep (s : State) : State := whenDue (commandDue s .readStatus) (fun _ => runReadStatus) s
def clearStatusStep (s : State) : State :=
  whenDue (commandDue s .clearStatus) (fun _ => runClearStatus) s
def enterServiceStep (s : State) : State :=
  whenDue (commandDue s .enterService) (fun _ => runEnterService) s
def leaveServiceStep (s : State) : State :=
  whenDue (commandDue s .leaveService) (fun _ => runLeaveService) s
def readEntryStep (s : State) : State := whenDue (commandDue s .readEntry) runReadEntry s
def writeEntryStep (s : State) : State := whenDue (commandDue s .writeEntry) runWriteEntry s
def readSignalStep (s : State) : State := whenDue (commandDue s .readSignal) runReadSignal s
def readLogStep (s : State) : State := whenDue (commandDue s .readLog) runReadLog s
def readDriverStep (s : State) : State := whenDue (commandDue s .readDriver) runReadDriver s
def setDriveTimeStep (s : State) : State := whenDue (commandDue s .setDriveTime) runSetDriveTime s
def lampOnStep (s : State) : State := whenDue (forceDue s .lampOn) runLampOn s
def lampOffStep (s : State) : State := whenDue (forceDue s .lampOff) runLampOff s
def lampReleaseStep (s : State) : State := whenDue (forceDue s .lampRelease) runLampRelease s
def gaugePositionStep (s : State) : State := whenDue (forceDue s .gaugePosition) runGaugePosition s
def gaugeReleaseStep (s : State) : State := whenDue (forceDue s .gaugeRelease) runGaugeRelease s
def chimePatternStep (s : State) : State := whenDue (forceDue s .chimePattern) runChimePattern s
def linkTestStep (s : State) : State := whenDue (commandDue s .linkTest) (fun _ => runLinkTest) s

/-- Carry out the command in progress, whichever it is. -/
def carryOut (s : State) : State :=
  match (s.run.mu.cmd.bind fun cmd => payloadCmd cmd.payload) with
  | none => s
  | some .readStatus => readStatusStep s
  | some .clearStatus => clearStatusStep s
  | some .enterService => enterServiceStep s
  | some .leaveService => leaveServiceStep s
  | some .readEntry => readEntryStep s
  | some .writeEntry => writeEntryStep s
  | some .readSignal => readSignalStep s
  | some .readLog => readLogStep s
  | some .readDriver => readDriverStep s
  | some .setDriveTime => setDriveTimeStep s
  | some .forceOutput =>
      match (s.run.mu.cmd.bind fun cmd => forceActionOf cmd.payload) with
      | none => s
      | some .lampOn => lampOnStep s
      | some .lampOff => lampOffStep s
      | some .lampRelease => lampReleaseStep s
      | some .gaugePosition => gaugePositionStep s
      | some .gaugeRelease => gaugeReleaseStep s
      | some .chimePattern => chimePatternStep s
  | some .linkTest => linkTestStep s

/-! ## Addressing and admission (R172 to R175) -/

/-- The command of an accepted CMD. -/
def commandOf (link : Link) (body : List Byte) : Command :=
  let h := headerOf body
  { link := link, prio := h.prio, ident := h.ident, source := h.source, payload := payloadOf body }

/-- R172: an all-nodes command is executed without any answer, or discarded. -/
def takeAllNodes (c : Command) (s : State) : State :=
  match payloadCmd c.payload with
  | some .clearStatus =>
      if CmdCode.clearStatus.inMode s.mode = true ∧ c.payload.length = CmdCode.clearStatus.length then
        clearStatus s
      else s
  | _ => s

/-- R174: the admission code goes out in the IFR; ACCEPTED makes the phase IFR_PENDING. -/
def admitVehicle (c : Command) (s : State) : State :=
  let code := admissionCode s.run.mu.phase s.mode c.payload
  let s1 := { s with run.vli.ifr := some { byte := ifrByte code, sending := false } }
  if code = .accepted then { s1 with run.mu.phase := .ifrPending, run.mu.cmd := some c } else s1

/-- R175: the one BUSY REPLY. -/
def placeBusy (c : Command) (s : State) : State :=
  if s.run.mu.busyQueued then s
  else
    let e := newEntry (replyFrame s c .busy 0 false [], none) .busyReply
    { s with run.queues.duq := s.run.queues.duq ++ [e], run.mu.busyQueued := true }

/-- R175: a display-link command is executed, refused with a REPLY, or answered BUSY. -/
def admitDisplay (c : Command) (s : State) : State :=
  let code := admissionCode s.run.mu.phase s.mode c.payload
  if code = .accepted then { s with run.mu.phase := .executing, run.mu.cmd := some c }
  else if code = .busy then placeBusy c s
  else answer code [] { s with run.mu.cmd := some c }

/-- R172, R173: an accepted CMD bound to the Management Unit. -/
def takeCommand (link : Link) (body : List Byte) (s : State) : State :=
  let c := commandOf link body
  if (headerOf body).target = s.nodeAddress then
    match link with
    | .vehicle => admitVehicle c s
    | .display => admitDisplay c s
  else if (headerOf body).target = 15 then takeAllNodes c s
  else s

/-! ## The IFR's end (R174, R177) -/

/-- R174, R177: the IFR has been sent: the command is carried out, or refused when the mode no longer
admits it. -/
def ifrWasSent (s : State) : State :=
  if s.run.mu.phase = .ifrPending then
    match s.run.mu.cmd.bind fun c => payloadCmd c.payload with
    | some code =>
        if code.inMode s.mode then { s with run.mu.phase := .executing }
        else answer .refusedMode [] s
    | none => s
  else s

/-- R174: the IFR was lost or failed: the command is dropped. -/
def ifrFailed (s : State) : State :=
  if s.run.mu.phase = .ifrPending then { s with run.mu.phase := .idle, run.mu.cmd := none } else s

/-- R184: the loopback test's report is answered. -/
def linkTestReport (code : Code) (stage : Nat) (s : State) : State :=
  if executing s .linkTest then answer code [byteOf stage] s else s

end Sys2Proof.Machine
end

