-- ==== Sys2Proof/Machine/Settle.lean ====
section
/-! DEFINITION. Machine/Settle.lean: the steps that follow from the state alone (a count that has
reached its number, a homing whose steps are driven, a command in EXECUTING). The table gives each a
row of its own; a sender that leaves such a row out finds it taken before its next command
(notes/assumptions/2.md). And the passing of 1 ms on an empty queue (notes/assumptions/3.md). -/

namespace Sys2Proof.Machine

/-- A count of the supply monitor has reached 10 (R137, R138). -/
def supplyDue (s : State) : Bool :=
  overSetDue s || underSetDue s || underClearDue s || overClearDue s

/-- Every command of R188. -/
def allCommands : List CmdCode :=
  [.readStatus, .clearStatus, .enterService, .leaveService, .readEntry, .writeEntry, .readSignal
    , .readLog, .readDriver, .setDriveTime, .forceOutput, .linkTest]

/-- A command stands in EXECUTING and has not been carried out (R177). -/
def carryOutDue (s : State) : Bool := allCommands.any fun c => (commandDue s c).isSome

/-- Some step that follows from the state alone has not been taken. -/
def due (s : State) : Bool :=
  supplyDue s ||
    ((List.range 6).any fun n => (gaugeAt s n).isSome && homingDue s n) ||
    ((List.range 6).any fun n => coilDue s n) ||
    ((List.range 32).any fun n => lampOpenDue s n) || carryOutDue s

/-- R137, R138: set F10 and F9 before either is cleared. -/
def settleSupply (s : State) : State := overClearStep (underClearStep (underSetStep (overSetStep s)))

def settleGauges (s : State) : State :=
  let s1 := (List.range 6).foldl (fun t n => homingStep n t) s
  (List.range 6).foldl (fun t n => coilStep n t) s1

def settleLamps (s : State) : State := (List.range 32).foldl (fun t n => lampOpenStep n t) s

/-- Take every due step: supply, homings, coil faults, open lamps, the command in progress. -/
def settle (s : State) : State :=
  if due s then carryOut (settleLamps (settleGauges (settleSupply s))) else s

/-! ## The passing of 1 ms -/

/-- A timer counts down and stays at 0. -/
def countDown (t : Option Nat) : Option Nat := t.map (· - 1)

def tickRoute (r : LiveRoute) : LiveRoute := { r with timer := countDown r.timer }

def tickCond (r : CondRec) : CondRec :=
  { r with timer := r.timer.map fun d => { d with left := d.left - 1 } }

/-- A paused escalation timer keeps its time (R97). -/
def tickAlert (a : Alert) : Alert :=
  { a with timer := a.timer.map fun t => if t.running then { t with left := t.left - 1 } else t }

/-- The length of a pattern, or of REPEAT's cycle, in ms (R98). -/
def Pattern.length : Pattern → Nat
  | .check => 100
  | .single => 200
  | .triple => 750
  | .rep => Config.repeatCycle

def tickPlaying (p : Playing) : Playing := { p with at_ := min p.pattern.length (p.at_ + 1) }

/-- R155: while the DLI drives no frame, its transmit wire is recessive for the samples of that time. -/
def Dli.rest (samples : Nat) (d : Dli) : Dli :=
  if d.sending.isSome then d else { d with recessive := min Config.wireGap (d.recessive + samples) }

/-- The timers of the run domain after 1 ms. -/
def tickRun (r : Run) : Run :=
  { r with
    tables.routes := r.tables.routes.map fun e => e.mapTo tickRoute
    dli := r.dli.rest Config.displaySamplesPerMilli
    gu.timer := r.gu.timer - 1
    cu.recs := r.cu.recs.map tickCond
    tu.blinkTimer := r.tu.blinkTimer - 1000
    tu.lampCheck := countDown r.tu.lampCheck
    tu.loadTimer := r.tu.loadTimer - 1
    tu.alerts := r.tu.alerts.map tickAlert
    tu.chime.playing := r.tu.chime.playing.map tickPlaying
    iu.timer := r.iu.timer - 1
    mc.validation := r.mc.validation.map (· - 1000)
    mismatch := countDown r.mismatch }

/-- 1 ms passes: every running timer counts down; what its expiry does is its row's command. -/
def tick (s : State) : State :=
  { s with shutdownTimer := countDown s.shutdownTimer, dtu.timer := s.dtu.timer - 1
           run := if powered s then tickRun s.run else s.run }

/-- What the part does while no command waits. -/
def idle (s : State) : State := if due s then settle s else tick s

/-- Run a command's effect after the steps that are due. -/
def after (f : State → State) (s : State) : State := f (settle s)

end Sys2Proof.Machine
end

