-- ==== Sys2Proof/Machine/Links.lean ====
section
/-! DEFINITION. Machine/Links.lean: the two link interfaces and the Frame Router's receive side: the
interest decision (R5, R6), acceptance and dispatch (R7 to R13), receive errors (R146 to R148), the
idle and stuck line (R149), transmission on both links (R150 to R155), the loopback test (R156), and
what a link's samples bring (R141, R146). -/

namespace Sys2Proof.Machine

/-! ## Interfaces -/

def ifaceOf (s : State) (link : Link) : Iface :=
  match link with
  | .vehicle => s.run.vli.iface
  | .display => s.run.dli.iface

def setIface (link : Link) (i : Iface) (s : State) : State :=
  match link with
  | .vehicle => { s with run.vli.iface := i }
  | .display => { s with run.dli.iface := i }

/-- Enter a receive state between frames: the assembly buffer is empty and nothing is bound. -/
def Iface.toState (i : Iface) (rx : RxState) : Iface :=
  { i with rx := rx, buffer := [], bits := 0, binding := none }

/-- The receive side hears the line: powered, and the VLI not isolated for a loopback test (R156). -/
def hears (s : State) (link : Link) : Bool :=
  powered s &&
    match link with
    | .vehicle => decide (s.run.vli.test ≠ .running)
    | .display => true

/-- The interface assembles a frame of another node. -/
def receiving (s : State) (link : Link) : Bool :=
  hears s link && decide ((ifaceOf s link).rx = .receiving) &&
    match link with
    | .vehicle => s.run.vli.sending.isNone
    | .display => true

/-- The whole bytes that the buffer holds. -/
def wholeBytes (i : Iface) : List Byte := i.buffer.take (i.bits / 8)

/-- R140, R146: a bit is added to the assembly buffer, the most significant of a byte first. -/
def Iface.addBit (b : Bool) (i : Iface) : Iface :=
  let place : Byte := if b then 0x80#8 >>> (i.bits % 8) else 0#8
  { i with buffer := if i.bits % 8 = 0 then i.buffer ++ [place]
                     else updAt i.buffer (i.bits / 8) fun x => x ||| place
           bits := i.bits + 1 }

/-! ## The header (R5, R6) -/

/-- R5: the active route with this source link and identifier. -/
def routeFor (s : State) (link : Link) (ident : Nat) : Option (Nat × LiveRoute) :=
  (List.range 96).findSome? fun n =>
    match routeAt s n with
    | some r => if r.cfg.link = link ∧ r.cfg.ident = ident then some (n, r) else none
    | none => none

/-- R5: what a complete header binds to; none is no interest. -/
def interest (s : State) (link : Link) (h : Header) : Option Binding :=
  match h.kind with
  | .data =>
      if routing s then
        (routeFor s link h.ident).map fun r => .route r.1 h.ident r.2.cfg.expected
      else none
  | .cmd => if h.target = s.nodeAddress ∨ h.target = 15 then some .mu else none
  | .reply | .note => none

/-- The header, which the buffer holds, is presented: bound, or IGNORING (R5, R6). -/
def presentHeader (link : Link) (s : State) : State :=
  let i := ifaceOf s link
  match interest s link (headerOf (wholeBytes i)) with
  | some b => setIface link { i with binding := some b } s
  | none => setIface link (i.toState .ignoring) s

/-! ## Supervision flags (R10) -/

/-- An active route of this supervision is STALE. -/
def anyStale (s : State) (v : Supervision) : Bool :=
  s.run.tables.routes.any fun e =>
    match e.get? with
    | some r => decide (r.cfg.supervision = v) && decide (r.fresh = .stale)
    | none => false

/-- R10: F1, F2 and F3 are re-evaluated, in that order. -/
def superviseRoutes (s : State) : State :=
  let s1 := flagChange .displayLost (anyStale s .display) s
  let s2 := flagChange .gatewayLost (anyStale s1 .gateway) s1
  flagChange .tachoLost (anyStale s2 .tacho) s2

/-! ## Dispatch (R7 to R13, R25) -/

def updRoute (n : Nat) (f : LiveRoute → LiveRoute) (s : State) : State :=
  { s with run.tables.routes := updAt s.run.tables.routes n fun e => e.mapTo f }

/-- R8: FRESH, with the timer restarted for the full timeout. -/
def refreshed (r : LiveRoute) : LiveRoute :=
  { r with fresh := .fresh
           timer := if r.cfg.timeout = 0 then none else some (20 * r.cfg.timeout) }

/-- R8, R11 step 1: the refresh, and the flags when the route was STALE. -/
def refreshRoute (n : Nat) (r : LiveRoute) (s : State) : State :=
  let s1 := updRoute n refreshed s
  if r.fresh = .stale then superviseRoutes s1 else s1

/-- The indices of a route's signals, ascending. -/
def routeSignals (r : Route) : List Nat := (List.range r.count).map (r.first + ·)

/-- R25: one signal of the route; a disabled or unused descriptor is passed over. -/
def extractOne (payload : List Byte) (s : State) (i : Nat) : State :=
  match descAt s i with
  | some d => writeSignal i (extractSignal d payload (signalAt s i)) s
  | none => s

/-- R12, R95: the action of a driver-action frame. -/
def driverAction (payload : List Byte) (s : State) : State :=
  match payload with
  | [] => s
  | code :: rest =>
      match code.toNat, rest with
      | 1, j :: _ => acknowledge (ackCondition s j.toNat) s
      | 2, _ => acknowledge (ackNewest s) s
      | _, _ => s

/-- R11: dispatch: refresh, extraction, relay, driver action. -/
def dispatch (link : Link) (n : Nat) (r : LiveRoute) (body : List Byte) (s : State) : State :=
  let payload := payloadOf body
  let s1 := refreshRoute n r s
  let s2 := (routeSignals r.cfg).foldl (extractOne payload) s1
  let s3 := relayFrame link n r.cfg.relay body s2
  if r.cfg.driverAction then driverAction payload s3 else s3

/-- R7: the binding is confirmed; a route that is no longer active under the same key is dropped. -/
def deliver (link : Link) (b : Binding) (body : List Byte) (s : State) : State :=
  match b with
  | .mu => takeCommand link body s
  | .route n ident _ =>
      match routeAt s n with
      | some r =>
          if routing s = true ∧ r.cfg.link = link ∧ r.cfg.ident = ident then dispatch link n r body s
          else s
      | none => s

/-! ## End of data (R146 to R148) -/

/-- R148: the frame is dropped whole and the error recorded. -/
def discardFrame (link : Link) (kind : ErrKind) (s : State) : State :=
  setIface link ((ifaceOf s link).toState .errorWait)
    { s with run.mu.lastLinkError := .at_ link kind }

/-- The state after an accepted frame: IFR_WAIT on the vehicle link, IDLE on the display link. -/
def acceptedState (link : Link) : RxState :=
  match link with
  | .vehicle => .ifrWait
  | .display => .idle

/-- R147: the frame is accepted and reported to the Frame Router. -/
def acceptFrame (link : Link) (b : Binding) (received : List Byte) (s : State) : State :=
  deliver link b received.dropLast (setIface link ((ifaceOf s link).toState (acceptedState link)) s)

/-- EOD in RECEIVING: the frame is accepted, or discarded by the first check that fails (R147). -/
def endOfData (link : Link) (s : State) : State :=
  let i := ifaceOf s link
  let received := wholeBytes i
  match endOfDataFault received (i.bits % 8) i.binding, i.binding with
  | some kind, _ => discardFrame link kind s
  | none, some b => acceptFrame link b received s
  | none, none => setIface link (i.toState (acceptedState link)) s

/-- The longest frame between SOF and EOD, in bits (R144). -/
def maxFrameBits : Nat := 104

/-- R146: a bit is assembled, and a header that it completes is presented; the first bit of a fourteenth
byte is a framing fault (R147). -/
def receiveBit (link : Link) (b : Bool) (s : State) : State :=
  let i := ifaceOf s link
  if maxFrameBits ≤ i.bits then discardFrame link .framing s
  else
    let s1 := setIface link (i.addBit b) s
    if headerIsComplete (wholeBytes i) = false ∧ headerIsComplete (wholeBytes (i.addBit b)) = true then
      presentHeader link s1
    else s1

/-- R142, R146, R147: RECEIVING, for a frame of another node. -/
def receiveEvent (link : Link) (e : LineEvent) (s : State) : State :=
  match e with
  | .symbol x =>
      match x.bit? with
      | some b => receiveBit link b s
      | none => discardFrame link x.fault s
  | .edge r c => if edgeInTime (ifaceOf s link).bits r c then s else discardFrame link .invalid s
  | .eod => endOfData link s
  | .passes14 | .ifrTurn | .eof | .idle | .stuck => s

/-! ## The idle and the stuck line (R146, R149) -/

/-- The line becomes idle: ERROR_WAIT, IGNORING and STUCK end, and a set F0 is cleared. -/
def becomeIdle (link : Link) (s : State) : State :=
  let s1 := setIface link ((ifaceOf s link).toState .idle) s
  match link with
  | .vehicle => flagChange .vlinkStuck false s1
  | .display => s1

/-- R149: the vehicle line has been dominant for 10 ms. -/
def lineStuck (s : State) : State :=
  flagChange .vlinkStuck true { s with run.vli.iface := s.run.vli.iface.toState .stuck }

/-- R146: a line heard between frames. -/
def waitEvent (link : Link) (e : LineEvent) (s : State) : State :=
  match e with
  | .symbol .sof =>
      if (ifaceOf s link).rx = .idle then setIface link ((ifaceOf s link).toState .receiving) s else s
  | .idle => becomeIdle link s
  | .symbol _ | .edge _ _ | .passes14 | .eod | .ifrTurn | .eof | .stuck => s

/-! ## Transmission on the vehicle link (R150 to R153) -/

/-- R14: the VTQ's head is removed; a REPLY is reported. -/
def removeVtqHead (s : State) : State :=
  match s.run.queues.vtq with
  | [] => s
  | e :: rest => replyLeft e.origin { s with run.queues.vtq := rest }

/-- R150: when the VLI begins an attempt. -/
def canAttempt (s : State) : Bool :=
  powered s && decide (s.run.vli.iface.rx = .idle) && s.run.vli.iface.line.idle &&
    !s.run.vli.iface.line.filter.dominant && decide (s.run.vli.test = .off) &&
    s.run.vli.sending.isNone && !s.run.queues.vtq.isEmpty

/-- R150: the attempt to send the VTQ's head begins; its own SOF read back takes the VLI to RECEIVING. What
the attempt reads back is measured from here on, and the line stays idle (DEDUCED,
notes/assumptions/12.md). -/
def beginAttempt (s : State) : State :=
  match s.run.queues.vtq with
  | [] => s
  | e :: rest =>
      { s with run.queues.vtq := e.begin_ :: rest, run.vli.sending := some (frameBytes e.current)
               run.vli.iface.line := { s.run.vli.iface.line with stretch := 0, cell := 0 } }

/-- R150, R187: the frame is sent; the entry goes, or goes on with part 1. -/
def vehicleSent (s : State) : State :=
  let s1 := { s with run.vli.sending := none, run.vli.iface := s.run.vli.iface.toState .ifrWait }
  match s1.run.queues.vtq with
  | [] => s1
  | e :: rest =>
      if e.partsLeft then { s1 with run.queues.vtq := e.nextPart :: rest } else removeVtqHead s1

/-- R151, R153: the loss; the winning frame goes on in the bits read. -/
def loseArbitration (s : State) : State :=
  let s1 := { s with run.vli.sending := none }
  let s2 := if s1.mode = .shutdown then removeVtqHead s1 else s1
  if headerIsComplete (wholeBytes s.run.vli.iface) then presentHeader .vehicle s2 else s2

/-- R152: the head has met its second error, or meets one in SHUTDOWN (R153). -/
def abandonHead (s : State) : State := removeVtqHead { s with run.mu.transmitAbandoned := true }

/-- R152, R153: a transmit error. -/
def failAttempt (s : State) : State :=
  let s1 := { s with run.vli.sending := none, run.vli.iface := s.run.vli.iface.toState .errorWait }
  match s1.run.queues.vtq with
  | [] => s1
  | e :: rest =>
      if s1.mode = .shutdown ∨ e.errors ≠ 0 then abandonHead s1
      else { s1 with run.queues.vtq := { e with errors := 1 } :: rest }

/-- R143, R152: whether a cell begins when the VLI begins it, 40 samples after the edge of the bit before it
and 160 after the SOF's, or is begun earlier by another node's edge and still in time for R142. -/
def edgeAsDriven (bits recessive cell : Nat) : Bool :=
  edgeInTime bits recessive cell && decide (cell ≤ if bits = 0 then 160 else 40)

/-- R152: whether the SOF begins when the VLI begins it: the filter reports its edge after 6 samples
(R141), or earlier for another node's. -/
def sofAsDriven (cell : Nat) : Bool := decide (cell ≤ 6)

/-- R150 to R152: an attempt reads itself back. `bytes` are those it sends. -/
def sendEvent (bytes : List Byte) (e : LineEvent) (s : State) : State :=
  let i := s.run.vli.iface
  let sent := bytesBits bytes
  if i.rx = .idle then
    match e with
    | .symbol .sof => { s with run.vli.iface := i.toState .receiving }
    | .symbol _ => failAttempt s
    | .edge _ c => if sofAsDriven c then s else failAttempt s
    | .eod => failAttempt s
    | .passes14 | .ifrTurn | .eof | .idle | .stuck => s
  else
    match e with
    | .symbol x =>
        if x.bit?.isSome = true ∧ x.bit? = sent[i.bits]? then
          { s with run.vli.iface := i.addBit (sent.getD i.bits false) }
        else failAttempt s
    | .passes14 => if sent[i.bits]? = some true then loseArbitration s else s
    | .edge r c =>
        if sent.length ≤ i.bits then
          let s1 := loseArbitration s
          if s1.run.vli.iface.rx = .receiving then receiveEvent .vehicle e s1 else s1
        else if edgeAsDriven i.bits r c then s
        else failAttempt s
    | .eod => if sent.length ≤ i.bits then vehicleSent s else failAttempt s
    | .ifrTurn | .eof | .idle | .stuck => s

/-! ## The in-frame response (R154) -/

/-- The first cell of the IFR begins. -/
def beginIfr (s : State) : State :=
  { s with run.vli.ifr := s.run.vli.ifr.map fun f => { f with sending := true } }

/-- A bit of an IFR, one's own or another node's, has been read in IFR_WAIT. -/
def countIfrBit (link : Link) (s : State) : State :=
  setIface link { ifaceOf s link with bits := min 8 ((ifaceOf s link).bits + 1) } s

def sentIfr (s : State) : State := ifrWasSent { s with run.vli.ifr := none }

/-- R154: the IFR loses: F11 is set and the command is dropped. -/
def loseIfr (s : State) : State :=
  ifrFailed (flagChange .addressConflict true { s with run.vli.ifr := none })

def failIfr (s : State) : State :=
  ifrFailed { s with run.vli.ifr := none, run.vli.iface := s.run.vli.iface.toState .errorWait }

/-- R152, R154: whether a cell of the IFR begins when the VLI begins it or earlier: the first, begun at 80
samples of recessive, has its edge reported by the filter after 6 more (R141). -/
def ifrEdgeAsDriven (bits recessive cell : Nat) : Bool :=
  if bits = 0 then decide (recessive ≤ 86) else edgeAsDriven bits recessive cell

/-- R154: IFR_WAIT with an IFR to send: it begins at 80 samples of recessive or at another node's edge,
and is read back as in R151 and R152. -/
def ifrEvent (f : Ifr) (e : LineEvent) (s : State) : State :=
  let bits := s.run.vli.iface.bits
  let sent := byteBits f.byte
  if f.sending then
    match e with
    | .symbol x =>
        if x.bit?.isSome = true ∧ x.bit? = sent[bits]? then
          let s1 := countIfrBit .vehicle s
          if bits = 7 then sentIfr s1 else s1
        else failIfr s
    | .passes14 => if sent[bits]? = some true then loseIfr s else s
    | .edge r c => if ifrEdgeAsDriven bits r c then s else failIfr s
    | .eod | .eof => failIfr s
    | .ifrTurn | .idle | .stuck => s
  else
    match e with
    | .edge _ _ | .ifrTurn => beginIfr s
    | .symbol _ | .passes14 | .eod | .eof | .idle | .stuck => s

/-- R154: IFR_WAIT with nothing to send: another node's IFR is read, and the frame ends at EOF. -/
def quietEvent (link : Link) (e : LineEvent) (s : State) : State :=
  let i := ifaceOf s link
  match e with
  | .symbol x =>
      match x.bit? with
      | some _ => countIfrBit link s
      | none => discardFrame link x.fault s
  | .edge r c =>
      if i.bits = 0 ∨ 8 ≤ i.bits ∨ edgeInTime i.bits r c = true then s else discardFrame link .invalid s
  | .eod => if i.bits = 0 ∨ 8 ≤ i.bits then s else discardFrame link .framing s
  | .eof => setIface link (i.toState .idle) s
  | .passes14 | .ifrTurn | .idle | .stuck => s

/-! ## Transmission on the display link (R155) -/

/-- The DLI drives a frame: the wire's recessive is counted anew from its end on. -/
def driveDisplay (q : DliQueue) (e : QEntry) (s : State) : State :=
  { s with run.dli.sending := some (q, frameBytes e.current), run.dli.recessive := 0 }

/-- R155: the head of the DUQ, otherwise of the DRQ, becomes in flight. -/
def beginDisplay (s : State) : State :=
  match s.run.queues.duq, s.run.queues.drq with
  | e :: rest, _ => driveDisplay .duq e { s with run.queues.duq := e.begin_ :: rest }
  | [], e :: rest => driveDisplay .drq e { s with run.queues.drq := e.begin_ :: rest }
  | [], [] => s

/-- R155, R187: when the DLI may begin a frame, or the second part of a two-part item: it sends none, and its
transmit wire has been recessive for 120 samples. -/
def canDisplay (s : State) : Bool :=
  powered s && s.run.dli.sending.isNone && decide (Config.wireGap ≤ s.run.dli.recessive)

/-- R14, R18: the DUQ's head is sent: part 1 follows, or it is removed and a REPLY is reported. -/
def urgentSent (s : State) : State :=
  match s.run.queues.duq with
  | [] => s
  | e :: rest =>
      if e.partsLeft then { s with run.queues.duq := e.nextPart :: rest }
      else replyLeft e.origin { s with run.queues := s.run.queues.duqRemoveHead }

/-- R155: the frame on the display link is sent. -/
def displaySent (q : DliQueue) (s : State) : State :=
  let s1 := { s with run.dli.sending := none, run.dli.recessive := Config.wireAtEod }
  match q with
  | .duq => standbyCheck (urgentSent s1)
  | .drq => { s1 with run.queues.drq := s1.run.queues.drq.drop 1 }

/-! ## The loopback test (R156) -/

/-- The test frame: DATA, priority 7, identifier 2047, payload 0x55 0xAA 0x0F 0xF0. -/
def testFrame : Frame :=
  { kind := .data, prio := 7, ident := 2047, target := 0, source := 0
    payload := [0x55#8, 0xAA#8, 0x0F#8, 0xF0#8] }

/-- A waiting test may begin: IDLE or STUCK, and no attempt in progress. -/
def canTest (s : State) : Bool :=
  powered s && decide (s.run.vli.test = .waiting) && s.run.vli.sending.isNone &&
    decide (s.run.vli.iface.rx = .idle ∨ s.run.vli.iface.rx = .stuck)

/-- R156: the VLI is isolated: its filter count is set to 0, and the transmit output, recessive until the
test frame begins, takes the line's place as an idle line. The receive state stays IDLE or STUCK and the
buffer as it is (DESIGN CHOICE, notes/assumptions/14.md: the rule names neither before the end). -/
def isolate (s : State) : State :=
  let line : Line :=
    { filter := { count := 0, dominant := false }, stretch := 120, cell := stuckSamples, idle := true }
  { s with run.vli.test := .running, run.vli.iface := { s.run.vli.iface with line := line } }

/-- The samples of its transmit output that an isolated VLI has heard (R156). -/
def testHeard (s : State) (w : Wave) : Heard :=
  hearWave w { line := s.run.vli.iface.line, timer := 0, events := [] }

/-- The bits read of the test frame when its EOD comes within 4000 samples of the SOF's start. -/
def testBits (s : State) (w : Wave) : Option (List Bool) :=
  readFrame false [] (testHeard s (firstSamples 4000 w)).events

/-- The result and the failing stage's number (R156, R188). -/
def loopOutcome (bits : Option (List Bool)) (crcGood : Bool) : Code × Nat :=
  match bits with
  | none => (.fail, 1)
  | some bits =>
      if endOfDataFault (bitsBytes bits) (bits.length % 8) none = some .framing then (.fail, 1)
      else if bitsBytes bits ≠ frameBytes testFrame then (.fail, 2)
      else if crcGood = false then (.fail, 3)
      else (.pass, 0)

/-- R156: the test ends: reconnection, then the report. -/
def endTest (read : LoopRead) (s : State) : State :=
  let result := loopOutcome (testBits s read.wave) read.crcGood
  let s1 := { s with run.vli.iface.line := (testHeard s read.wave).line }
  linkTestReport result.1 result.2 { s1 with run.vli := reconnect s1.run.vli }

/-! ## What the samples of a line bring (R141, R142, R146) -/

/-- An interface before it hears more: its line and stuck-line timer. -/
def ear (s : State) (link : Link) : Heard :=
  { line := (ifaceOf s link).line
    timer := (match link with
      | .vehicle => s.run.vli.stuckTimer
      | .display => 0)
    events := [] }

/-- What these samples bring. -/
def heard (s : State) (link : Link) (w : Wave) : Heard := hearWave w (ear s link)

/-- What these samples bring, and then a level held until it brings such an event. -/
def heardUntil (s : State) (link : Link) (w : Wave) (dominant : Bool) (stop : LineEvent → Bool) : Heard :=
  let before := heard s link w
  let held := hearUntil stop dominant (stuckSamples + 7) { before with events := [] }
  { held with events := before.events ++ held.events }

/-- Put what was heard in place; the DLI has no stuck-line timer (R149). -/
def setHeard (link : Link) (h : Heard) (s : State) : State :=
  match link with
  | .vehicle => { s with run.vli.iface.line := h.line, run.vli.stuckTimer := h.timer }
  | .display => { s with run.dli.iface.line := h.line }

/-- The VLI moves on one event of its line. -/
def vehicleEvent (e : LineEvent) (s : State) : State :=
  if e = .stuck then lineStuck s
  else
    match s.run.vli.sending, s.run.vli.iface.rx, s.run.vli.ifr with
    | some bytes, _, _ => sendEvent bytes e s
    | none, .receiving, _ => receiveEvent .vehicle e s
    | none, .ifrWait, some f => ifrEvent f e s
    | none, .ifrWait, none => quietEvent .vehicle e s
    | none, .idle, _ | none, .ignoring, _ | none, .errorWait, _ | none, .stuck, _ =>
        waitEvent .vehicle e s

/-- The DLI's receive side moves on one event of its line (R155). -/
def displayEvent (e : LineEvent) (s : State) : State :=
  match s.run.dli.iface.rx with
  | .receiving => receiveEvent .display e s
  | .ifrWait => quietEvent .display e s
  | .idle | .ignoring | .errorWait | .stuck => waitEvent .display e s

def lineEvent (link : Link) (e : LineEvent) (s : State) : State :=
  match link with
  | .vehicle => vehicleEvent e s
  | .display => displayEvent e s

/-- An interface hears samples: it moves on what they bring, event by event, each step that one makes due
taken before the next (notes/assumptions/2.md). -/
def listen (link : Link) (h : Heard) (s : State) : State :=
  h.events.foldl (fun t e => lineEvent link e (settle t)) (setHeard link h s)

/-- A row that samples bring: they are heard when the interface hears its line and they bring an event of
the row's kind; else the row is out of place (notes/assumptions/1.md). -/
def listenFor (kind : LineEvent → Bool) (link : Link) (h : Heard) (s : State) : State :=
  if hears s link = true ∧ h.events.any kind = true then listen link h s else s

/-! ## Samples that a row fixes (notes/assumptions/11.md) -/

/-- What is left of the attempt in progress, as the VLI drives it (R143). -/
def restOfFrame (s : State) : Wave :=
  let i := s.run.vli.iface
  match s.run.vli.sending with
  | none => []
  | some bytes =>
      if i.rx = .idle then
        dropSamples (if i.line.filter.dominant then i.line.cellPlace else i.line.cell) (frameWave bytes)
      else restOfCells sofWave (bytesBits bytes) i.bits i.line

/-- The bits of the IFR. -/
def ifrBits (s : State) : List Bool := (s.run.vli.ifr.map fun f => byteBits f.byte).getD []

/-- What is left of the first `n` bits of the IFR, as the VLI drives them: the first cell from 80 samples of
recessive on, or from another node's edge (R143, R154). -/
def restOfIfr (s : State) (n : Nat) : Wave :=
  let i := s.run.vli.iface
  let bits := (ifrBits s).take n
  if i.bits = 0 ∧ i.line.filter.dominant = false then
    dropSamples (i.line.stretch - 80) (bits.flatMap cellWave)
  else restOfCells [] bits i.bits i.line

/-- The number of the next bit of the IFR that is a ONE, from the one being sent on. -/
def nextOne (s : State) : Option Nat :=
  (((ifrBits s).drop s.run.vli.iface.bits).findIdx? id).map (s.run.vli.iface.bits + ·)

/-- The interface is between frames, and the VLI sends nothing (R146). -/
def betweenFrames (s : State) (link : Link) : Bool :=
  decide ((ifaceOf s link).rx ≠ .receiving ∧ (ifaceOf s link).rx ≠ .ifrWait) &&
    match link with
    | .vehicle => s.run.vli.sending.isNone
    | .display => true

/-- The VLI holds an IFR to send in IFR_WAIT: whether its bits are being sent. -/
def ifrState (s : State) : Option Bool :=
  if s.run.vli.iface.rx = .ifrWait then s.run.vli.ifr.map Ifr.sending else none

/-- IFR_WAIT with nothing to send. -/
def ifrQuiet (s : State) : Bool := decide (s.run.vli.iface.rx = .ifrWait) && s.run.vli.ifr.isNone

def LineEvent.isSymbol : LineEvent → Bool
  | .symbol _ => true
  | .edge _ _ | .passes14 | .eod | .ifrTurn | .eof | .idle | .stuck => false

def LineEvent.isBit : LineEvent → Bool
  | .symbol x => x.bit?.isSome
  | .edge _ _ | .passes14 | .eod | .ifrTurn | .eof | .idle | .stuck => false

/-- A dominant edge, or a dominant stretch that shows another node's ZERO. -/
def LineEvent.isForeign : LineEvent → Bool
  | .edge _ _ | .passes14 => true
  | .symbol _ | .eod | .ifrTurn | .eof | .idle | .stuck => false

/-- A dominant edge, or the moment at which an IFR may begin. -/
def LineEvent.isIfrTurn : LineEvent → Bool
  | .edge _ _ | .ifrTurn => true
  | .passes14 | .symbol _ | .eod | .eof | .idle | .stuck => false

/-- What can be a fault of a frame or of an IFR: an edge, a symbol, or the end of data. -/
def LineEvent.isJudged : LineEvent → Bool
  | .edge _ _ | .symbol _ | .eod | .eof => true
  | .passes14 | .ifrTurn | .idle | .stuck => false

/-! ## Route freshness (R9, R34) -/

/-- R34: one signal of an expired route. -/
def markStale (s : State) (i : Nat) : State :=
  match descAt s i with
  | some d => writeSignal i (staleEntry d (signalAt s i)) s
  | none => s

/-- R9: the route becomes STALE, then its signals, then the flags. -/
def expireRoute (n : Nat) (r : LiveRoute) (s : State) : State :=
  let s1 := updRoute n (fun r => { r with fresh := .stale, timer := none }) s
  superviseRoutes ((routeSignals r.cfg).foldl markStale s1)

end Sys2Proof.Machine
end

