-- ==== Sys2Proof/Machine/Power.lean ====
section
/-! DEFINITION. Machine/Power.lean: the commands of the power feeds, the ignition and the inputs:
KEEP_ALIVE_RESET to OVER_VOLTAGE_CLEAR. -/

namespace Sys2Proof.Machine

/-- The answer of a command: `t` when its operands name an event, else a refusal
(notes/assumptions/1.md). -/
def answerIf (wf : Bool) (t : State) : Host.Outcome State Fault Refusal :=
  if wf then .next t else .refused .illFormed

/-- R158: every item of the keep-alive domain takes its reset value; the Table Store is not touched,
and the run domain is unpowered. -/
def keepAliveReset (straps : Nat) (s : State) : State :=
  { State.reset with nodeAddress := strapAddress straps, store := s.store, pending := s.pending }

def execKeepAliveReset (straps : Fin 16) (s : State) : Host.Outcome State Fault Refusal :=
  .next (after (keepAliveReset straps.val) s)

/-- R133: samples of DIN0 while it is undecided. -/
def execIgnitionFinding (samples : List Bool) (s : State) : Host.Outcome State Fault Refusal :=
  answerIf (Instr.wellFormed (.ignitionFinding samples))
    (after (fun t => if t.din0.level = .undecided then ignitionSamples samples t else t) s)

/-- R132, R159: samples of DIN0 while it is inactive. -/
def execIgnitionOn (samples : List Bool) (s : State) : Host.Outcome State Fault Refusal :=
  answerIf (Instr.wellFormed (.ignitionOn samples))
    (after (fun t => if t.din0.level = .inactive then ignitionSamples samples t else t) s)

/-- R132, R169: samples of DIN0 while it is active. -/
def execIgnitionOff (samples : List Bool) (s : State) : Host.Outcome State Fault Refusal :=
  answerIf (Instr.wellFormed (.ignitionOff samples))
    (after (fun t => if t.din0.level = .active then ignitionSamples samples t else t) s)

/-- R132, R135: samples of DIN1 to DIN15. -/
def execDebouncedEdge (input : Fin 16) (samples : List Bool) (s : State) :
    Host.Outcome State Fault Refusal :=
  answerIf (Instr.wellFormed (.debouncedEdge input samples)) (after (inputSamples input.val samples) s)

/-- R136: a measurement, while the run domain is powered. -/
def execSupplyMeasurement (centivolts : Nat) (s : State) : Host.Outcome State Fault Refusal :=
  .next (after (fun t => if powered t then measureSupply centivolts t else t) s)

/-- R137: F9 is set when the low count has reached 10. -/
def execUnderVoltageSet (s : State) : Host.Outcome State Fault Refusal := .next (underSetStep s)

/-- R137, R138: F9 is cleared when its recovery count has reached 10, after a set of F10 that is due. -/
def execUnderVoltageClear (s : State) : Host.Outcome State Fault Refusal := .next (underClearStep s)

/-- R138: F10 is set when the high count has reached 10. -/
def execOverVoltageSet (s : State) : Host.Outcome State Fault Refusal := .next (overSetStep s)

/-- R138: F10 is cleared when its recovery count has reached 10, after a set of F9 that is due. -/
def execOverVoltageClear (s : State) : Host.Outcome State Fault Refusal := .next (overClearStep s)

end Sys2Proof.Machine
end

