-- ==== Sys2Proof/Machine/InBand.lean ====
section
/-! DEFINITION. Machine/InBand.lean: the rows that carry out an in-band command: READ_STATUS to
LINK_TEST. Each acts when the command in progress is that command, in EXECUTING and not yet carried
out (R171, R177); its parameters stand in the command-in-progress record. -/

namespace Sys2Proof.Machine

/-- R178. -/
def execReadStatus (s : State) : Host.Outcome State Fault Refusal := .next (readStatusStep s)

/-- R178. -/
def execClearStatus (s : State) : Host.Outcome State Fault Refusal := .next (clearStatusStep s)

/-- R166, R181. -/
def execEnterService (s : State) : Host.Outcome State Fault Refusal := .next (enterServiceStep s)

/-- R168, R181. -/
def execLeaveService (s : State) : Host.Outcome State Fault Refusal := .next (leaveServiceStep s)

/-- R179. -/
def execReadEntry (s : State) : Host.Outcome State Fault Refusal := .next (readEntryStep s)

/-- R180. -/
def execWriteEntry (s : State) : Host.Outcome State Fault Refusal := .next (writeEntryStep s)

/-- R182. -/
def execReadSignal (s : State) : Host.Outcome State Fault Refusal := .next (readSignalStep s)

/-- R124, R182. -/
def execReadLog (s : State) : Host.Outcome State Fault Refusal := .next (readLogStep s)

/-- R125, R182. -/
def execReadDriver (s : State) : Host.Outcome State Fault Refusal := .next (readDriverStep s)

/-- R122, R182. -/
def execSetDriveTime (s : State) : Host.Outcome State Fault Refusal := .next (setDriveTimeStep s)

/-- R91, R183. -/
def execForceLampOn (s : State) : Host.Outcome State Fault Refusal := .next (lampOnStep s)

/-- R91, R183. -/
def execForceLampOff (s : State) : Host.Outcome State Fault Refusal := .next (lampOffStep s)

/-- R91, R183. -/
def execLampRelease (s : State) : Host.Outcome State Fault Refusal := .next (lampReleaseStep s)

/-- R57, R183. -/
def execGaugeToPosition (s : State) : Host.Outcome State Fault Refusal := .next (gaugePositionStep s)

/-- R58, R183. -/
def execGaugeRelease (s : State) : Host.Outcome State Fault Refusal := .next (gaugeReleaseStep s)

/-- R102, R183. -/
def execForceChimePattern (s : State) : Host.Outcome State Fault Refusal := .next (chimePatternStep s)

/-- R156, R184. -/
def execLinkTest (s : State) : Host.Outcome State Fault Refusal := .next (linkTestStep s)

end Sys2Proof.Machine
end

