-- ==== Sys2Proof/Machine/LinkCommands.lean ====
section
/-! DEFINITION. Machine/LinkCommands.lean: the commands of the two links: HEADER_COMPLETE to
LINK_TEST_END, and SOF_RECEIVED. A row that the samples of a line bring hears those it carries or, where
it carries none, those its rule fixes: a level held, or the 460's own cells (notes/assumptions/11.md). -/

namespace Sys2Proof.Machine

/-- R5, R6, R146: a bit is heard, and the header it completes is presented. -/
def execHeaderComplete (link : Link) (wave : Wave) (s : State) : Host.Outcome State Fault Refusal :=
  .next (after (fun t => listenFor LineEvent.isBit link (heard t link wave) t) s)

/-- R147: EOD of a frame. -/
def execFrameAccepted (link : Link) (wave : Wave) (s : State) : Host.Outcome State Fault Refusal :=
  .next (after (fun t => listenFor (decide <| · = .eod) link (heard t link wave) t) s)

/-- R146 to R148: a symbol, an edge or an EOD that a frame in RECEIVING does not stand. -/
def execReceiveError (link : Link) (wave : Wave) (s : State) : Host.Outcome State Fault Refusal :=
  .next (after (fun t => listenFor LineEvent.isJudged link (heard t link wave) t) s)

/-- R142, R146, R149: the line stays recessive until it is idle. -/
def execLineIdle (link : Link) (s : State) : Host.Outcome State Fault Refusal :=
  .next (after (fun t =>
    let kind e := decide (e = LineEvent.idle)
    if betweenFrames t link then listenFor kind link (heardUntil t link [] false kind) t else t) s)

/-- R149: the line stays dominant until it has been so for 10 ms. -/
def execStuckLineTimeout (s : State) : Host.Outcome State Fault Refusal :=
  .next (after (fun t =>
    let kind e := decide (e = LineEvent.stuck)
    listenFor kind .vehicle (heardUntil t .vehicle [] true kind) t) s)

/-- R150: the VLI begins an attempt when it can. -/
def execTransmitAttemptStart (s : State) : Host.Outcome State Fault Refusal :=
  .next (after (fun t => if canAttempt t then beginAttempt t else t) s)

/-- R150: the attempt in progress is read back as it is driven, up to its EOD. -/
def execFrameSent (s : State) : Host.Outcome State Fault Refusal :=
  .next (after (fun t =>
    let kind e := decide (e = LineEvent.eod)
    if t.run.vli.sending.isSome then
      listenFor kind .vehicle (heardUntil t .vehicle (restOfFrame t) false kind) t
    else t) s)

/-- R151: a dominant where the 460 sends a ONE, or its EOD. -/
def execArbitrationLoss (wave : Wave) (s : State) : Host.Outcome State Fault Refusal :=
  .next (after (fun t =>
    if t.run.vli.sending.isSome then
      listenFor LineEvent.isForeign .vehicle (heard t .vehicle wave) t
    else t) s)

/-- R152: the line does not follow the attempt in progress: it stays dominant after the SOF's edge, or
recessive after a later one, until that is a BREAK or an EOD. -/
def execTransmitError (s : State) : Host.Outcome State Fault Refusal :=
  .next (after (fun t =>
    let duringSof := decide (t.run.vli.iface.rx = .idle)
    let kind e := decide (e = if duringSof then LineEvent.symbol .brk else LineEvent.eod)
    if t.run.vli.sending.isSome then
      listenFor kind .vehicle (heardUntil t .vehicle [] duringSof kind) t
    else t) s)

/-- R154: the line stays recessive until the first cell of the IFR begins. -/
def execIfrStart (s : State) : Host.Outcome State Fault Refusal :=
  .next (after (fun t =>
    let kind e := decide (e = LineEvent.ifrTurn)
    if ifrState t = some false then
      listenFor kind .vehicle (heardUntil t .vehicle [] false kind) t
    else t) s)

/-- R154, R174: the IFR's bits are read back as they are driven. -/
def execIfrSent (s : State) : Host.Outcome State Fault Refusal :=
  .next (after (fun t =>
    if ifrState t = some true then
      listenFor LineEvent.isBit .vehicle (heard t .vehicle (restOfIfr t 8)) t
    else t) s)

/-- R154: another node holds the line dominant where the 460 next sends a ONE in its IFR. -/
def execIfrLoss (s : State) : Host.Outcome State Fault Refusal :=
  .next (after (fun t =>
    let kind e := decide (e = LineEvent.passes14)
    match ifrState t, nextOne t with
    | some true, some n => listenFor kind .vehicle (heardUntil t .vehicle (restOfIfr t n) true kind) t
    | _, _ => t) s)

/-- R154: the line does not follow the IFR: it stays recessive until EOD or EOF. -/
def execIfrTransmitError (s : State) : Host.Outcome State Fault Refusal :=
  .next (after (fun t =>
    let kind e := decide (e = LineEvent.eod ∨ e = LineEvent.eof)
    if ifrState t = some true then
      listenFor kind .vehicle (heardUntil t .vehicle [] false kind) t
    else t) s)

/-- R154: a symbol error in IFR_WAIT while the VLI sends nothing. -/
def execIfrWaitSymbolError (wave : Wave) (s : State) : Host.Outcome State Fault Refusal :=
  .next (after (fun t => listenFor LineEvent.isJudged .vehicle (heard t .vehicle wave) t) s)

/-- R154: the line stays recessive until EOF. -/
def execEndOfFrame (s : State) : Host.Outcome State Fault Refusal :=
  .next (after (fun t =>
    let kind e := decide (e = LineEvent.eof)
    if ifrQuiet t then listenFor kind .vehicle (heardUntil t .vehicle [] false kind) t else t) s)

/-- R155: the DLI begins a frame when it can. -/
def execDliTransmitStart (s : State) : Host.Outcome State Fault Refusal :=
  .next (after (fun t => if canDisplay t then beginDisplay t else t) s)

/-- R155: the frame on the display link reaches its EOD. -/
def execDliFrameSent (s : State) : Host.Outcome State Fault Refusal :=
  .next (after (fun t =>
    match t.run.dli.sending with
    | some (q, _) => displaySent q t
    | none => t) s)

/-- R156: a waiting loopback test begins. -/
def execLinkTestBegin (s : State) : Host.Outcome State Fault Refusal :=
  .next (after (fun t => if canTest t then isolate t else t) s)

/-- R156, R184: the loopback test ends. -/
def execLinkTestEnd (read : LoopRead) (s : State) : Host.Outcome State Fault Refusal :=
  .next (after (fun t => if t.run.vli.test = .running then endTest read t else t) s)

/-- R142, R146: a dominant stretch is judged. -/
def execSofReceived (link : Link) (wave : Wave) (s : State) : Host.Outcome State Fault Refusal :=
  .next (after (fun t => listenFor LineEvent.isSymbol link (heard t link wave) t) s)

end Sys2Proof.Machine
end

