-- ==== Sys2Proof/Machine/UnitCommands.lean ====
section
/-! DEFINITION. Machine/UnitCommands.lean: the commands of the routes, the gauges, the lamps, the
chime, the conditions, the Drive-Time Unit and the Mode Controller: ROUTE_FRESHNESS_EXPIRY to
LEAVE_SERVICE_RESTART. -/

namespace Sys2Proof.Machine

/-- R9: the freshness timer of a route expires. -/
def execRouteFreshnessExpiry (route : Fin 96) (s : State) : Host.Outcome State Fault Refusal :=
  .next (after (fun t =>
    match routeAt t route.val with
    | some r => if r.timer.isSome then expireRoute route.val r t else t
    | none => t) s)

/-- R42: a gauge update event. -/
def execGaugeUpdate (sense : List (CoilSense × CoilSense)) (s : State) :
    Host.Outcome State Fault Refusal :=
  answerIf (Instr.wellFormed (.gaugeUpdate sense))
    (after (fun t => if powered t then updateGauges sense t else t) s)

/-- R49: the homing of a channel completes when it is due. -/
def execHomingComplete (channel : Fin 6) (s : State) : Host.Outcome State Fault Refusal :=
  .next (homingStep channel.val s)

/-- R55: a channel enters FAULT when it is due. -/
def execCoilOpenFault (channel : Fin 6) (s : State) : Host.Outcome State Fault Refusal :=
  .next (coilStep channel.val s)

/-- R85: the blink timebase advances, while the run domain is powered. -/
def execBlinkTimebaseAdvance (s : State) : Host.Outcome State Fault Refusal :=
  .next (after (fun t => if powered t then advanceBlink t else t) s)

/-- R88: a load check, while the run domain is powered. -/
def execLoadCheck (current : BitVec 32) (s : State) : Host.Outcome State Fault Refusal :=
  .next (after (fun t => if powered t then loadCheck current t else t) s)

/-- R88: a lamp becomes OPEN when it is due. -/
def execLampOpen (lamp : Fin 32) (s : State) : Host.Outcome State Fault Refusal :=
  .next (lampOpenStep lamp.val s)

/-- R89: overcurrent in a lamp whose output is on. -/
def execLampOvercurrent (lamp : Fin 32) (s : State) : Host.Outcome State Fault Refusal :=
  .next (after (fun t => if (lampRec t lamp.val).output then shortLamp lamp.val t else t) s)

/-- R87: the running lamp check ends. -/
def execLampCheckEnd (s : State) : Host.Outcome State Fault Refusal :=
  .next (after (fun t => if t.run.tu.lampCheck.isSome then endLampCheck t else t) s)

/-- R99: a pattern other than REPEAT ends. -/
def execChimePatternEnd (s : State) : Host.Outcome State Fault Refusal :=
  .next (after (fun t => if endingPattern t then endPattern t else t) s)

/-- R100: REPEAT begins its TRIPLE again. -/
def execRepeatCycle (s : State) : Host.Outcome State Fault Refusal :=
  .next (after (fun t => if repeatPlaying t then restartRepeat t else t) s)

/-- R97: a running escalation timer expires. -/
def execEscalationExpiry (condition : Fin 64) (s : State) : Host.Outcome State Fault Refusal :=
  .next (after (fun t =>
    match escalating t condition.val with
    | some a => escalate condition.val a t
    | none => t) s)

/-- R67, R68: a condition's delay timer expires. -/
def execConditionDelayExpiry (condition : Fin 64) (s : State) : Host.Outcome State Fault Refusal :=
  .next (after (fun t =>
    match condAt t condition.val with
    | some c =>
        match delayExpired t condition.val c with
        | some r => changeCondition condition.val r t
        | none => t
    | none => t) s)

/-- R115: the minute event, in every mode. -/
def execMinuteEvent (s : State) : Host.Outcome State Fault Refusal := .next (after minuteEvent s)

/-- R126: the speed mismatch timer expires. -/
def execSpeedMismatchExpiry (s : State) : Host.Outcome State Fault Refusal :=
  .next (after (fun t =>
    if t.run.mismatch.isSome then
      flagChange .speedMismatch true { t with run.mismatch := none }
    else t) s)

/-- R170: the shutdown timer expires. -/
def execShutdownTimerExpiry (s : State) : Host.Outcome State Fault Refusal :=
  .next (after (fun t =>
    if t.mode = .shutdown ∧ t.shutdownTimer.isSome = true then enterStandby t else t) s)

/-- A STARTUP validation is in progress (R162). -/
def startupValidating (s : State) : Bool :=
  decide (s.mode = .startup) && decide (s.phase = .validating) && s.run.mc.validation.isSome

/-- A LEAVE SERVICE validation is in progress (R168, R181). -/
def serviceValidating (s : State) : Bool :=
  decide (s.mode = .service) && s.run.mc.validation.isSome && executing s .leaveService

/-- R162 to R164: the STARTUP validation completes. -/
def execValidationComplete (levels : BitVec 16) (s : State) : Host.Outcome State Fault Refusal :=
  .next (after (fun t => if startupValidating t then completeStartup levels t else t) s)

/-- R168, R181: the LEAVE SERVICE validation ends at the first failing entry. -/
def failLeaveService (s : State) : State :=
  match (validate s.store).failures with
  | [] => s
  | (table, index) :: _ =>
      answer .refusedTable [byteOf table.code, byteOf index] { s with run.mc.validation := none }

def execLeaveServiceValidationFail (s : State) : Host.Outcome State Fault Refusal :=
  .next (after (fun t => if serviceValidating t then failLeaveService t else t) s)

/-- R168: the LEAVE SERVICE validation has passed every entry: the restart. -/
def passLeaveService (levels : BitVec 16) (s : State) : State :=
  if (validate s.store).failures = [] then restart levels s else s

def execLeaveServiceRestart (levels : BitVec 16) (s : State) : Host.Outcome State Fault Refusal :=
  .next (after (fun t => if serviceValidating t then passLeaveService levels t else t) s)

end Sys2Proof.Machine
end

