-- ==== Sys2Proof/Machine/Dispatch.lean ====
section
/-! DEFINITION. Machine/Dispatch.lean: one arm per command, each one call of its meaning. -/

namespace Sys2Proof.Machine

def exec (i : Instr) (s : State) : Host.Outcome State Fault Refusal :=
  match i with
  | .keepAliveReset straps => Sys2Proof.Machine.execKeepAliveReset straps s
  | .ignitionFinding samples => Sys2Proof.Machine.execIgnitionFinding samples s
  | .ignitionOn samples => Sys2Proof.Machine.execIgnitionOn samples s
  | .ignitionOff samples => Sys2Proof.Machine.execIgnitionOff samples s
  | .debouncedEdge input samples => Sys2Proof.Machine.execDebouncedEdge input samples s
  | .supplyMeasurement centivolts => Sys2Proof.Machine.execSupplyMeasurement centivolts s
  | .underVoltageSet => Sys2Proof.Machine.execUnderVoltageSet s
  | .underVoltageClear => Sys2Proof.Machine.execUnderVoltageClear s
  | .overVoltageSet => Sys2Proof.Machine.execOverVoltageSet s
  | .overVoltageClear => Sys2Proof.Machine.execOverVoltageClear s
  | .headerComplete link wave => Sys2Proof.Machine.execHeaderComplete link wave s
  | .frameAccepted link wave => Sys2Proof.Machine.execFrameAccepted link wave s
  | .receiveError link wave => Sys2Proof.Machine.execReceiveError link wave s
  | .lineIdle link => Sys2Proof.Machine.execLineIdle link s
  | .stuckLineTimeout => Sys2Proof.Machine.execStuckLineTimeout s
  | .transmitAttemptStart => Sys2Proof.Machine.execTransmitAttemptStart s
  | .frameSent => Sys2Proof.Machine.execFrameSent s
  | .arbitrationLoss wave => Sys2Proof.Machine.execArbitrationLoss wave s
  | .transmitError => Sys2Proof.Machine.execTransmitError s
  | .ifrStart => Sys2Proof.Machine.execIfrStart s
  | .ifrSent => Sys2Proof.Machine.execIfrSent s
  | .ifrLoss => Sys2Proof.Machine.execIfrLoss s
  | .ifrTransmitError => Sys2Proof.Machine.execIfrTransmitError s
  | .ifrWaitSymbolError wave => Sys2Proof.Machine.execIfrWaitSymbolError wave s
  | .endOfFrame => Sys2Proof.Machine.execEndOfFrame s
  | .dliTransmitStart => Sys2Proof.Machine.execDliTransmitStart s
  | .dliFrameSent => Sys2Proof.Machine.execDliFrameSent s
  | .linkTestBegin => Sys2Proof.Machine.execLinkTestBegin s
  | .linkTestEnd read => Sys2Proof.Machine.execLinkTestEnd read s
  | .routeFreshnessExpiry route => Sys2Proof.Machine.execRouteFreshnessExpiry route s
  | .gaugeUpdate sense => Sys2Proof.Machine.execGaugeUpdate sense s
  | .homingComplete channel => Sys2Proof.Machine.execHomingComplete channel s
  | .coilOpenFault channel => Sys2Proof.Machine.execCoilOpenFault channel s
  | .blinkTimebaseAdvance => Sys2Proof.Machine.execBlinkTimebaseAdvance s
  | .loadCheck current => Sys2Proof.Machine.execLoadCheck current s
  | .lampOpen lamp => Sys2Proof.Machine.execLampOpen lamp s
  | .lampOvercurrent lamp => Sys2Proof.Machine.execLampOvercurrent lamp s
  | .lampCheckEnd => Sys2Proof.Machine.execLampCheckEnd s
  | .chimePatternEnd => Sys2Proof.Machine.execChimePatternEnd s
  | .repeatCycle => Sys2Proof.Machine.execRepeatCycle s
  | .escalationExpiry condition => Sys2Proof.Machine.execEscalationExpiry condition s
  | .conditionDelayExpiry condition => Sys2Proof.Machine.execConditionDelayExpiry condition s
  | .minuteEvent => Sys2Proof.Machine.execMinuteEvent s
  | .speedMismatchExpiry => Sys2Proof.Machine.execSpeedMismatchExpiry s
  | .shutdownTimerExpiry => Sys2Proof.Machine.execShutdownTimerExpiry s
  | .validationComplete levels => Sys2Proof.Machine.execValidationComplete levels s
  | .leaveServiceValidationFail => Sys2Proof.Machine.execLeaveServiceValidationFail s
  | .leaveServiceRestart levels => Sys2Proof.Machine.execLeaveServiceRestart levels s
  | .readStatus => Sys2Proof.Machine.execReadStatus s
  | .clearStatus => Sys2Proof.Machine.execClearStatus s
  | .enterService => Sys2Proof.Machine.execEnterService s
  | .leaveService => Sys2Proof.Machine.execLeaveService s
  | .readEntry => Sys2Proof.Machine.execReadEntry s
  | .writeEntry => Sys2Proof.Machine.execWriteEntry s
  | .readSignal => Sys2Proof.Machine.execReadSignal s
  | .readLog => Sys2Proof.Machine.execReadLog s
  | .readDriver => Sys2Proof.Machine.execReadDriver s
  | .setDriveTime => Sys2Proof.Machine.execSetDriveTime s
  | .forceLampOn => Sys2Proof.Machine.execForceLampOn s
  | .forceLampOff => Sys2Proof.Machine.execForceLampOff s
  | .lampRelease => Sys2Proof.Machine.execLampRelease s
  | .gaugeToPosition => Sys2Proof.Machine.execGaugeToPosition s
  | .gaugeRelease => Sys2Proof.Machine.execGaugeRelease s
  | .forceChimePattern => Sys2Proof.Machine.execForceChimePattern s
  | .linkTest => Sys2Proof.Machine.execLinkTest s
  | .sofReceived link wave => Sys2Proof.Machine.execSofReceived link wave s

end Sys2Proof.Machine
end

