-- ==== Sys2Proof/Safety.lean ====
section
/-! DEFINITION. Safety.lean: the relations and the laws that the statements are written in: what an
event leaves alone, the laws the manual says the part keeps, and what a validation accepts. -/

namespace Sys2Proof.Machine

/-! ## Frames -/

/-- The entries of a DUQ that are no notices: the REPLYs. -/
def repliesOf (q : List QEntry) : List QEntry :=
  q.filter fun e =>
    match e.origin with
    | .notice _ => false
    | .route _ | .broadcast | .resultReply | .busyReply => true

/-- `t` differs from `s` at most in what the warnings path writes: condition records, lamp records,
Alert List, chime, and the notices in the DUQ and the pending slots (spec/00_scope.md 2.1). -/
def WarningsOnly (s t : State) : Prop :=
  t =
      { s with
        run := { s.run with
          cu := { s.run.cu with recs := t.run.cu.recs }
          tu := { s.run.tu with lamps := t.run.tu.lamps, alerts := t.run.tu.alerts
                                chime := t.run.tu.chime }
          queues := { t.run.queues with vtq := s.run.queues.vtq, drq := s.run.queues.drq } } } ∧
    repliesOf t.run.queues.duq = repliesOf s.run.queues.duq

/-! ## Laws of the state

Each is stated over every state, reachable or not; a premise that rules out a state no run reaches
stands in the law itself. -/

/-- The lists that stand for fixed numbers of like things have those numbers. -/
def ShapeLaw (s : State) : Prop :=
  s.run.signals.length = 163 ∧ s.run.gu.channels.length = 6 ∧ s.run.cu.recs.length = 64 ∧
    s.run.tu.lamps.length = 32 ∧ s.run.iu.inputs.length = 16

/-- The run domain is unpowered in STANDBY, and a start-up phase belongs to STARTUP (R157, R170). -/
def PowerLaw (s : State) : Prop :=
  (s.mode = .standby → s.run = Run.unpowered) ∧ (s.mode ≠ .startup → s.phase = .none)

/-- R167's law, with the range of the road-speed index (R105) that it rests on: in SERVICE the park
brake is on, and a usable road speed is 50 or less. -/
def InterlockLaw (s : State) : Prop :=
  (∀ i, s.dtu.params.roadSpeed = some i → i ≤ 159) ∧
    (s.mode = .service →
      parkBrakeOn s = true ∧ ∀ v, usableOpt s s.dtu.params.roadSpeed = some v → v ≤ 50)

/-- R120: a record's remaining time and stage are those of its counters under the limits. -/
def AssessedLaw (p : DriveParams) (r : Driver) : Prop :=
  (r.remaining : Int) = max 0 (min ((p.contLimit : Int) - r.cont) ((p.dailyLimit : Int) - r.daily)) ∧
    r.remaining ≤ 1440 ∧
    (r.stage = .over ↔ p.contLimit < r.cont ∨ p.dailyLimit < r.daily) ∧
    (r.stage = .limit ↔ r.cont ≤ p.contLimit ∧ r.daily ≤ p.dailyLimit ∧ r.remaining = 0) ∧
    (r.stage = .preWarn ↔ 0 < r.remaining ∧ r.remaining ≤ p.prewarn)

/-- R108 and R120: at most four records with distinct digests; each slot refers to a record, and the
two slots to different ones; cont ≤ daily ≤ 1440; remaining time and stage follow the counters. The
working record lies in the ranges of R105. -/
def DriverLaw (t : Dtu) : Prop :=
  driveOk t.params = true ∧ t.drivers.length ≤ 4 ∧ (t.drivers.map Driver.digest).Nodup ∧
    (∀ d, t.slot1 = some d → d ∈ t.drivers.map Driver.digest) ∧
    (∀ d, t.slot2 = some d → d ∈ t.drivers.map Driver.digest) ∧
    (∀ d, t.slot1 = some d → t.slot2 ≠ some d) ∧
    ∀ r ∈ t.drivers, r.cont ≤ r.daily ∧ r.daily ≤ 1440 ∧ AssessedLaw t.params r

/-- R115, R123: the counters lie in their ranges; the log holds at most 64 records, whose sequence
numbers run, modulo 65536, up to the one the next append will take. -/
def LogLaw (t : Dtu) : Prop :=
  t.minutes < 16777216 ∧ t.seq < 65536 ∧ t.log.length ≤ 64 ∧
    ∀ i r, t.log[i]? = some r → r.seq = (t.seq + 65536 - (t.log.length - i)) % 65536

/-- How many entries of a queue have an origin. -/
def originCount (q : List QEntry) (o : Origin) : Nat := q.countP fun e => decide (e.origin = o)

/-- An origin that the DUQ holds (section 1.5). -/
def urgentOrigin (o : Origin) : Bool :=
  match o with
  | .notice _ | .resultReply | .busyReply => true
  | .route _ | .broadcast => false

/-- An origin that the VTQ holds (section 1.5). -/
def vehicleOrigin (o : Origin) : Bool :=
  match o with
  | .route _ | .broadcast | .resultReply => true
  | .notice _ | .busyReply => false

/-- The priority numbers of the waiting entries never fall from the head on (R15). -/
def PriorityOrder (q : List QEntry) : Prop :=
  (q.filter fun e => !e.inFlight).Pairwise fun a b => a.frame0.prio ≤ b.frame0.prio

/-- R14, R15, R18, R175, R176: the queues keep their capacities; in the VTQ only the head is in flight
and the rest stand in the order of their priorities; the DUQ holds at most one notice of each type, one
result REPLY and one BUSY REPLY; a result REPLY stands in a queue only while the Management Unit is in
REPLY_QUEUED, a BUSY REPLY only while BUSY queued is yes. -/
def QueueLaw (s : State) : Prop :=
  s.run.queues.vtq.length ≤ 8 ∧ s.run.queues.drq.length ≤ 24 ∧
    (∀ e ∈ s.run.queues.vtq.tail, e.inFlight = false) ∧ PriorityOrder s.run.queues.vtq ∧
    (∀ t, originCount s.run.queues.duq (.notice t) ≤ 1) ∧
    originCount s.run.queues.duq .resultReply + originCount s.run.queues.vtq .resultReply ≤
      (if s.run.mu.phase = .replyQueued then 1 else 0) ∧
    originCount s.run.queues.duq .busyReply ≤ (if s.run.mu.busyQueued then 1 else 0) ∧
    (∀ e ∈ s.run.queues.duq, urgentOrigin e.origin = true) ∧
    (∀ e ∈ s.run.queues.vtq, vehicleOrigin e.origin = true)

/-- R92: at most 16 entries, no two for one condition. -/
def AlertLaw (l : List Alert) : Prop := l.length ≤ 16 ∧ (l.map Alert.cond).Nodup

/-- R70, R75, R76: a LATCHED condition has a descriptor and an unacknowledged entry in the Alert List, and
every condition is INACTIVE while no Condition Table is in force. -/
def LatchLaw (s : State) : Prop :=
  (∀ j, j < 64 → (condRec s j).state = .latched →
      (condAt s j).isSome = true ∧ ∃ a ∈ s.run.tu.alerts, a.cond = j ∧ a.acked = false) ∧
    (s.run.cu.evaluating = false → ∀ j, j < 64 → (condRec s j).state = .inactive)

/-- An entry that is VALID, CLAMPED or STALE lies within these limits (R33). -/
def SigEntry.within (e : SigEntry) (low high : Int) : Prop :=
  e.status = .valid ∨ e.status = .clamped ∨ e.status = .stale → low ≤ e.value ∧ e.value ≤ high

/-- R33's law with R22's that it rests on: the limits of a frame signal are its descriptor's, those of
entries 160 to 162 the ones of R35 and R36. -/
def SignalLaw (s : State) : Prop :=
  (∀ k d, descAt s k = some d → k < 160 ∧ d.min ≤ d.max ∧ (signalAt s k).within d.min d.max) ∧
    (signalAt s 160).within 0 4000 ∧ (signalAt s 161).within 0 1440 ∧ (signalAt s 162).within 0 1440

/-- Flags that follow what they report: F1 to F3 (R10), F5 (R90), F6 (R55), F8 (R163), F13 (R166,
R167); and no route is active while a STARTUP validation runs (R1). The last clause says more than R1: every
route entry is then unused, a disabled one too, which is the model's choice (notes/assumptions/14.md, 15.md). -/
def FlagLaw (s : State) : Prop :=
  s.run.flags.displayLost = anyStale s .display ∧ s.run.flags.gatewayLost = anyStale s .gateway ∧
    s.run.flags.tachoLost = anyStale s .tacho ∧
    s.run.flags.lampFault = (s.run.tu.lamps.any fun r => decide (r.load ≠ .ok)) ∧
    s.run.flags.gaugeFault = (s.run.gu.channels.any fun c => decide (c.state = .fault)) ∧
    s.run.flags.configFault = decide (s.run.mc.disabledCount ≠ 0) ∧
    s.run.flags.service = decide (s.mode = .service) ∧
    (s.phase = .validating → s.run.tables.routes = Tables.initial.routes)

/-- The states that F9 and F10 freeze (R56). -/
def ChanState.freezable (c : ChanState) : Bool :=
  match c with
  | .track | .sourceless | .sweepUp | .sweepDown => true
  | .unhomed | .homing | .frozen | .fault | .ret | .atRest | .forced => false

/-- R98: the chime queue stands in rank order, the highest first, each pattern at most once. -/
def ChimeOrder (queue : List Pattern) : Prop := queue.Pairwise fun p q => q.rank < p.rank

/-- R56, R98, R101: while F9 or F10 is set no channel tracks or sweeps, and none is FROZEN while both are
clear; a FROZEN channel knows the state it returns to; the chime queue keeps its order; nothing sounds while
F9 is set, and in SHUTDOWN the chime holds nothing. -/
def SupplyLaw (s : State) : Prop :=
  (supplyFault s = true → ∀ c ∈ s.run.gu.channels, c.state.freezable = false) ∧
    (supplyFault s = false → ∀ c ∈ s.run.gu.channels, c.state ≠ .frozen) ∧
    (∀ c ∈ s.run.gu.channels, c.state = .frozen → c.resume.isSome = true) ∧
    ChimeOrder s.run.tu.chime.queue ∧
    (s.run.flags.underVoltage = true → s.run.tu.chime.playing = none) ∧
    (s.mode = .shutdown → s.run.tu.chime = Chime.initial)

/-- R86's table in one line: when the output of lamp n is on. -/
def LampLit (s : State) (n : Nat) (r : LampRec) : Prop :=
  s.mode ≠ .standby ∧ r.load ≠ .shorted ∧ s.run.flags.overVoltage = false ∧ s.mode ≠ .shutdown ∧
    (r.forced = some true ∨
      r.forced = none ∧
        ((s.run.tu.lampCheck.isSome = true ∧ ∃ l, lampAt s n = some l ∧ l.check = true) ∨
          r.requested = true ∧ (r.alarmBlink = true → r.lit = true)))

/-- R82, R84, R86: each lamp is requested while its masked view is not empty, it is in alarm-blink
while a condition of the view has an unacknowledged ALARM entry, and its output is the one of R86. -/
def LampLaw (s : State) : Prop :=
  ∀ n r, s.run.tu.lamps[n]? = some r →
    (r.requested = true ↔ r.view ≠ 0#64) ∧
      (r.alarmBlink = true ↔
        ∃ a ∈ s.run.tu.alerts, a.acked = false ∧ a.severity = .alarm ∧ r.view.getLsbD a.cond = true) ∧
      (r.output = true ↔ LampLit s n r)

/-- The states of R41 in which the position is known. -/
def ChanState.positioned (c : ChanState) : Bool :=
  match c with
  | .sweepUp | .sweepDown | .track | .sourceless | .frozen | .ret | .forced => true
  | .unhomed | .homing | .fault | .atRest => false

/-- The channel's filter is in use, now or when it is no longer FROZEN. -/
def Channel.filtering (c : Channel) : Bool :=
  match c.state with
  | .track | .sourceless => true
  | .frozen => decide (c.resume = some .track ∨ c.resume = some .sourceless)
  | .unhomed | .homing | .sweepUp | .sweepDown | .fault | .ret | .atRest | .forced => false

/-- What holds of a channel under its descriptor (R40, R41, R47): a known P, and the filter and the
targets while they are in use, lie within the span. -/
def ChannelLaw (g : Gauge) (c : Channel) : Prop :=
  (c.state.positioned = true → c.known = true) ∧
    (c.known = true → c.pos ≤ g.span) ∧
    (c.filtering = true → 0 ≤ c.filt ∧ c.filt ≤ 16 * g.span ∧ 0 ≤ c.target ∧ c.target ≤ g.span) ∧
    (∀ p, c.state = .forced → c.forced = some p → p ≤ g.span)

/-- R47's law with what it rests on: every enabled descriptor has passed R39, the position is unknown
in HOMING and FAULT, and each channel keeps `ChannelLaw`. -/
def PointerLaw (s : State) : Prop :=
  (∀ c ∈ s.run.gu.channels,
      (c.known = true → 0 ≤ c.pos) ∧ (c.state = .homing ∨ c.state = .fault → c.known = false)) ∧
    ∀ n g, gaugeAt s n = some g → gaugeOk g = true ∧ ChannelLaw g (channelAt s n)

/-! ## What a command leaves behind -/

/-- A command stands in EXECUTING, in a mode that admits it (R171, R177). -/
def InHand (s : State) (c : CmdCode) (cmd : Command) : Prop :=
  s.run.mu.phase = .executing ∧ s.run.mu.cmd = some cmd ∧ payloadCmd cmd.payload = some c ∧
    c.inMode s.mode = true

/-- The REPLY frame to a command (R176): its priority and identifier, from the 460 to its source. -/
def replyTo (s : State) (cmd : Command) (payload : List Byte) : Frame :=
  { kind := .reply, prio := cmd.prio, ident := cmd.ident, target := cmd.source, source := s.nodeAddress
    payload := payload }

/-- `t` is `s` with a result REPLY of these parts placed (R175, R176): at the DUQ's tail for a command of
the display link, in its place in the VTQ for one of the vehicle link; a full VTQ drops it, sets F4, and
the command ends there (R19). -/
def Replied (s t : State) (cmd : Command) (part0 : List Byte) (part1 : Option (List Byte)) : Prop :=
  let e : QEntry :=
    { frame0 := replyTo s cmd part0, frame1 := part1.map (replyTo s cmd), origin := .resultReply
      inFlight := false, part := 0, attempted := false, errors := 0 }
  (cmd.link = .display →
      t = { s with run.mu.phase := .replyQueued, run.queues.duq := s.run.queues.duq ++ [e] }) ∧
    (cmd.link = .vehicle → s.run.queues.vtq.length < 8 →
      t = { s with run.mu.phase := .replyQueued, run.queues.vtq := vtqInsert e s.run.queues.vtq }) ∧
    (cmd.link = .vehicle → 8 ≤ s.run.queues.vtq.length →
      WarningsOnly
        { s with run.flags.relayOverflow := true, run.mu.phase := .idle, run.mu.cmd := none } t)

/-- The newest notice of a type carries the items as they stand (R18): it waits in the DUQ, or it is the
pending notice behind one in flight. -/
def NoticeStands (k : NoticeType) (s : State) : Prop :=
  (∃ e ∈ s.run.queues.duq, e.origin = .notice k ∧ e.inFlight = false ∧
      (e.frame0, e.frame1) = noticeFrames s k) ∨
    s.run.queues.pendingOf k = some (noticeFrames s k)

/-- Every lamp is as it was but for its forcing, `f` of what it was, and its output, which R86 decides. -/
def LampsForced (s t : State) (f : Nat → LampRec → Option Bool) : Prop :=
  t.run.tu.lamps.length = s.run.tu.lamps.length ∧
    ∀ m r, s.run.tu.lamps[m]? = some r → ∃ o : Bool,
      let r' : LampRec := { r with forced := f m r, output := o }
      t.run.tu.lamps[m]? = some r' ∧ (o = true ↔ LampLit t m r')

/-! ## What several commands leave behind -/

/-- `u` is `s` after CLEAR STATUS (R178): the last link error, transmit abandoned, F4, F11 and the SHORT
latches are cleared; F5 and the reports of faulty lamps follow the lamps; nothing else but the warnings
path differs. -/
def Cleared (s u : State) : Prop :=
  (let cleared : State :=
      { s with run.flags.relayOverflow := false, run.flags.addressConflict := false
               run.mu.lastLinkError := .none, run.mu.transmitAbandoned := false }
    if ∃ r ∈ s.run.tu.lamps, r.load = .shorted then
      WarningsOnly
        { cleared with
          run.flags.lampFault := s.run.tu.lamps.any fun r => decide (r.load = .opened)
          run.mc.openLamps := lampsLoaded s .opened
          run.mc.shortLamps := 0#32 } u
    else WarningsOnly cleared u) ∧
  u.run.tu.lamps.length = s.run.tu.lamps.length ∧
  ∀ (n : Nat) (r r' : LampRec), s.run.tu.lamps[n]? = some r → u.run.tu.lamps[n]? = some r' →
    r'.load = (if r.load = .shorted then .ok else r.load) ∧ r'.openCount = r.openCount ∧
      r'.forced = r.forced

/-- `t` is `u` after the Mode Controller has taken the gauges' reports that `u` holds: STARTUP ends when
the gauges have started and the lamp check has ended (R164), SHUTDOWN when the gauges are at rest and the
DUQ is empty (R170). -/
def GaugesReported (u t : State) : Prop :=
  let starts := u.mode = .startup ∧ u.phase = .gaugesAndLamps ∧ u.run.mc.gaugesStarted = true ∧
    u.run.mc.lampCheckEnded = true
  let rests := u.mode = .shutdown ∧ u.run.mc.gaugesAtRest = true ∧ u.run.queues.duq = []
  (starts → WarningsOnly { u with mode := .run, phase := .none } t ∧ NoticeStands .status t) ∧
    (rests →
      t = { u with mode := .standby, phase := .none, shutdownTimer := none, run := Run.unpowered }) ∧
    (¬ starts → ¬ rests → t = u)

/-- A line whose recessive stretch has gone on to `n` samples. -/
def Line.restedTo (l : Line) (n : Nat) : Line :=
  { l with stretch := n, cell := min stuckSamples (l.cell + (n - l.stretch))
           idle := l.idle || decide (120 ≤ n) }

/-- `t` is `s` after the acknowledgement of condition j's entry (R96): the warnings path alone. The entry
is acknowledged, at level 0 and without a timer; it stays while its condition is ACTIVE or PENDING_OFF and
goes otherwise; a LATCHED condition that nothing holds is released to INACTIVE. The Alert List is told
where the evaluation of the condition brings no further change. -/
def Acknowledged (s : State) (j : Nat) (t : State) : Prop :=
  WarningsOnly s t ∧
    (let r := condRec s j
      let acked := s.run.tu.alerts.map fun a =>
        if a.cond = j then { a with acked := true, level := 0, timer := none } else a
      ((∀ c, condAt s j = some c → r.state ≠ .latched ∧ evalRec s c j r = r) →
        t.run.tu.alerts =
          if r.state = .active ∨ r.state = .pendingOff then acked
          else acked.filter fun a => decide (a.cond ≠ j)) ∧
      ∀ c, condAt s j = some c → r.state = .latched → s.run.cu.evaluating = true →
        (evalRec s c j { r with state := .inactive }).state = .inactive →
        (∀ k c', condAt s k = some c' → c'.qualifier ≠ some j) →
        (condRec t j).state = .inactive ∧
          t.run.tu.alerts = acked.filter fun a => decide (a.cond ≠ j))

/-! ## What a validation accepts -/

/-- Every byte of an entry is erased (R161). -/
def Erased (m : List Host.Cell) (t : TableId) (i : Nat) : Prop :=
  (∀ b ∈ storeImage m t i, b = 0xFF#8) ∧ storeCheck m t i = 0xFF#8

/-- R161: an erased entry is unused, one with a bad check byte disabled; one with a good check byte is
enabled as the value its image gives when that passes the further tests, and disabled otherwise. -/
def Judged {α : Type} (m : List Host.Cell) (t : TableId) (i : Nat) (image : List Byte → Option α)
    (passes : α → Prop) (e : Entry α) : Prop :=
  let good := ¬ Erased m t i ∧ storeCheck m t i = crc8 (storeImage m t i)
  (Erased m t i → e = .unused) ∧
    (¬ Erased m t i → storeCheck m t i ≠ crc8 (storeImage m t i) → e = .disabled) ∧
    (∀ a, e = .enabled a ↔ good ∧ image (storeImage m t i) = some a ∧ passes a) ∧
    (good → e ≠ .unused)

/-- The ranges of R2. -/
def RouteFields (r : Route) : Prop :=
  r.ident ≤ 2047 ∧ (∀ len, r.expected = some len → len ≤ 10) ∧ r.first ≤ 159 ∧ r.count ≤ 8 ∧
    r.first + r.count ≤ 160 ∧ r.timeout ≤ 255 ∧ (r.supervision ≠ .none → r.timeout ≠ 0)

/-- R3: two routes that may not both be active. -/
def Conflict (r q : Route) : Prop :=
  r.link = q.link ∧ r.ident = q.ident ∨
    ∃ k, (r.first ≤ k ∧ k < r.first + r.count) ∧ q.first ≤ k ∧ k < q.first + q.count

/-- The ranges of R22. -/
def SignalFields (d : SigDesc) : Prop :=
  let raw (c : Int) : Prop :=
    if d.signed then -(2 ^ (d.width - 1) : Int) ≤ c ∧ c < (2 ^ (d.width - 1) : Int)
    else 0 ≤ c ∧ c < (2 ^ d.width : Int)
  d.start ≤ 79 ∧ 1 ≤ d.width ∧ d.width ≤ 16 ∧ d.start + d.width ≤ 80 ∧ d.factor ≠ 0 ∧ d.shift ≤ 15 ∧
    d.min ≤ d.max ∧ (∀ c, d.naCode = some c → raw c ∧ d.errCode ≠ some c) ∧
    ∀ c, d.errCode = some c → raw c

/-- The ranges of R39. -/
def GaugeFields (g : Gauge) : Prop :=
  g.source ≤ 162 ∧ (∀ i, g.fallback = some i → i ≤ 162) ∧ 1 ≤ g.span ∧ g.span ≤ 4095 ∧
    2 ≤ g.curve.length ∧ g.curve.length ≤ 8 ∧ (g.curve.map Prod.fst).Pairwise (· < ·) ∧
    (∀ p ∈ g.curve, p.2 ≤ g.span) ∧ 1 ≤ g.gain ∧ g.gain ≤ 16 ∧ 1 ≤ g.rate ∧ g.rate ≤ 255 ∧
    ∀ p, g.policy = .park p → p ≤ g.span

/-- The ranges of R61. -/
def ConditionFields (c : Condition) : Prop :=
  (match c.source with
    | .above i => i ≤ 162 ∧ c.clear ≤ c.set
    | .below i => i ≤ 162 ∧ c.set ≤ c.clear
    | .unusable i => i ≤ 162
    | .input n => 1 ≤ n ∧ n ≤ 15
    | .flag n => n ≤ 13
    | .stage slot atLeast => (slot = 1 ∨ slot = 2) ∧ atLeast ≠ .none) ∧
    c.onDelay ≤ 255 ∧ c.offDelay ≤ 255 ∧ (c.latch = true → c.announce = true) ∧
    (c.chime = true → c.severity ≠ .info) ∧ c.escalation ≤ 60 ∧
    (c.escalation ≠ 0 → c.severity = .alarm ∧ c.announce = true)

/-- The ranges of R81. -/
def LampFields (l : Lamp) : Prop :=
  1 ≤ l.onTime ∧ l.onTime ≤ 4 ∧ (l.pulses = 1 ∨ l.pulses = 2 ∧ l.onTime ≤ 2)

/-- The ranges of R105. -/
def DriveFields (p : DriveParams) : Prop :=
  let minutes (n : Nat) : Prop := 1 ≤ n ∧ n ≤ 1440
  minutes p.contLimit ∧ minutes p.fullBreak ∧ (1 ≤ p.splitFirst ∧ p.splitFirst < p.fullBreak) ∧
    (1 ≤ p.splitSecond ∧ p.splitSecond < p.fullBreak) ∧ minutes p.dailyLimit ∧ minutes p.dailyRest ∧
    p.prewarn ≤ 120 ∧ p.prewarn < p.contLimit ∧ p.moving ≤ 65535 ∧ p.tolerance ≤ 65535 ∧
    (1 ≤ p.mismatchTime ∧ p.mismatchTime ≤ 255) ∧ p.activityMap.length = 8 ∧
    (∀ a ∈ p.activityMap, a ≠ .none) ∧ p.broadcastPriority ≤ 7 ∧ p.cluster ≤ 50 ∧
    (∀ i, p.broadcastId = some i → i ≤ 2047) ∧
    ∀ x ∈ [p.roadSpeed, p.tachoSpeed, p.activity1, p.activity2, p.presence1, p.presence2, p.digest1,
      p.digest2], ∀ i, x = some i → i ≤ 159

/-- What a validation of the store makes of each entry of each table (R2, R3, R22, R39, R61, R81, R106, R131,
R161), read by its image (R190), in ascending number where entries are judged against lower ones. -/
def ValidationLaw (m : List Host.Cell) : Prop :=
  let new := validate m
  let fills (n : Nat) (r : Route) : Prop := ∃ k, entryAt new.routes k = some r ∧ r.fills n = true
  (∀ i, i < 96 → ∃ e, new.routes[i]? = some e ∧
      Judged m .route i parseRoute
        (fun r => ∀ k q, k < i → entryAt new.routes k = some q → ¬ Conflict r q) e ∧
      ∀ r, e = .enabled r → RouteFields r) ∧
    (∀ i, i < 160 → ∃ e, new.signals[i]? = some e ∧
      let fits (d : SigDesc) : Prop :=
        ∀ r len, fills i r → r.expected = some len → d.start + d.width ≤ 8 * len
      ((¬ Erased m .signal i ∨ ∀ r, ¬ fills i r) → Judged m .signal i parseSignal fits e) ∧
        (Erased m .signal i → (∃ r, fills i r) → e = .disabled) ∧
        ∀ d, e = .enabled d → SignalFields d) ∧
    (∀ i, i < 6 → ∃ e, new.gauges[i]? = some e ∧
      Judged m .gauge i parseGauge (fun _ => True) e ∧ ∀ g, e = .enabled g → GaugeFields g) ∧
    (∀ i, i < 64 → ∃ e, new.conds[i]? = some e ∧
      Judged m .condition i parseCondition
        (fun c => ∀ q, c.qualifier = some q → q < i ∧ (entryAt new.conds q).isSome = true) e ∧
      ∀ c, e = .enabled c → ConditionFields c) ∧
    (∀ i, i < 32 → ∃ e, new.lamps[i]? = some e ∧
      Judged m .lamp i parseLamp (fun _ => True) e ∧ ∀ l, e = .enabled l → LampFields l) ∧
    (∀ i, i < 16 → ∃ e, new.inputs[i]? = some e ∧
      Judged m .input i (parseInput i)
        (fun c => ∀ low long role, c = .switch low long role → role ≠ .general →
          ∀ k, k < i → ∀ low' long', entryAt new.inputs k ≠ some (.switch low' long' role)) e ∧
      ∀ c, e = .enabled c → (i = 0 ↔ ∃ code, c = .supply code)) ∧
    Judged m .drive 0 parseDrive (fun _ => True) new.drive ∧
    (∀ p, new.drive = .enabled p → DriveFields p ∧ new.params = p) ∧
    ((∀ p, new.drive ≠ .enabled p) → new.params = DriveParams.defaults)

/-! ## Card events (R110 to R114) -/

/-- The Drive-Time state with a slot bound to a digest, or empty. -/
def Dtu.slotTo (t : Dtu) (slot : Nat) (digest : Option Nat) : Dtu :=
  if slot = 1 then { t with slot1 := digest } else { t with slot2 := digest }

/-- The Drive-Time state with one more log record about a driver (R123). -/
def Dtu.logged (t : Dtu) (kind : LogKind) (slot : Option Nat) (r : Driver) : Dtu :=
  let record : LogRec :=
    { seq := t.seq, kind := kind, slot := slot, activity := r.activity, inferred := r.inferred
      digest := r.digest, minute := t.minutes }
  { t with log := t.log.drop (t.log.length - 63) ++ [record], seq := (t.seq + 1) % 65536 }

/-- `t` is `s` after a card event that left `new`, with the consequences of R114 for each slot whose binding
changed: its signal, F12 for slot 1, and the Drive-time notice; the stage changes write the warnings
path. -/
def CardTaken (s : State) (new : Dtu) (t : State) : Prop :=
  let u : State := { s with dtu := new }
  let entry (slot : Nat) (changed : Prop) [Decidable changed] : SigEntry :=
    if changed then
      match slotDriver u slot with
      | some r => { value := r.remaining, status := .valid }
      | none => { signalAt s (160 + slot) with status := .notAvailable }
    else signalAt s (160 + slot)
  let unsynced :=
    if new.slot1 = s.dtu.slot1 then s.dtu.unsynced
    else match slotDriver u 1 with
      | some r => !r.synced
      | none => true
  let one := entry 1 (new.slot1 ≠ s.dtu.slot1)
  let two := entry 2 (new.slot2 ≠ s.dtu.slot2)
  WarningsOnly
      { u with dtu.unsynced := unsynced
               run.signals := updAt (updAt s.run.signals 161 fun _ => one) 162 fun _ => two } t ∧
    (noticing s = true → NoticeStands .drivetime t)

/-! ## Crediting (R116 to R119) -/

/-- R116: the activity of the record bound to a slot, in the first case that applies. -/
def BoundActivity (s : State) (slot : Nat) (a : Activity) (inferred : Bool) : Prop :=
  let signal := if slot = 1 then s.dtu.params.activity1 else s.dtu.params.activity2
  (∀ v, usableOpt s signal = some v →
      a = (if 0 ≤ v ∧ v ≤ 7 then s.dtu.params.activityMap.getD v.toNat .unknown else .unknown) ∧
        inferred = false) ∧
    (usableOpt s signal = none → inferred = true ∧
      (s.mode = .standby ∨ s.mode = .shutdown → a = .rest) ∧
      (s.mode ≠ .standby → s.mode ≠ .shutdown →
        (slot = 1 → ∀ v, usableOpt s s.dtu.params.roadSpeed = some v →
          a = if (s.dtu.params.moving : Int) ≤ v then .driving else .unknown) ∧
        (slot = 1 → usableOpt s s.dtu.params.roadSpeed = none → a = .unknown) ∧
        (slot ≠ 1 → a = .unknown)))

/-- R116, R117: the activity that a minute event credits to a record. -/
def MinuteActivity (s : State) (d : Driver) (a : Activity) (inferred : Bool) : Prop :=
  (s.dtu.slot1 = some d.digest → BoundActivity s 1 a inferred) ∧
    (s.dtu.slot2 = some d.digest → BoundActivity s 2 a inferred) ∧
    (s.dtu.slot1 ≠ some d.digest → s.dtu.slot2 ≠ some d.digest → a = .rest ∧ inferred = true)

/-- R118, R119: `e` is `d` with one minute of an activity credited to its counters; the other fields, but
for the activity's, are as they were. -/
def Credited (p : DriveParams) (a : Activity) (d e : Driver) : Prop :=
  (a = .rest →
    let pause := min 1440 (d.pauseRun + 1)
    let rest := min 1440 (d.restRun + 1)
    let full := p.dailyRest ≤ rest
    let broken := p.fullBreak ≤ pause ∨ (p.splitSecond ≤ pause ∧ d.splitDone = true) ∨ full
    e.pauseRun = pause ∧ e.restRun = rest ∧ e.cont = (if broken then 0 else d.cont) ∧
      e.splitDone = (if broken then false else d.splitDone) ∧ e.daily = (if full then 0 else d.daily) ∧
      e.synced = (if full then true else d.synced)) ∧
    (a ≠ .rest →
      let more (n : Nat) := if a = .driving then min 1440 (n + 1) else n
      e.pauseRun = 0 ∧ e.restRun = 0 ∧ e.synced = d.synced ∧ e.cont = more d.cont ∧
        e.daily = more d.daily ∧
        (e.splitDone = true ↔
          d.splitDone = true ∨ (p.splitFirst ≤ d.pauseRun ∧ d.pauseRun ≤ p.fullBreak - 1)))

end Sys2Proof.Machine
end

