-- ==== Sys2Proof/Certificates/Slice0/Obligations.lean ====
section
/-! DEFINITION. Obligations.lean: the statements about the model, in the order of OBLIGATIONS.json. -/

section

open Sys2Proof Sys2Proof.Machine

/-! ## How numbers are read and computed -/

/-- R27: under MSB_FIRST the raw field is the number that the payload bits from the start bit on spell,
the first of them the most significant, wherever in the bytes it begins and ends. -/
def Obligations.MsbFirstFieldIsItsBits : Prop :=
  ∀ (d : SigDesc) (payload : List Byte), d.order = .msbFirst → d.signed = false →
    d.start + d.width ≤ 8 * payload.length →
    rawValue d payload =
      ((bytesNat payload / 2 ^ (8 * payload.length - (d.start + d.width)) % 2 ^ d.width : Nat) : Int)

/-- R28: LSB_FIRST takes the same bits in the pieces that the bytes cut them into, the last byte's piece
the most significant. Aligned fields are little-endian words; in one byte both orders agree. -/
def Obligations.LsbFirstFieldReversesItsPieces : Prop :=
  ∀ (d : SigDesc) (payload : List Byte), d.signed = false → 1 ≤ d.width → d.width ≤ 16 →
    d.start + d.width ≤ 8 * payload.length →
    let msb := rawValue { d with order := .msbFirst } payload
    let lsb := rawValue { d with order := .lsbFirst } payload
    let a := min d.width (8 - d.start % 8)
    let b := min 8 (d.width - a)
    let c := d.width - a - b
    (∀ x y z : Nat, x < 2 ^ a → y < 2 ^ b → z < 2 ^ c →
        msb = ((x * 2 ^ (b + c) + y * 2 ^ c + z : Nat) : Int) →
        lsb = ((z * 2 ^ (a + b) + y * 2 ^ a + x : Nat) : Int)) ∧
      (d.start % 8 = 0 → d.width = 8 → lsb = ((byteAt payload (d.start / 8)).toNat : Int)) ∧
      (d.start % 8 = 0 → d.width = 16 →
        lsb = (((byteAt payload (d.start / 8)).toNat + 256 * (byteAt payload (d.start / 8 + 1)).toNat : Nat) : Int)) ∧
      (d.start % 8 + d.width ≤ 8 → lsb = msb)

/-- R29: the unsigned reading, the two's complement reading of the same field, their ranges, and which
payload bit is the sign under each byte order. -/
def Obligations.SignedFieldIsTwosComplement : Prop :=
  ∀ (d : SigDesc) (payload : List Byte), 1 ≤ d.width → d.width ≤ 16 →
    d.start + d.width ≤ 8 * payload.length →
    let u := rawValue { d with signed := false } payload
    let v := rawValue { d with signed := true } payload
    0 ≤ u ∧ u < 2 ^ d.width ∧ u ≤ 65535 ∧
      (u < 2 ^ (d.width - 1) → v = u) ∧ (2 ^ (d.width - 1) ≤ u → v = u - 2 ^ d.width) ∧
      -(2 ^ (d.width - 1)) ≤ v ∧ v < 2 ^ (d.width - 1) ∧ -32768 ≤ v ∧ v ≤ 32767 ∧
      (d.width = 1 → v = 0 ∨ v = -1) ∧
      (v < 0 ↔
        (bytesBits payload).getD
          (match d.order with
            | .msbFirst => d.start
            | .lsbFirst => max d.start (8 * ((d.start + d.width - 1) / 8))) false = true)

/-- R31 and R32: the product, its division rounded half up, and the exact sum, with their ranges. Section
2.3 and section 2.4: what one signal's extraction writes, for a payload too short for the field, for the two
codes, and below, above and within the limits. -/
def Obligations.ScalingIsExactAndRoundsHalfUp : Prop :=
  (∀ (d : SigDesc) (raw : Int), -32768 ≤ raw → raw ≤ 65535 → -32768 ≤ d.factor → d.factor ≤ 32767 →
      d.shift ≤ 15 → -8388608 ≤ d.offset → d.offset ≤ 8388607 →
      let p := raw * d.factor
      ∃ q : Int, scaledValue d raw = q + d.offset ∧
        -2147450880 ≤ p ∧ p ≤ 2147385345 ∧
        (d.shift = 0 → q = p) ∧
        (1 ≤ d.shift → q = (p + 2 ^ (d.shift - 1)) / 2 ^ d.shift ∧
          2 ^ d.shift * q ≤ p + 2 ^ (d.shift - 1) ∧ p - 2 ^ (d.shift - 1) < 2 ^ d.shift * q) ∧
        -2147483648 ≤ q ∧ q ≤ 2147483647 ∧
        -2155872256 ≤ scaledValue d raw ∧ scaledValue d raw ≤ 2155872254) ∧
    (∀ (d : SigDesc) (payload : List Byte) (held : SigEntry), d.min ≤ d.max →
      let e := extractSignal d payload held
      let raw := rawValue d payload
      let v := scaledValue d raw
      (8 * payload.length < d.start + d.width → e = { value := held.value, status := .notAvailable }) ∧
        (d.start + d.width ≤ 8 * payload.length →
          (d.naCode = some raw → e = { value := held.value, status := .notAvailable }) ∧
            (d.naCode ≠ some raw → d.errCode = some raw →
              e = { value := held.value, status := .errorCode }) ∧
            (d.naCode ≠ some raw → d.errCode ≠ some raw →
              (v < d.min → e = { value := d.min, status := .clamped }) ∧
                (d.max < v → e = { value := d.max, status := .clamped }) ∧
                (d.min ≤ v → v ≤ d.max → e = { value := v, status := .valid })))) ∧
    scaleRound (-12) 3 = -1 ∧ scaleRound 12 3 = 2 ∧ scaleRound (-37) 3 = -5

/-- R45: the curve's ends, the segment formula with its rounding, the ranges of N and D, and the range of
the target. -/
def Obligations.CurveInterpolatesAndHoldsItsEnds : Prop :=
  (∀ (pts : List (Int × Nat)) (span : Nat) (v : Int), xsRise pts = true → 2 ≤ pts.length →
      (∀ p ∈ pts, p.2 ≤ span) →
      (∀ p, pts.head? = some p → v ≤ p.1 → curveTarget pts v = p.2) ∧
        (∀ p, pts.getLast? = some p → p.1 ≤ v → curveTarget pts v = p.2) ∧
        (∀ (i : Nat) (p q : Int × Nat), pts[i]? = some p → pts[i + 1]? = some q → p.1 ≤ v → v < q.1 →
          let n := (v - p.1) * ((q.2 : Int) - p.2)
          let m := q.1 - p.1
          curveTarget pts v = p.2 + (2 * n + m) / (2 * m) ∧
            2 * m * (curveTarget pts v - p.2) ≤ 2 * n + m ∧
            2 * n - m < 2 * m * (curveTarget pts v - p.2) ∧
            min (p.2 : Int) q.2 ≤ curveTarget pts v ∧ curveTarget pts v ≤ max (p.2 : Int) q.2 ∧
            1 ≤ m ∧
            (-8388608 ≤ p.1 → q.1 ≤ 8388607 → span ≤ 4095 →
              m ≤ 16777215 ∧ -(16777215 * 4095) ≤ n ∧ n ≤ 16777215 * 4095)) ∧
        0 ≤ curveTarget pts v ∧ curveTarget pts v ≤ span) ∧
    curveTarget [(0, 5), (2, 0)] 1 = 5 + -2

/-- R46: one move of the filter, and where a run of moves leads: it never passes 16 × T, it reaches it, and
it stays there. -/
def Obligations.FilterReachesItsTarget : Prop :=
  (∀ (f target : Int) (k : Nat), 1 ≤ k → k ≤ 16 →
      let d := 16 * target - f
      let s := (d * k).tdiv 16
      (s ≠ 0 → filterMove f target k = f + s) ∧ (s = 0 → 0 < d → filterMove f target k = f + 1) ∧
        (s = 0 → d < 0 → filterMove f target k = f - 1) ∧ (d = 0 → filterMove f target k = f) ∧
        (k = 16 → filterMove f target k = 16 * target) ∧
        min f (16 * target) ≤ filterMove f target k ∧ filterMove f target k ≤ max f (16 * target) ∧
        (∀ span : Nat, 0 ≤ f → f ≤ 16 * span → 0 ≤ target → target ≤ span →
          0 ≤ filterMove f target k ∧ filterMove f target k ≤ 16 * span) ∧
        ∃ n : Nat, ∀ m : Nat, n ≤ m → (fun x => filterMove x target k)^[m] f = 16 * target) ∧
    filterMove 3 0 4 = 2

/-- R145: the register's steps, what a transmitter sends, what a receiver compares, and the residue. -/
def Obligations.CrcIsComputedSentAndChecked : Prop :=
  crc8 [] = 0#8 ∧
    (∀ (bs : List Byte) (b : Byte),
      crc8 (bs ++ [b]) =
        (fun r : Byte => if r.getLsbD 7 then (r <<< 1) ^^^ 0x2F#8 else r <<< 1)^[8] (crc8 bs ^^^ b)) ∧
    (∀ f : Frame, frameBytes f = frameBody f ++ [crc8 (frameBody f)]) ∧
    (∀ (body : List Byte) (c : Byte) (b : Option Binding), headerIsComplete body = true →
      body.length ≤ 12 → (endOfDataFault (body ++ [c]) 0 b = some .crc ↔ c ≠ crc8 body)) ∧
    (∀ bs : List Byte, crc8 (bs ++ [crc8 bs]) = 0#8) ∧
    crc8 [0x01#8, 0x00#8] = 0xE9#8

/-- Section 11.1 and section 8.1: a frame's header is read back as it was sent, whatever its fields, and the
payload follows it; the CRC byte comes last; and the samples that a transmitter drives for the frame are
read back, through filter and decoder, as its bytes. -/
def Obligations.FrameHeaderRoundTrips : Prop :=
  ∀ f : Frame, f.prio < 8 → f.ident < 2048 → f.target < 16 → f.source < 16 →
    (f.kind.addressed = false → f.target = 0 ∧ f.source = 0) →
    headerOf (frameBody f) =
        { prio := f.prio, kind := f.kind, ident := f.ident, target := f.target, source := f.source } ∧
      payloadOf (frameBody f) = f.payload ∧ headerIsComplete (frameBody f) = true ∧
      (frameBytes f).dropLast = frameBody f ∧
      (frameBytes f).length = (if f.kind.addressed then 4 else 3) + f.payload.length ∧
      ∀ (line : Line) (timer : Nat), line.filter = { count := 0, dominant := false } →
        120 ≤ line.stretch →
        let h := hearWave (frameWave (frameBytes f) ++ [(false, 60)])
          { line := line, timer := timer, events := [] }
        readFrame false [] h.events = some (bytesBits (frameBytes f)) ∧
          bitsBytes (bytesBits (frameBytes f)) = frameBytes f

/-- R15: where a frame placed in the VTQ goes, and that the VLI offers the bus the head. -/
def Obligations.VtqPlacementByPriority : Prop :=
  (∀ (e : QEntry) (q : List QEntry),
      (∃ ahead behind : List QEntry, q = ahead ++ behind ∧ vtqInsert e q = ahead ++ e :: behind ∧
          (∀ x ∈ ahead, x.inFlight = true ∨ x.frame0.prio ≤ e.frame0.prio) ∧
          ∀ x, behind.head? = some x → x.inFlight = false ∧ e.frame0.prio < x.frame0.prio) ∧
        (PriorityOrder q → (∀ x ∈ q.tail, x.inFlight = false) → e.inFlight = false →
          PriorityOrder (vtqInsert e q) ∧ (∀ x ∈ (vtqInsert e q).tail, x.inFlight = false) ∧
            ((∀ x ∈ q, x.inFlight = false) → ∀ x, (vtqInsert e q).head? = some x →
              ∀ y ∈ vtqInsert e q, x.frame0.prio ≤ y.frame0.prio))) ∧
    ∀ s t : State, due s = false → exec .transmitAttemptStart s = .next t →
      t.run.vli.sending ≠ s.run.vli.sending →
      ∃ e, s.run.queues.vtq.head? = some e ∧ t.run.vli.sending = some (frameBytes e.current)

/-- R63: the truth of a threshold source with its hysteresis, and the truth it remembers. -/
def Obligations.ThresholdTruthHasHysteresis : Prop :=
  (∀ (s : State) (c : Condition) (j i : Nat) (r : CondRec),
      (c.source = .above i →
        (∀ v, usableAt s i = some v →
          (c.set ≤ v → sourceTruth s c r.remembered = some true) ∧
            (v < c.clear → v < c.set → sourceTruth s c r.remembered = some false) ∧
            (c.clear ≤ v → v < c.set → sourceTruth s c r.remembered = some r.remembered)) ∧
          (usableAt s i = none → sourceTruth s c r.remembered = none)) ∧
        (c.source = .below i →
          (∀ v, usableAt s i = some v →
            (v ≤ c.set → sourceTruth s c r.remembered = some true) ∧
              (c.clear < v → c.set < v → sourceTruth s c r.remembered = some false) ∧
              (c.set < v → v ≤ c.clear → sourceTruth s c r.remembered = some r.remembered)) ∧
            (usableAt s i = none → sourceTruth s c r.remembered = none)) ∧
        (c.source = .above i ∨ c.source = .below i →
          (evalRec s c j r).remembered = (sourceTruth s c r.remembered).getD r.remembered)) ∧
    (∀ (s : State) (i : Nat), usableAt s i = none ↔
      (signalAt s i).status = .never ∨ (signalAt s i).status = .notAvailable ∨
        (signalAt s i).status = .errorCode ∨ (signalAt s i).status = .stale) ∧
    CondRec.initial.remembered = false

/-! ## The links -/

/-- Section 8.1, section 8.3, section 1.2: a dominant stretch of SOF length on an idle line starts a frame,
any other only ends the line's idleness, and a pulse of fewer than 7 samples is not heard; the bits of a
frame are assembled in their order; a complete header is bound to the active route of its link and
identifier, or to the Management Unit, or the frame is ignored. -/
def Obligations.HeadersAreBound : Prop :=
  (∀ (i : Iface) (b : Bool), i.buffer.length = (i.bits + 7) / 8 →
      (∀ k, i.bits ≤ k → (bytesBits i.buffer).getD k false = false) →
      (bytesBits (i.addBit b).buffer).take (i.bits + 1) = (bytesBits i.buffer).take i.bits ++ [b] ∧
        (i.addBit b).bits = i.bits + 1 ∧ (i.addBit b).buffer.length = (i.bits + 8) / 8 ∧
        ∀ k, i.bits < k → (bytesBits (i.addBit b).buffer).getD k false = false) ∧
    ∀ (s : State) (link : Link), due s = false → hears s link = true →
      (link = .vehicle → s.run.vli.sending = none) →
      let i := ifaceOf s link
      (i.rx = .idle →
        (∀ (wave : Wave) (pre : List LineEvent) (x : Symbol),
          (heard s link wave).events = pre ++ [.symbol x] →
          (∀ e ∈ pre, e = .passes14 ∨ ∃ r c, e = .edge r c) →
          let u := setHeard link (heard s link wave) s
          exec (.sofReceived link wave) s = .next
            (if x = .sof then
              setIface link
                { ifaceOf u link with rx := .receiving, buffer := [], bits := 0, binding := none } u
            else u)) ∧
        ∀ n, n < 20000 → i.line.filter = { count := 0, dominant := false } → 120 ≤ i.line.stretch →
          ∃ t, exec (.sofReceived link [(true, n), (false, 7)]) s = .next t ∧ (n < 7 → t = s) ∧
            (7 ≤ n → (ifaceOf t link).line.idle = false ∧
              ((ifaceOf t link).rx = .receiving ↔ 100 ≤ n ∧ n ≤ 140))) ∧
        (i.rx = .receiving → i.bits < 104 → ∀ (wave : Wave) (pre : List LineEvent) (b : Bool),
          (heard s link wave).events = pre ++ [.symbol (if b then .one else .zero)] →
          (∀ e ∈ pre, e = .passes14 ∨ ∃ r c, e = .edge r c ∧
            if i.bits = 0 then 10 ≤ r ∧ r ≤ 50 else 36 ≤ c ∧ c ≤ 44) →
          let u := setHeard link (heard s link wave) s
          let j := (ifaceOf u link).addBit b
          let h := headerOf (wholeBytes j)
          let routed := s.mode = .run ∨ s.mode = .service ∨ (s.mode = .startup ∧ s.phase = .gaugesAndLamps)
          let serves (n : Nat) (r : LiveRoute) : Prop :=
            routeAt s n = some r ∧ r.cfg.link = link ∧ r.cfg.ident = h.ident
          let exits (b : Option Binding) : Prop := exec (.headerComplete link wave) s = .next (setIface link
            (match b with
              | some _ => { j with binding := b }
              | none => { j with rx := .ignoring, buffer := [], bits := 0, binding := none }) u)
          (headerIsComplete (wholeBytes i) = true ∨ headerIsComplete (wholeBytes j) = false →
            exec (.headerComplete link wave) s = .next (setIface link j u)) ∧
            (headerIsComplete (wholeBytes i) = false → headerIsComplete (wholeBytes j) = true →
              (∀ n r, h.kind = .data → routed → n < 96 → serves n r →
                  (∀ m r', m < n → ¬ serves m r') → exits (some (.route n h.ident r.cfg.expected))) ∧
                (h.kind = .data → (¬ routed ∨ ∀ n r, n < 96 → ¬ serves n r) → exits none) ∧
                (h.kind = .cmd → h.target = s.nodeAddress ∨ h.target = 15 → exits (some .mu)) ∧
                (h.kind = .cmd → h.target ≠ s.nodeAddress → h.target ≠ 15 → exits none) ∧
                (h.kind = .reply ∨ h.kind = .note → exits none)))

/-- Section 8.1, section 8.3, section 8.5: the symbol that a dominant stretch is; a bad symbol, cell or gap,
a fourteenth byte, or the first check that fails at EOD drops the frame whole, records the last link error
with its kind, and waits for the idle line; likewise a symbol error in IFR_WAIT while the 460 sends nothing
there. -/
def Obligations.DamagedFramesAreDropped : Prop :=
  (∀ (n : Nat) (idle : Bool),
      let x := dominantSymbol n idle
      let sof := 100 ≤ n ∧ n ≤ 140 ∧ idle = true
      (240 ≤ n → x = .brk) ∧ (6 ≤ n → n ≤ 14 → x = .one) ∧ (26 ≤ n → n ≤ 34 → x = .zero) ∧
        (sof → x = .sof) ∧
        (n < 240 → ¬ (6 ≤ n ∧ n ≤ 14) → ¬ (26 ≤ n ∧ n ≤ 34) → ¬ sof → x = .invalid)) ∧
    ∀ (s : State) (link : Link), due s = false →
      let inTime (bits r c : Nat) : Prop := if bits = 0 then 10 ≤ r ∧ r ≤ 50 else 36 ≤ c ∧ c ≤ 44
      let dropped (l : Link) (wave : Wave) (kind : ErrKind) : State :=
        let u := setHeard l (heard s l wave) s
        setIface l { ifaceOf u l with rx := .errorWait, buffer := [], bits := 0, binding := none }
          { u with run.mu.lastLinkError := .at_ l kind }
      (receiving s link = true → ∀ wave : Wave,
        let i := ifaceOf s link
        let brings (e : LineEvent) : Prop := ∃ pre, (heard s link wave).events = pre ++ [e] ∧
          ∀ p ∈ pre, p = .passes14 ∨ ∃ r c, p = .edge r c ∧ inTime i.bits r c
        let fails (kind : ErrKind) : Prop :=
          exec (.receiveError link wave) s = .next (dropped link wave kind)
        (brings (.symbol .brk) → fails .brk) ∧
          (brings (.symbol .invalid) ∨ brings (.symbol .sof) → fails .invalid) ∧
          (∀ r c, brings (.edge r c) → ¬ inTime i.bits r c → fails .invalid) ∧
          (104 ≤ i.bits → brings (.symbol .one) ∨ brings (.symbol .zero) → fails .framing) ∧
          (brings .eod →
            let received := wholeBytes i
            let body := received.dropLast
            let least := if (headerOf body).kind.addressed then 4 else 3
            let framed := i.bits % 8 = 0 ∧ least ≤ received.length ∧ received.length ≤ 13
            let good := received.getLastD 0#8 = crc8 body
            (¬ framed → fails .framing) ∧ (framed → ¬ good → fails .crc) ∧
              (∀ n ident len, framed → good → i.binding = some (.route n ident (some len)) →
                (payloadOf body).length ≠ len → fails .length))) ∧
        (hears s .vehicle = true → s.run.vli.iface.rx = .ifrWait → s.run.vli.ifr = none →
          s.run.vli.sending = none → ∀ wave : Wave,
          let bits := s.run.vli.iface.bits
          let within := 1 ≤ bits ∧ bits ≤ 7
          let brings (e : LineEvent) : Prop := ∃ pre, (heard s .vehicle wave).events = pre ++ [e] ∧
            ∀ p ∈ pre, p = .passes14 ∨ ∃ r c, p = .edge r c ∧ (within → inTime bits r c)
          let fails (kind : ErrKind) : Prop :=
            exec (.ifrWaitSymbolError wave) s = .next (dropped .vehicle wave kind)
          (brings (.symbol .brk) → fails .brk) ∧
            (brings (.symbol .invalid) ∨ brings (.symbol .sof) → fails .invalid) ∧
            (∀ r c, within → brings (.edge r c) → ¬ inTime bits r c → fails .invalid) ∧
            (within → brings .eod → fails .framing))

/-- Section 10.2, section 10.3, section 8.5: an accepted CMD for this node gets its admission code, decided
in order: BUSY, UNKNOWN, REFUSED_MODE, REFUSED_RANGE, else ACCEPTED. On the vehicle link the code goes out
in the IFR; on the display link an accepted command is executed, the others get a REPLY, BUSY only one at a
time. Of the commands for all nodes CLEAR STATUS alone is executed, and none is answered. -/
def Obligations.CommandsAreAdmitted : Prop :=
  ∀ (s : State) (link : Link) (wave : Wave) (received : List Byte), due s = false →
    receiving s link = true → (heard s link wave).events = [.eod] →
    (ifaceOf s link).buffer = received → (ifaceOf s link).bits = 8 * received.length →
    (ifaceOf s link).binding = some .mu → endOfDataFault received 0 none = none →
    let h := headerOf received.dropLast
    let cmd : Command :=
      { link := link, prio := h.prio, ident := h.ident, source := h.source
        payload := payloadOf received.dropLast }
    let u := setHeard link (heard s link wave) s
    let heard := setIface link
      { ifaceOf u link with rx := (if link = .vehicle then .ifrWait else .idle), buffer := [], bits := 0
                            binding := none } u
    let which := payloadCmd cmd.payload
    (h.target = s.nodeAddress → h.target ≠ 15 → ∃ (code : Code) (t : State),
      exec (.frameAccepted link wave) s = .next t ∧
      (s.run.mu.phase ≠ .idle → code = .busy) ∧
      (s.run.mu.phase = .idle → which = none → code = .unknown) ∧
      (∀ c, s.run.mu.phase = .idle → which = some c →
        (c.inMode s.mode = false → code = .refusedMode) ∧
          (c.inMode s.mode = true → cmd.payload.length ≠ c.length → code = .refusedRange) ∧
          (c.inMode s.mode = true → cmd.payload.length = c.length →
            (c.paramsInRange cmd.payload = false → code = .refusedRange) ∧
              (c.paramsInRange cmd.payload = true → code = .accepted))) ∧
      (link = .vehicle →
        let answered : State :=
          { heard with run.vli.ifr := some
                         { byte := byteOf (16 * code.number + (15 - code.number)), sending := false } }
        t = if code = .accepted then
            { answered with run.mu.phase := .ifrPending, run.mu.cmd := some cmd }
          else answered) ∧
      (link = .display →
        (code = .accepted → t = { heard with run.mu.phase := .executing, run.mu.cmd := some cmd }) ∧
          (code = .busy → s.run.mu.busyQueued = true → t = heard) ∧
          (code = .busy → s.run.mu.busyQueued = false →
            let e : QEntry :=
              { frame0 := replyTo s cmd [7#8], frame1 := none, origin := .busyReply, inFlight := false
                part := 0, attempted := false, errors := 0 }
            t = { heard with run.queues.duq := heard.run.queues.duq ++ [e]
                             run.mu.busyQueued := true }) ∧
          (code ≠ .accepted → code ≠ .busy →
            Replied { heard with run.mu.cmd := some cmd } t cmd [byteOf code.number] none))) ∧
    (h.target = 15 → s.nodeAddress ≠ 15 → ∃ t, exec (.frameAccepted link wave) s = .next t ∧
      let clears := which = some .clearStatus ∧ (s.mode = .run ∨ s.mode = .service) ∧
        cmd.payload.length = 1
      (clears → Cleared heard t) ∧ (¬ clears → t = heard))

/-- Section 1.3 to section 1.5, section 2.3, section 5.8: an accepted DATA frame of an active route makes the
route FRESH with its timer started, every enabled signal of its range is extracted in turn, no other frame
signal changes, the frame is relayed to the other link's queue as its relay policy says, with F4 where that
queue is full, and a driver action acknowledges the entry it names or the newest one. -/
def Obligations.DataFramesAreDispatched : Prop :=
  ∀ (s : State) (link : Link) (wave : Wave) (received : List Byte) (n : Nat) (r : LiveRoute),
    due s = false → receiving s link = true → s.run.signals.length = 163 → routing s = true →
    (heard s link wave).events = [.eod] → (ifaceOf s link).buffer = received →
    (ifaceOf s link).bits = 8 * received.length →
    (ifaceOf s link).binding = some (.route n r.cfg.ident r.cfg.expected) →
    endOfDataFault received 0 (ifaceOf s link).binding = none → routeAt s n = some r →
    r.cfg.link = link → r.cfg.first + r.cfg.count ≤ 160 →
    let body := received.dropLast
    let payload := payloadOf body
    let u := setHeard link (heard s link wave) s
    let fresh (r : LiveRoute) : LiveRoute :=
      { r with fresh := .fresh
               timer := if r.cfg.timeout = 0 then none else some (20 * r.cfg.timeout) }
    let heard := setIface link
      { ifaceOf u link with rx := (if link = .vehicle then .ifrWait else .idle), buffer := [], bits := 0
                            binding := none } u
    ∃ t, exec (.frameAccepted link wave) s = .next t ∧
      ifaceOf t link = ifaceOf heard link ∧
      (∀ m, routeAt t m = if m = n then some (fresh r) else routeAt s m) ∧
      (∀ k, k ≤ 160 → signalAt t k =
        match descAt s k with
        | some d =>
            if r.cfg.first ≤ k ∧ k < r.cfg.first + r.cfg.count then extractSignal d payload (signalAt s k)
            else signalAt s k
        | none => signalAt s k) ∧
      (let copy : QEntry :=
          { frame0 := { kind := .data, prio := (headerOf body).prio, ident := (headerOf body).ident
                        target := 0, source := 0, payload := payload }
            frame1 := none, origin := .route n, inFlight := false, part := 0, attempted := false
            errors := 0 }
        let drq := s.run.queues.drq
        let vtq := s.run.queues.vtq
        let keepsF4 := t.run.flags.relayOverflow = s.run.flags.relayOverflow
        let isNew (q : List QEntry) : Prop := r.cfg.relay = .all ∨
          (r.cfg.relay = .latest ∧ ∀ e ∈ q, waitingOf (.route n) e = false)
        let waits (q ahead : List QEntry) (old : QEntry) (behind : List QEntry) : Prop :=
          r.cfg.relay = .latest ∧ q = ahead ++ old :: behind ∧
            (∀ e ∈ ahead, waitingOf (.route n) e = false) ∧ waitingOf (.route n) old = true
        let replaced (old : QEntry) : QEntry := { old with frame0 := copy.frame0, frame1 := none }
        (link = .display ∨ r.cfg.relay = .none → t.run.queues.drq = drq) ∧
          (link = .vehicle → isNew drq →
            (drq.length < 24 → t.run.queues.drq = drq ++ [copy]) ∧
              (24 ≤ drq.length → t.run.queues.drq = drq ∧ t.run.flags.relayOverflow = true)) ∧
          (∀ ahead old behind, link = .vehicle → waits drq ahead old behind →
            t.run.queues.drq = ahead ++ replaced old :: behind) ∧
          (s.run.mc.validation = none →
            (link = .vehicle ∨ r.cfg.relay = .none → t.run.queues.vtq = vtq) ∧
              (link = .display → isNew vtq →
                (vtq.length < 8 → t.run.queues.vtq = vtqInsert copy vtq ∧ keepsF4) ∧
                  (8 ≤ vtq.length → t.run.queues.vtq = vtq ∧ t.run.flags.relayOverflow = true)) ∧
              (∀ ahead old behind, link = .display → waits vtq ahead old behind → keepsF4 ∧
                t.run.queues.vtq =
                  if old.frame0.prio = copy.frame0.prio then ahead ++ replaced old :: behind
                  else vtqInsert copy (ahead ++ behind)) ∧
              (link = .vehicle → (isNew drq ∧ drq.length < 24) ∨ (∃ a o b, waits drq a o b) →
                keepsF4) ∧
              (r.cfg.relay = .none → keepsF4))) ∧
      (r.cfg.driverAction = true → r.cfg.count = 0 → r.cfg.relay = .none → r.fresh ≠ .stale →
        let routes := updAt s.run.tables.routes n fun e => e.mapTo fresh
        let before : State := { heard with run.tables.routes := routes }
        let acts (j : Nat) : Prop :=
          if ∃ a ∈ s.run.tu.alerts, a.cond = j ∧ a.acked = false then Acknowledged before j t
          else t = before
        (∀ j rest, payload = 1#8 :: j :: rest → acts j.toNat) ∧
          (∀ rest, payload = 2#8 :: rest →
            (∀ older a newer, s.run.tu.alerts = older ++ a :: newer → a.acked = false →
                (∀ b ∈ newer, b.acked = true) → Acknowledged before a.cond t) ∧
              ((∀ a ∈ s.run.tu.alerts, a.acked = true) → t = before)) ∧
          (payload = [] ∨ payload = [1#8] ∨ (∃ c rest, payload = c :: rest ∧ c ≠ 1#8 ∧ c ≠ 2#8) →
            t = before)) ∧
      t.store = s.store ∧ t.nodeAddress = s.nodeAddress ∧ t.din0 = s.din0 ∧
      t.run.iu = s.run.iu ∧ t.run.dli.sending = s.run.dli.sending ∧
      t.run.dli.recessive = s.run.dli.recessive

/-- Section 8.3: the idle line ends ERROR_WAIT, IGNORING and STUCK, and a set F0 is cleared; 10 ms of
dominant on the vehicle link, between frames or from inside one, which is then discarded, make its interface
STUCK, with F0 set and the stuck-line timer at 20000. What the two rows leave in the line's measure, since
they carry no samples, is the model's choice (notes/assumptions/11.md). -/
def Obligations.IdleAndStuckLine : Prop :=
  ∀ s : State, due s = false →
    (∀ link, hears s link = true → betweenFrames s link = true →
      let i := ifaceOf s link
      i.line.filter = { count := 0, dominant := false } → i.line.stretch < 120 →
      ∃ t, exec (.lineIdle link) s = .next t ∧
        let j : Iface :=
          { i with rx := .idle, buffer := [], bits := 0, binding := none, line := i.line.restedTo 120 }
        (link = .display → t = { s with run.dli.iface := j }) ∧
          (link = .vehicle → WarningsOnly
            { s with run.flags.vlinkStuck := false
                     run.vli := { s.run.vli with iface := j, stuckTimer := 0 } } t)) ∧
      (hears s .vehicle = true →
        let i := s.run.vli.iface
        let line : Line :=
          { filter := { count := 7, dominant := true }, stretch := 20000, cell := 20000
            idle := i.line.idle || decide (114 ≤ i.line.stretch) }
        let sticks (error : LinkError) : Prop := ∃ t, exec .stuckLineTimeout s = .next t ∧
          let j : Iface := { rx := .stuck, buffer := [], bits := 0, binding := none, line := line }
          WarningsOnly
            { s with run.flags.vlinkStuck := true, run.mu.lastLinkError := error
                     run.vli := { s.run.vli with iface := j, stuckTimer := 20000 } } t ∧
            (noticing s = true → s.run.flags.vlinkStuck = false → NoticeStands .status t)
        i.line.filter = { count := 0, dominant := false } →
          (betweenFrames s .vehicle = true → sticks s.run.mu.lastLinkError) ∧
            (receiving s .vehicle = true → i.line.stretch < 54 ∨ 60 ≤ i.line.stretch →
              let inTime : Prop :=
                if i.bits = 0 then 4 ≤ i.line.stretch ∧ i.line.stretch ≤ 44
                else 30 ≤ i.line.cell ∧ i.line.cell ≤ 38
              (inTime → sticks (.at_ .vehicle .brk)) ∧ (¬ inTime → sticks (.at_ .vehicle .invalid))))

/-- Section 8.4, section 11.2: an attempt on the idle line sends the VTQ's head, which is in flight from
then on; it is read back as it is driven, and at its EOD the entry goes, or goes on with its second frame,
and a result REPLY that has left its queue ends the command. The receive state stays IDLE until the attempt's
own SOF is read back, and the samples of FRAME_SENT are those the 460 drives: the model's choices
(notes/assumptions/11.md); so is the measure of the line, which begins again with the attempt (12.md). -/
def Obligations.VehicleFramesAreSent : Prop :=
  ∀ (s : State) (e : QEntry) (rest : List QEntry), due s = false → s.run.queues.vtq = e :: rest →
    let i := s.run.vli.iface
    (s.mode ≠ .standby → s.run.vli.test = .off → s.run.vli.sending = none → i.rx = .idle →
      i.line.idle = true → i.line.filter.dominant = false →
      exec .transmitAttemptStart s = .next
        { s with
          run.queues.vtq :=
            { e with inFlight := true, attempted := true
                     errors := if e.inFlight then e.errors else 0 } :: rest
          run.vli.sending := some (frameBytes e.current)
          run.vli.iface.line := { i.line with stretch := 0, cell := 0 } }) ∧
      (∀ bytes, s.run.vli.sending = some bytes → hears s .vehicle = true →
        i.line.filter = { count := 0, dominant := false } →
        let quiet (line : Line) : State :=
          { s with run.vli.sending := none, run.vli.stuckTimer := 0
                   run.vli.iface := { rx := .ifrWait, buffer := [], bits := 0, binding := none
                                      line := line } }
        let ends (line : Line) : Prop :=
          (e.part = 0 → e.frame1.isSome = true →
            exec .frameSent s = .next
              { quiet line with run.queues.vtq := { e with part := 1, attempted := false } :: rest }) ∧
            (e.part ≠ 0 ∨ e.frame1 = none →
              (e.origin = .resultReply → s.run.mu.phase = .replyQueued →
                exec .frameSent s = .next
                  { quiet line with run.queues.vtq := rest, run.mu.phase := .idle, run.mu.cmd := none }) ∧
                (e.origin ≠ .resultReply → e.origin ≠ .busyReply →
                  exec .frameSent s = .next { quiet line with run.queues.vtq := rest }))
        (i.rx = .receiving → i.bits = 8 * bytes.length → i.line.stretch < 60 →
            i.line.stretch ≤ i.line.cell →
            (∃ last, (bytesBits bytes).getLast? = some last ∧ (if last then 4 else 24) ≤ i.line.cell) →
            ends (i.line.restedTo 60)) ∧
          (i.rx = .idle → i.line.idle = true → i.line.stretch = 0 → i.line.cell = 0 → ∃ cell,
            ends { filter := { count := 0, dominant := false }, stretch := 60, cell := cell, idle := false }))

/-- Section 8.4: an attempt that loses arbitration, where it sends a ONE or its EOD, leaves the entry at the
head, in flight, and the 460 goes on as the receiver of the winning frame from the bits read so far; in
SHUTDOWN the entry goes. A first transmit error leaves the entry for one more attempt, a second one, or one
in SHUTDOWN, abandons it. Transmit errors are met in the SOF too: its edge comes late, or not within 60
samples. What samples the rows without a wave bring, and from where the SOF's are counted, are the model's
choices (notes/assumptions/11.md and 12.md). -/
def Obligations.LostAndFailedAttempts : Prop :=
  ∀ (s : State) (e : QEntry) (rest : List QEntry) (bytes : List Byte), due s = false →
    s.run.queues.vtq = e :: rest → s.run.vli.sending = some bytes → e.origin ≠ .busyReply →
    hears s .vehicle = true →
    let i := s.run.vli.iface
    let sent := bytesBits bytes
    let inTime (r c : Nat) : Prop := if i.bits = 0 then 10 ≤ r ∧ r ≤ 50 else 36 ≤ c ∧ c ≤ 44
    let onTime (r c : Nat) : Prop := inTime r c ∧ c ≤ if i.bits = 0 then 160 else 40
    let driven (x : LineEvent) : Prop :=
      x = .passes14 ∧ sent[i.bits]? ≠ some true ∨ ∃ r c, x = .edge r c ∧ onTime r c
    let left (t : State) : State :=
      if e.origin = .resultReply ∧ s.run.mu.phase = .replyQueued then
        { t with run.queues.vtq := rest, run.mu.phase := .idle, run.mu.cmd := none }
      else { t with run.queues.vtq := rest }
    let failed (line : Line) (timer : Nat) : State :=
      let t : State :=
        { s with run.vli.sending := none, run.vli.stuckTimer := timer
                 run.vli.iface := { rx := .errorWait, buffer := [], bits := 0, binding := none
                                    line := line } }
      if s.mode = .shutdown ∨ e.errors ≠ 0 then left { t with run.mu.transmitAbandoned := true }
      else { t with run.queues.vtq := { e with errors := 1 } :: rest }
    (∀ wave : Wave,
      let h := heard s .vehicle wave
      let u := setHeard .vehicle h s
      let j := u.run.vli.iface
      let after : State :=
        let t : State := { u with run.vli.sending := none }
        if s.mode = .shutdown then left t else t
      let lost : State :=
        if headerIsComplete (wholeBytes i) = false then after
        else
          { after with run.vli.iface :=
              match interest s .vehicle (headerOf (wholeBytes i)) with
              | some b => { j with binding := some b }
              | none => { j with rx := .ignoring, buffer := [], bits := 0, binding := none } }
      i.rx = .receiving →
      (∀ pre, h.events = pre ++ [.passes14] → (∀ x ∈ pre, driven x) → sent[i.bits]? = some true →
          exec (.arbitrationLoss wave) s = .next lost) ∧
        (∀ r c, h.events = [.edge r c] → sent.length ≤ i.bits → inTime r c →
          exec (.arbitrationLoss wave) s = .next lost) ∧
        (∀ pre r c, h.events = pre ++ [.edge r c] → (∀ x ∈ pre, driven x) → i.bits < sent.length →
          ¬ onTime r c →
          exec (.arbitrationLoss wave) s = .next (failed h.line h.timer)) ∧
        ∀ pre x, h.events = pre ++ [.symbol x] → (∀ y ∈ pre, driven y) → i.bits < sent.length →
          sent[i.bits]? ≠ (match x with
            | .one => some true
            | .zero => some false
            | .sof | .brk | .invalid => none) →
          exec (.receiveError .vehicle wave) s = .next (failed h.line h.timer)) ∧
      (∀ wave : Wave, i.rx = .idle →
        let h := heard s .vehicle wave
        ((∃ r c, h.events = [.edge r c] ∧ 6 < c) ∨ h.events = [.eod] →
            exec (.receiveError .vehicle wave) s = .next (failed h.line h.timer)) ∧
          ∀ r c, h.events = [.edge r c, .passes14, .symbol .sof] → c ≤ 6 →
            exec (.sofReceived .vehicle wave) s = .next
              { s with run.vli.stuckTimer := h.timer
                       run.vli.iface := { rx := .receiving, buffer := [], bits := 0, binding := none
                                          line := h.line } }) ∧
      (i.line.filter = { count := 0, dominant := false } →
        (i.rx = .receiving → i.bits < sent.length → i.line.stretch < 60 →
          exec .transmitError s = .next (failed (i.line.restedTo 60) 0)) ∧
        (i.rx = .idle → exec .transmitError s = .next (failed
          { filter := { count := 7, dominant := true }, stretch := 240, cell := 240
            idle := i.line.idle || decide (114 ≤ i.line.stretch) } 240)))

/-- Section 8.5, section 10.3: the IFR begins at 80 samples of recessive, or at another node's edge before
that, from which its first cell is timed; sent, it puts an admitted command
into EXECUTING; lost where it sends a ONE, it sets F11 and drops the command; failed, it drops the command
and waits for the idle line. With no IFR to send, EOF ends IFR_WAIT. The samples of these rows are those
their rules fix: the model's choice (notes/assumptions/11.md). That a first cell fails only when its edge
comes after 86 samples of recessive, and a later cell when its edge lies outside 36 to 40, is read by inference
(DEDUCED, notes/assumptions/12.md). -/
def Obligations.InFrameResponses : Prop :=
  ∀ s : State, due s = false → hears s .vehicle = true → s.run.vli.iface.rx = .ifrWait →
    s.run.vli.sending = none →
    let i := s.run.vli.iface
    let rests := i.line.filter = { count := 0, dominant := false }
    let after (line : Line) (timer : Nat) (t : State) : State :=
      { t with run.vli.iface := { i with line := line }, run.vli.stuckTimer := timer }
    let waits (line : Line) (timer : Nat) (rx : RxState) (t : State) : State :=
      { t with run.vli.iface := { rx := rx, buffer := [], bits := 0, binding := none, line := line }
               run.vli.stuckTimer := timer }
    let gone : State := { s with run.vli.ifr := none }
    let pending := s.run.mu.phase = .ifrPending
    let drop (t : State) : State :=
      if pending then { t with run.mu.phase := .idle, run.mu.cmd := none } else t
    let dominant (bit : Bool) : Nat := if bit then 10 else 30
    let aligned (f : Ifr) : Prop :=
      let bit (n : Nat) : Bool := f.byte.getLsbD (7 - n)
      rests ∧ i.bits = 0 ∧ i.line.stretch = 80 ∨
        rests ∧ 1 ≤ i.bits ∧ i.bits ≤ 7 ∧ i.line.stretch ≤ i.line.cell ∧ i.line.cell ≤ 34 ∧
          dominant (bit (i.bits - 1)) ≤ i.line.cell + 6 ∨
        i.line.filter = { count := 7, dominant := true } ∧ i.bits ≤ 7 ∧ 1 ≤ i.line.stretch ∧
          i.line.cell = i.line.stretch ∧ s.run.vli.stuckTimer = i.line.stretch ∧
          i.line.stretch + 6 ≤ dominant (bit i.bits)
    (∀ f, s.run.vli.ifr = some f → f.sending = false →
        let begun : State := { s with run.vli.ifr := some { f with sending := true } }
        (rests → i.line.stretch < 80 → exec .ifrStart s = .next (after (i.line.restedTo 80) 0 begun)) ∧
          ∀ (wave : Wave) (r c : Nat), (heard s .vehicle wave).events = [.edge r c] →
            let h := heard s .vehicle wave
            exec (.ifrWaitSymbolError wave) s = .next (after h.line h.timer begun)) ∧
      (∀ f, s.run.vli.ifr = some f → f.sending = true →
        (aligned f →
          let line : Line :=
            { filter := { count := 0, dominant := false }, stretch := if f.byte.getLsbD 0 then 24 else 4
              cell := 34, idle := false }
          let sent : State :=
            { gone with run.vli.iface := { i with line := line, bits := 8 }, run.vli.stuckTimer := 0 }
          (¬ pending → exec .ifrSent s = .next sent) ∧
            ∀ cmd c, pending → s.run.mu.cmd = some cmd → payloadCmd cmd.payload = some c →
              (c.inMode s.mode = true →
                exec .ifrSent s = .next { sent with run.mu.phase := .executing }) ∧
                (c.inMode s.mode = false → s.mode ≠ .shutdown → ∃ t, exec .ifrSent s = .next t ∧
                  Replied sent t cmd [6#8] none)) ∧
          (aligned f → f.byte.getLsbD (7 - i.bits) = true → ∃ t, exec .ifrLoss s = .next t ∧
            WarningsOnly (drop (after
              { filter := { count := 7, dominant := true }, stretch := 15, cell := 15
                idle := i.line.idle } 15
              { gone with run.flags.addressConflict := true })) t) ∧
          (∀ (wave : Wave) (r c : Nat), (heard s .vehicle wave).events = [.edge r c] →
            (if i.bits = 0 then 86 < r else ¬ (36 ≤ c ∧ c ≤ 40)) →
            let h := heard s .vehicle wave
            exec (.ifrWaitSymbolError wave) s = .next (drop (waits h.line h.timer .errorWait gone))) ∧
          (rests → i.line.stretch < 100 → exec .ifrTransmitError s = .next (drop
            (waits (i.line.restedTo (if i.line.stretch < 60 then 60 else 100)) 0 .errorWait gone)))) ∧
      (s.run.vli.ifr = none → rests → i.line.stretch < 100 →
        i.bits = 0 ∨ 8 ≤ i.bits ∨ 60 ≤ i.line.stretch →
        exec .endOfFrame s = .next (waits (i.line.restedTo 100) 0 .idle s))

/-- Section 8.6, section 1.5, section 9.10: once its transmit wire has been recessive for 120 samples, and not
before, the display link sends the head of the DUQ, or of the DRQ while the DUQ is empty; a sent entry goes on with its second frame or leaves its queue; a notice's pending
successor then goes to the tail, and a REPLY that left is reported; in SHUTDOWN the last frame of the DUQ,
sent with the gauges at rest, brings STANDBY. That 60 samples of recessive have passed at a frame's EOD is
read by inference (DEDUCED, notes/assumptions/12.md). -/
def Obligations.DisplayFramesAreSent : Prop :=
  ∀ (s : State) (e : QEntry) (rest : List QEntry), due s = false → s.mode ≠ .standby →
    let flying : QEntry :=
      { e with inFlight := true, attempted := true, errors := if e.inFlight then e.errors else 0 }
    let q := s.run.queues
    let idle : State := { s with run.dli := { s.run.dli with sending := none, recessive := 60 } }
    let driving (q : DliQueue) : Dli :=
      { s.run.dli with sending := some (q, frameBytes e.current), recessive := 0 }
    (s.run.dli.sending = none →
      (120 ≤ s.run.dli.recessive →
        (q.duq = e :: rest → exec .dliTransmitStart s = .next
            { s with run.queues.duq := flying :: rest, run.dli := driving .duq }) ∧
          (q.duq = [] → q.drq = e :: rest → exec .dliTransmitStart s = .next
            { s with run.queues.drq := flying :: rest, run.dli := driving .drq })) ∧
        (s.run.dli.recessive < 120 ∨ (q.duq = [] ∧ q.drq = []) →
          exec .dliTransmitStart s = .next s)) ∧
      (∀ bytes, s.run.dli.sending = some (.drq, bytes) → q.drq = e :: rest →
        exec .dliFrameSent s = .next { idle with run.queues.drq := rest }) ∧
      (∀ bytes, s.run.dli.sending = some (.duq, bytes) → q.duq = e :: rest →
        let leaves (t : State) : Prop := exec .dliFrameSent s = .next
          (if s.mode = .shutdown ∧ s.run.mc.gaugesAtRest = true ∧ t.run.queues.duq = [] then
            { t with mode := .standby, phase := .none, shutdownTimer := none, run := Run.unpowered }
          else t)
        (e.part = 0 → e.frame1.isSome = true →
            leaves { idle with run.queues.duq := { e with part := 1, attempted := false } :: rest }) ∧
          (e.part ≠ 0 ∨ e.frame1 = none →
            (∀ k, e.origin = .notice k → q.pendingOf k = none →
              leaves { idle with run.queues.duq := rest }) ∧
              (∀ k f, e.origin = .notice k → q.pendingOf k = some f →
                let next : QEntry :=
                  { frame0 := f.1, frame1 := f.2, origin := .notice k, inFlight := false, part := 0
                    attempted := false, errors := 0 }
                leaves { idle with run.queues := { (q.setPending k none) with duq := rest ++ [next] } }) ∧
              (e.origin = .resultReply → s.run.mu.phase = .replyQueued → leaves
                { idle with run.queues.duq := rest, run.mu.phase := .idle, run.mu.cmd := none }) ∧
              (e.origin = .busyReply → leaves
                { idle with run.queues.duq := rest, run.mu.busyQueued := false })))

/-- Section 8.7, section 10.4: LINK TEST asks for the loopback test, which isolates the VLI when it begins;
its end reconnects the VLI and answers PASS with stage 0, or FAIL with the stage that failed. The test frame
at its nominal lengths passes. That a well-framed reading of another length, whose bytes differ from the
frame's nowhere else, is stage 2 and not stage 1, and the state of the line before and after the isolation,
are the model's own (notes/assumptions/12.md, and 14.md for the isolated line). -/
def Obligations.LoopbackTest : Prop :=
  ∀ s : State,
    (∀ cmd, InHand s .linkTest cmd → s.run.vli.test = .off →
      exec .linkTest s = .next { s with run.vli.test := .waiting }) ∧
    (due s = false → s.mode ≠ .standby → s.run.vli.test = .waiting → s.run.vli.sending = none →
      s.run.vli.iface.rx = .idle ∨ s.run.vli.iface.rx = .stuck →
      exec .linkTestBegin s = .next
        { s with run.vli.test := .running
                 run.vli.iface.line :=
                   { filter := { count := 0, dominant := false }, stretch := 120, cell := 20000
                     idle := true } }) ∧
    (due s = false → s.run.vli.test = .running → ∀ read : LoopRead,
      let begun : Heard := { line := s.run.vli.iface.line, timer := 0, events := [] }
      let joined : State :=
        { s with run.vli := { s.run.vli with
            test := .off, stuckTimer := 0
            iface := { rx := .errorWait, buffer := [], bits := 0, binding := none
                       line := { filter := (hearWave read.wave begun).line.filter, stretch := 0, cell := 0
                                 idle := false } } } }
      let sent : List Byte := [0xE7#8, 0xFF#8, 0x55#8, 0xAA#8, 0x0F#8, 0xF0#8]
      let ends (answer : List Byte) : Prop :=
        (∀ cmd, s.run.mu.phase = .executing → s.run.mu.cmd = some cmd →
            payloadCmd cmd.payload = some .linkTest → s.mode ≠ .shutdown →
            ∃ t, exec (.linkTestEnd read) s = .next t ∧ Replied joined t cmd answer none) ∧
          (s.run.mu.phase ≠ .executing → exec (.linkTestEnd read) s = .next joined)
      let got := readFrame false [] (hearWave (firstSamples 4000 read.wave) begun).events
      (got = none → ends [2#8, 1#8]) ∧
        (∀ bits, got = some bits →
          let bytes := bitsBytes bits
          let fault := endOfDataFault bytes (bits.length % 8) none
          let same := bytes = sent ++ [crc8 sent]
          (fault = some .framing → ends [2#8, 1#8]) ∧
            (fault ≠ some .framing → ¬ same → ends [2#8, 2#8]) ∧
            (fault ≠ some .framing → same → read.crcGood = false → ends [2#8, 3#8]) ∧
            (fault ≠ some .framing → same → read.crcGood = true → ends [1#8, 0#8])) ∧
        (begun.line.filter = { count := 0, dominant := false } → 120 ≤ begun.line.stretch →
          read.wave = frameWave (sent ++ [crc8 sent]) ++ [(false, 60)] →
          ends (if read.crcGood then [1#8, 0#8] else [2#8, 3#8])))

/-! ## The Management Unit's commands -/

/-- Section 10.4, section 11.3: READ STATUS, READ SIGNAL, READ ENTRY and READ DRIVER answer OK with what
they name, as it stands, and change nothing else. That the link error byte of NONE is 0x00 whole is the
model's choice (notes/assumptions/14.md). -/
def Obligations.ReadsAnswerWithTheirData : Prop :=
  ∀ (s : State) (cmd : Command),
    (InHand s .readStatus cmd → ∃ (t : State) (hi lo : Byte),
      exec .readStatus s = .next t ∧
        (∀ n, n < 8 → hi.getLsbD n = (decide (n < 6) && flagNumber s (n + 8))) ∧
        (∀ n, n < 8 → lo.getLsbD n = flagNumber s n) ∧
        Replied s t cmd
          ([0#8, byteOf (modeCode s.mode), hi, lo, linkErrorByte s.run.mu.lastLinkError,
              byteOf (2 * boolNat s.run.mu.transmitAbandoned + boolNat s.run.mu.storeDiffers)] ++
            bytes2 s.run.mc.disabledCount) none) ∧
      (InHand s .readSignal cmd → ∃ t, exec .readSignal s = .next t ∧
        let e := signalAt s (byteAt cmd.payload 1).toNat
        Replied s t cmd
          (0#8 :: byteOf (sigStatusCode e.status) ::
            bytes3 ((if e.status = .never then 0 else e.value) % 16777216).toNat) none) ∧
      (InHand s .readEntry cmd → ∀ table, tableOf (bitField (byteAt cmd.payload 1) 7 4) = some table →
        let i := (byteAt cmd.payload 2).toNat
        let group := bitField (byteAt cmd.payload 1) 3 0
        let image := storeImage s.store table i
        let check := storeRead s.store (storeAddress table i (6 * table.groups))
        group < table.groups → ∃ t, exec .readEntry s = .next t ∧
          Replied s t cmd
            (0#8 :: ((List.range 6).map fun k => storeRead s.store (storeAddress table i (6 * group + k))) ++
              [byteOf (16 * (if (∀ b ∈ image, b = 0xFF#8) ∧ check = 0xFF#8 then 0
                    else if check = crc8 image then 1 else 2) +
                  workStateCode (workStateAt s table i))]) none) ∧
      (InHand s .readDriver cmd → ∃ t, exec .readDriver s = .next t ∧
        (slotDriver s (byteAt cmd.payload 1).toNat = none → Replied s t cmd [0#8, 0#8] none) ∧
        ∀ d, slotDriver s (byteAt cmd.payload 1).toNat = some d →
          Replied s t cmd
            (0#8 :: slotStateByte true d.synced d.inferred d.activity d.stage ::
              byteOf (boolNat d.splitDone) :: bytes2 d.digest ++ bytes2 d.cont ++ bytes2 d.daily)
            (some (0x10#8 :: bytes2 d.pauseRun ++ bytes2 d.restRun ++ bytes2 d.remaining)))

/-- R124: READ LOG answers by its four cases from the log as it stands, over a log that keeps the law of
R123. -/
def Obligations.ReadLogAnswersByItsCases : Prop :=
  ∀ (s : State) (cmd : Command), InHand s .readLog cmd → LogLaw s.dtu →
    let start := natAt cmd.payload 1 2
    ∃ t, exec .readLog s = .next t ∧
      (s.dtu.log = [] → Replied s t cmd [0#8] none) ∧
      ∀ oldest, s.dtu.log.head? = some oldest →
        let k := (start + 65536 - oldest.seq) % 65536
        (k < s.dtu.log.length →
            ∃ r ∈ s.dtu.log, r.seq = start ∧ Replied s t cmd (0#8 :: logBytes r) none) ∧
          (k = s.dtu.log.length → start = s.dtu.seq ∧ Replied s t cmd [0#8] none) ∧
          (s.dtu.log.length < k → Replied s t cmd (0x80#8 :: logBytes oldest) none)

/-- Section 10.4: CLEAR STATUS clears the last link error, transmit abandoned, F4, F11 and the SHORT
latches; F5 and the reports of faulty lamps follow the lamps; nothing else but the warnings path changes,
and the result is OK. -/
def Obligations.ClearStatusClearsItsItems : Prop :=
  ∀ (s : State) (cmd : Command), InHand s .clearStatus cmd → ∃ u t, exec .clearStatus s = .next t ∧
    Replied u t cmd [0#8] none ∧ Cleared s u

/-- Section 9.8: ENTER SERVICE enters SERVICE when the park brake is on and the road speed is usable at
50 or less, with F13 set and the chime silent; otherwise it changes nothing and is refused. -/
def Obligations.EnterServiceTakesTheInterlock : Prop :=
  ∀ (s : State) (cmd : Command), InHand s .enterService cmd →
    let held :=
      (∃ n low long, n < 16 ∧ inputAt s n = some (.switch low long .parkBrake) ∧
          (debounceAt s n).active = true) ∧
        ∃ v, usableOpt s s.dtu.params.roadSpeed = some v ∧ v ≤ 50
    (held → ∃ u t, exec .enterService s = .next t ∧ Replied u t cmd [0#8] none ∧
        WarningsOnly { s with mode := .service, run.flags.service := true } u ∧
        u.run.tu.chime = { playing := none, queue := [] } ∧ NoticeStands .status u) ∧
      (¬ held → ∃ t, exec .enterService s = .next t ∧ Replied s t cmd [3#8] none)

/-- Section 10.4: WRITE ENTRY writes its six bytes into the named group and the check byte over all the
entry's groups, sets store differs, and leaves every other byte of the store and all else alone. -/
def Obligations.WriteEntryWritesOneGroup : Prop :=
  ∀ (s : State) (cmd : Command) (table : TableId), InHand s .writeEntry cmd → storeWf s.store = true →
    tableOf (bitField (byteAt cmd.payload 1) 7 4) = some table →
    let i := (byteAt cmd.payload 2).toNat
    let group := bitField (byteAt cmd.payload 1) 3 0
    group < table.groups → ∃ u t, exec .writeEntry s = .next t ∧ Replied u t cmd [0#8] none ∧
      u = { s with store := u.store, run.mu.storeDiffers := true } ∧
      (∀ k, k < 6 →
        storeRead u.store (storeAddress table i (6 * group + k)) = byteAt cmd.payload (3 + k)) ∧
      storeRead u.store (storeAddress table i (6 * table.groups)) = crc8 (storeImage u.store table i) ∧
      storeStateOf u.store table i ≠ .bad ∧
      ∀ a : Nat,
        ¬ (storeAddress table i (6 * group) ≤ a ∧ a < storeAddress table i (6 * group) + 6) →
        a ≠ storeAddress table i (6 * table.groups) → storeRead u.store a = storeRead s.store a

/-- Section 6.6: SET DRIVE-TIME loads the bound record's counters, synced yes, with its remaining time
and stage; it logs SYNC_LOAD, writes the slot's signal, lowers F12 for slot 1, and answers OK. For an empty
slot it changes nothing and is refused. -/
def Obligations.SetDriveTimeLoadsTheRecord : Prop :=
  ∀ (s : State) (cmd : Command), InHand s .setDriveTime cmd →
    CmdCode.setDriveTime.paramsInRange cmd.payload = true →
    let slot := (byteAt cmd.payload 1).toNat
    let cont := natAt cmd.payload 2 2
    let daily := natAt cmd.payload 4 2
    let p := s.dtu.params
    let left := min (p.contLimit - cont) (p.dailyLimit - daily)
    let stage : Stage :=
      if p.contLimit < cont ∨ p.dailyLimit < daily then .over
      else if left = 0 then .limit else if left ≤ p.prewarn then .preWarn else .none
    let load (r : Driver) : Driver :=
      { r with cont := cont, daily := daily, synced := true, remaining := left, stage := stage
               splitDone := decide ((byteAt cmd.payload 6).toNat = 1) }
    (slotDriver s slot = none → ∃ t, exec .setDriveTime s = .next t ∧ Replied s t cmd [5#8] none) ∧
      ∀ d, slotDriver s slot = some d → ∃ u t, exec .setDriveTime s = .next t ∧
        Replied u t cmd [0#8] none ∧ NoticeStands .drivetime u ∧
        let record : LogRec :=
          { seq := s.dtu.seq, kind := .syncLoad, slot := some slot, activity := d.activity
            inferred := d.inferred, digest := d.digest, minute := s.dtu.minutes }
        WarningsOnly
          { s with
            dtu.drivers := s.dtu.drivers.map fun r => if r.digest = d.digest then load r else r
            dtu.log := s.dtu.log.drop (s.dtu.log.length - 63) ++ [record]
            dtu.seq := (s.dtu.seq + 1) % 65536
            dtu.unsynced := (if slot = 1 then false else s.dtu.unsynced)
            run.signals := updAt s.run.signals (160 + slot)
              fun _ => { value := left, status := .valid } } u

/-- Section 5.6, section 5.10: a forced lamp takes the ordered field, a released one none, and only the
outputs follow; a forced chime pattern sounds at once, is abandoned while F9 is set, and REPEAT is
refused. -/
def Obligations.ForcedLampsAndChime : Prop :=
  ∀ (s : State) (cmd : Command), InHand s .forceOutput cmd →
    let n := (byteAt cmd.payload 2).toNat
    let lamp (c : Instr) (f : Option Bool) : Prop := ∃ u t, exec c s = .next t ∧
      Replied u t cmd [0#8] none ∧ u = { s with run.tu.lamps := u.run.tu.lamps } ∧
      LampsForced s u fun m r => if m = n then f else r.forced
    let chime (p : Pattern) : Prop := ∃ t, exec .forceChimePattern s = .next t ∧
      let playing : Option Playing :=
        if s.run.flags.underVoltage then none else some { pattern := p, at_ := 0 }
      Replied { s with run.tu.chime.playing := playing } t cmd [0#8] none
    (forceActionOf cmd.payload = some .lampOn → n < 32 → lamp .forceLampOn (some true)) ∧
      (forceActionOf cmd.payload = some .lampOff → n < 32 → lamp .forceLampOff (some false)) ∧
      (forceActionOf cmd.payload = some .lampRelease → n < 32 → lamp .lampRelease none) ∧
      (forceActionOf cmd.payload = some .chimePattern →
        (n = 1 → chime .check) ∧ (n = 2 → chime .single) ∧ (n = 3 → chime .triple) ∧
          (n = 4 → ∃ t, exec .forceChimePattern s = .next t ∧ Replied s t cmd [5#8] none))

/-- Section 3.8: a channel that may be forced, to a position within its span, enters FORCED with that
target; any other forcing changes nothing and is refused. A release takes a FORCED channel to TRACK, or to
FROZEN under a supply flag, from where it stands; any other channel keeps what it does. -/
def Obligations.ForcedGauges : Prop :=
  ∀ (s : State) (cmd : Command), InHand s .forceOutput cmd →
    let n := (byteAt cmd.payload 2).toNat
    let position := natAt cmd.payload 3 2
    let supply := s.run.flags.underVoltage || s.run.flags.overVoltage
    (forceActionOf cmd.payload = some .gaugePosition →
      let mayForce := ∃ g c, gaugeAt s n = some g ∧ s.run.gu.channels[n]? = some c ∧ c.known = true ∧
        position ≤ g.span ∧
          (c.state = .track ∨ c.state = .sourceless ∨ c.state = .frozen ∨ c.state = .forced)
      (mayForce → ∃ t, exec .gaugeToPosition s = .next t ∧
        let channels := updAt s.run.gu.channels n fun c =>
          { c with state := .forced, forced := some position, resume := none }
        Replied
          { s with run.gu.channels := channels
                   run.mc.gaugesStarted := channels.all channelStarted
                   run.mc.gaugesAtRest := channels.all channelAtRest } t cmd [0#8] none) ∧
      (¬ mayForce → ∃ t, exec .gaugeToPosition s = .next t ∧ Replied s t cmd [5#8] none)) ∧
    (forceActionOf cmd.payload = some .gaugeRelease → ∃ t, exec .gaugeRelease s = .next t ∧
      let channels := updAt s.run.gu.channels n fun c =>
        if c.state = .forced ∧ supply = true then
          { c with state := .frozen, resume := some .track, openA := 0, openB := 0, forced := none
                   filt := 16 * c.pos, target := c.pos }
        else if c.state = .forced then
          { c with state := .track, resume := none, forced := none, filt := 16 * c.pos, target := c.pos }
        else c
      Replied { s with run.gu.channels := channels } t cmd [0#8] none)

/-! ## Power, ignition and inputs -/

/-- Section 9.2: a keep-alive reset gives every item of the keep-alive domain its reset value; the Table
Store and the commands that wait are not touched, and the run domain is unpowered (what stands for it is
the model's choice, notes/assumptions/7.md). That the Drive-Time Parameters entry is then UNUSED is the
model's choice too (notes/assumptions/15.md). -/
def Obligations.KeepAliveResetFromAnyState : Prop :=
  ∀ (s : State) (straps : Fin 16), due s = false →
    exec (.keepAliveReset straps) s = .next
      { mode := .standby, phase := .none, shutdownTimer := none
        nodeAddress := if straps.val = 15 then 14 else straps.val
        din0 := { level := .undecided, count := 0, last := false }
        dtu := { params := DriveParams.defaults, paramState := .unused, drivers := [], slot1 := none
                 slot2 := none, timer := 60000, minutes := 0, log := [], seq := 0, unsynced := true }
        store := s.store, run := Run.unpowered, pending := s.pending }

/-- Section 7.3, section 9.4: the eightieth agreeing sample finds the undecided ignition input active or
inactive, or brings the activating edge; active in STANDBY starts STARTUP with a run-domain reset, the
slots' signals and a STATUS notice; fewer samples only count. That every working-table entry is UNUSED after
that reset is the model's choice (notes/assumptions/15.md). -/
def Obligations.IgnitionStartsFromStandby : Prop :=
  ∀ s : State, due s = false → s.mode = .standby → s.din0.count < 80 →
    let level (active : Bool) : Din0 :=
      { level := if active then .active else .inactive, count := 0, last := active }
    let slot (n : Nat) : SigEntry :=
      match slotDriver s n with
      | some d => { value := d.remaining, status := .valid }
      | none => { value := 0, status := .notAvailable }
    let note (part : Nat) (payload : List Byte) : Frame :=
      { kind := .note, prio := 0, ident := 0x300 + part, target := 0, source := 0, payload := payload }
    let notice : QEntry :=
      { frame0 := note 0 [1#8, if s.dtu.unsynced then 0x10#8 else 0#8, 0#8, 0#8, 0#8, 0#8, 0#8, 0#8]
        frame1 := some (note 1 (List.replicate 8 0#8)), origin := .notice .status, inFlight := false
        part := 0, attempted := false, errors := 0 }
    let started : State :=
      { s with
        mode := .startup, phase := .validating, shutdownTimer := none, din0 := level true
        run := { Run.initial with
                 mc.validation := some 37500
                 signals :=
                   updAt (updAt Run.initial.signals 161 fun _ => slot 1) 162 fun _ => slot 2
                 queues.duq := [notice] } }
    let some80 (b : Bool) := List.replicate (80 - s.din0.count) b
    (s.din0.level = .inactive → exec (.ignitionOn (some80 true)) s = .next started ∧
        ∀ k, s.din0.count + k < 80 → ∃ last, exec (.ignitionOn (List.replicate k true)) s =
          .next { s with din0 := { level := .inactive, count := s.din0.count + k, last := last } }) ∧
      (s.din0.level = .undecided →
        (s.din0.count = 0 ∨ s.din0.last = true →
          exec (.ignitionFinding (some80 true)) s = .next started) ∧
        (s.din0.count = 0 ∨ s.din0.last = false →
          exec (.ignitionFinding (some80 false)) s = .next { s with din0 := level false }))

/-- Section 9.10, section 9.5: ignition on in SHUTDOWN begins a STARTUP validation without a run-domain
reset: no route is active and F1 to F3 are clear, no input is sampled, no condition is in force, and every
output is the one of R86; all else stands. That the STATUS notice carries the items as they stand when the
rest of the start is done, F1 to F3 clear, is the model's reading (notes/assumptions/8.md). That every entry
of the route and condition tables is then unused, a disabled one too, is the model's choice
(notes/assumptions/14.md). -/
def Obligations.IgnitionStartsFromShutdown : Prop :=
  ∀ s : State, due s = false → s.mode = .shutdown → s.din0.level = .inactive → s.din0.count < 80 →
    s.run.cu.recs.length = 64 → ∃ t,
      exec (.ignitionOn (List.replicate (80 - s.din0.count) true)) s = .next t ∧
      WarningsOnly
        { s with
          mode := .startup, phase := .validating, shutdownTimer := none
          din0 := { level := .active, count := 0, last := true }
          run := { s.run with
                   flags := { s.run.flags with displayLost := false, gatewayLost := false
                                               tachoLost := false }
                   tables := { s.run.tables with routes := List.replicate 96 .unused
                                                 conds := List.replicate 64 .unused }
                   cu.evaluating := false
                   iu := { s.run.iu with sampling := false
                                         inputs := List.replicate 16 { active := false, count := 0 } }
                   mc.validation := some 37500 } } t ∧
      (∀ r ∈ t.run.cu.recs, r = { state := .inactive, remembered := false, timer := none }) ∧
      (∀ m r, t.run.tu.lamps[m]? = some r → (r.output = true ↔ LampLit t m r)) ∧
      NoticeStands .status t

/-- Section 9.10: ignition off enters SHUTDOWN: what each unit stops, empties, releases and keeps. That a
FORCED channel keeps its open counts while F9 or F10 is set too is the model's choice
(notes/assumptions/14.md), and what the VTQ and an attempt keep is read by inference (12.md). -/
def Obligations.IgnitionOffEntersShutdown : Prop :=
  ∀ s : State, due s = false → s.mode = .startup ∨ s.mode = .run ∨ s.mode = .service →
    s.din0.level = .active → s.din0.count < 80 → QueueLaw s → ∃ t,
    exec (.ignitionOff (List.replicate (80 - s.din0.count) false)) s = .next t ∧
    (let onHand (e : QEntry) : Bool :=
        e.inFlight && (s.run.vli.sending.isSome || (decide (e.part = 1) && !e.attempted))
      let ends := s.run.mu.phase = .ifrPending ∨ s.run.mu.phase = .executing ∨
        (s.run.mu.phase = .replyQueued ∧
          ∃ e ∈ s.run.queues.vtq, e.origin = .resultReply ∧ onHand e = false)
      let channel (c : Channel) : Channel :=
        match c.state with
        | .forced =>
            { c with state := .ret, resume := none, forced := none, filt := 16 * c.pos, target := c.pos }
        | .track | .sourceless | .sweepUp | .sweepDown | .frozen =>
            { c with state := .ret, resume := none }
        | .homing => { c with state := .unhomed, homing := 0, openA := 0, openB := 0 }
        | .unhomed | .atRest | .fault | .ret => c
      let channels := s.run.gu.channels.map channel
      t =
        { s with
          mode := .shutdown, phase := .none, shutdownTimer := some 3000
          din0 := { level := .inactive, count := 0, last := false }
          run := { s.run with
                   flags.service := false
                   tables.routes :=
                     s.run.tables.routes.map fun e => e.mapTo fun r => { r with timer := none }
                   queues := { t.run.queues with
                               vtq := s.run.queues.vtq.filter onHand
                               drq := s.run.queues.drq.filter QEntry.inFlight }
                   vli := t.run.vli
                   gu.channels := channels
                   cu.recs := t.run.cu.recs
                   tu := { s.run.tu with lamps := t.run.tu.lamps, alerts := t.run.tu.alerts
                                         chime := { playing := none, queue := [] }, lampCheck := none }
                   mc := { s.run.mc with validation := none
                                         gaugesStarted := channels.all channelStarted
                                         gaugesAtRest := channels.all channelAtRest }
                   mu := { s.run.mu with phase := t.run.mu.phase, cmd := t.run.mu.cmd } } } ∧
        (ends → t.run.mu.phase = .idle ∧ t.run.mu.cmd = none) ∧ (¬ ends → t.run.mu = s.run.mu)) ∧
    (t.run.vli.test = .off ∧ (s.run.vli.test = .off → t.run.vli = s.run.vli) ∧
      (s.run.vli.test = .waiting → t.run.vli = { s.run.vli with test := .off }) ∧
      (s.run.vli.test = .running → t.run.vli.iface.rx = .errorWait ∧ t.run.vli.iface.buffer = [] ∧
        t.run.vli.iface.binding = none ∧ t.run.vli.sending = s.run.vli.sending)) ∧
    repliesOf t.run.queues.duq = repliesOf s.run.queues.duq ∧
    (∀ r ∈ t.run.tu.lamps, r.output = false ∧ r.forced = none) ∧
    (∀ a ∈ t.run.tu.alerts, ∀ e, a.timer = some e → e.running = false) ∧ NoticeStands .status t

/-- Section 7.2, section 7.4, section 5.8: the sample that completes the debounce number changes the
debounced state, and the edge reaches the conditions; a GENERAL or ACK_BUTTON input's edge writes the
warnings path alone, an ACK_BUTTON's press acknowledges the newest unacknowledged entry, and a PARK_BRAKE
release in SERVICE ends SERVICE. Fewer samples only count. -/
def Obligations.InputEdgesAreDebounced : Prop :=
  ∀ (s : State) (n : Fin 16) (low long : Bool) (role : Role), due s = false → n.val ≠ 0 →
    s.run.iu.sampling = true → inputAt s n.val = some (.switch low long role) →
    n.val < s.run.iu.inputs.length →
    let number := if long then 80 else 8
    let d := debounceAt s n.val
    let samples (k : Nat) := List.replicate k (d.active == low)
    let put (d' : Debounce) : State := { s with run.iu.inputs := updAt s.run.iu.inputs n.val fun _ => d' }
    d.count < number →
    (∀ k, d.count + k < number →
        exec (.debouncedEdge n (samples k)) s = .next (put { d with count := d.count + k })) ∧
      exec (.debouncedEdge n [d.active != low]) s = .next (put { d with count := 0 }) ∧
      ∃ t, exec (.debouncedEdge n (samples (number - d.count))) s = .next t ∧
        (role ≠ .parkBrake ∨ d.active = false ∨ s.mode ≠ .service →
          WarningsOnly (put { active := !d.active, count := 0 }) t) ∧
        (role = .ackButton → d.active = false →
          (∀ k c, condAt s k = some c → c.source ≠ .input n.val) →
          let before := put { active := true, count := 0 }
          (∀ older a newer, s.run.tu.alerts = older ++ a :: newer → a.acked = false →
              (∀ b ∈ newer, b.acked = true) → Acknowledged before a.cond t) ∧
            ((∀ a ∈ s.run.tu.alerts, a.acked = true) → t = before)) ∧
        (role = .parkBrake → d.active = true → s.mode = .service →
          t.mode = .run ∧ t.run.flags.service = false ∧ t.run.mc.validation = none ∧
            (∀ r ∈ t.run.tu.lamps, r.forced = none) ∧
            (∀ c ∈ t.run.gu.channels, c.state ≠ .forced) ∧ t.run.tables = s.run.tables ∧
            t.run.signals = s.run.signals ∧ t.dtu = s.dtu ∧ t.store = s.store ∧
            debounceAt t n.val = { active := false, count := 0 } ∧ NoticeStands .status t)

/-- Section 7.5: a measurement is written to entry 160, above 40.00 V as 4000 CLAMPED, and moves the
counts of F9 and F10 by the levels. That a count stands at 10 and its flag changes only with the step that is
then due is the model's choice (notes/assumptions/2.md). -/
def Obligations.SupplyMeasurementIsJudged : Prop :=
  ∀ (s : State) (centivolts : Nat), due s = false → s.mode ≠ .standby → ∃ t,
    exec (.supplyMeasurement centivolts) s = .next t ∧
    (let v := min 4000 centivolts
      let u := 1600 + 25 * min s.run.iu.code 24
      let raised (n : Nat) (b : Prop) [Decidable b] : Nat := if b then min 10 (n + 1) else 0
      let f9 := s.run.flags.underVoltage
      let f10 := s.run.flags.overVoltage
      WarningsOnly
        { s with
          run.signals := updAt s.run.signals 160 fun _ =>
            { value := v, status := if 4000 < centivolts then .clamped else .valid }
          run.iu := { s.run.iu with
                      timer := 10
                      low := if f9 then s.run.iu.low else raised s.run.iu.low (v < u)
                      lowClear := if f9 then raised s.run.iu.lowClear (u + 50 ≤ v)
                                  else s.run.iu.lowClear
                      high := if f10 then s.run.iu.high else raised s.run.iu.high (3200 ≤ v)
                      highClear := if f10 then raised s.run.iu.highClear (v < 3150)
                                   else s.run.iu.highClear } } t)

/-- Section 7.5, section 3.7: a count of 10 sets its flag, with both its counts at 0: the moving channels
freeze; F9 also silences the chime, F10 every lamp. A recovery count of 10 clears its flag, and the
channels resume once both flags are clear; a set that is due comes before a clear. -/
def Obligations.SupplyFlagsSetAndClear : Prop :=
  ∀ s : State,
    let f9 := s.run.flags.underVoltage
    let f10 := s.run.flags.overVoltage
    let u := s.run.iu
    let freeze (c : Channel) : Channel :=
      match c.state.resume? with
      | some r => { c with state := .frozen, resume := some r, openA := 0, openB := 0 }
      | none => c
    let resume (c : Channel) : Channel :=
      match c.state, c.resume with
      | .frozen, some r => { c with state := r.state, resume := none }
      | _, _ => c
    let frozen := s.run.gu.channels.map freeze
    let resumed := s.run.gu.channels.map resume
    let dark (t : State) : Prop := ∀ m r, t.run.tu.lamps[m]? = some r → (r.output = true ↔ LampLit t m r)
    (f9 = false → 10 ≤ u.low → ∃ t, exec .underVoltageSet s = .next t ∧
        WarningsOnly { s with run.flags.underVoltage := true, run.iu.low := 0, run.iu.lowClear := 0
                              run.gu.channels := frozen } t ∧
        t.run.tu.chime.playing = none ∧ (noticing s = true → NoticeStands .status t)) ∧
      (f10 = false → 10 ≤ u.high → ∃ t, exec .overVoltageSet s = .next t ∧
        WarningsOnly { s with run.flags.overVoltage := true, run.iu.high := 0, run.iu.highClear := 0
                              run.gu.channels := frozen } t ∧
        dark t ∧ (∀ r ∈ t.run.tu.lamps, r.output = false)) ∧
      (f9 = true → 10 ≤ u.lowClear → (f10 = true ∨ u.high < 10) → ∃ t,
        exec .underVoltageClear s = .next t ∧
        WarningsOnly { s with run.flags.underVoltage := false, run.iu.low := 0, run.iu.lowClear := 0
                              run.gu.channels := if f10 then s.run.gu.channels else resumed } t) ∧
      (f10 = true → 10 ≤ u.highClear → (f9 = true ∨ u.low < 10) → ∃ t,
        exec .overVoltageClear s = .next t ∧
        WarningsOnly { s with run.flags.overVoltage := false, run.iu.high := 0, run.iu.highClear := 0
                              run.gu.channels := if f9 then s.run.gu.channels else resumed } t ∧ dark t) ∧
      (f9 = true → 10 ≤ u.lowClear → f10 = false → 10 ≤ u.high → ∃ t,
        exec .underVoltageClear s = .next t ∧
        WarningsOnly { s with run.flags.underVoltage := false, run.flags.overVoltage := true
                              run.iu := { u with low := 0, lowClear := 0, high := 0, highClear := 0 }
                              run.gu.channels := frozen } t) ∧
      (f10 = true → 10 ≤ u.highClear → f9 = false → 10 ≤ u.low → ∃ t,
        exec .overVoltageClear s = .next t ∧
        WarningsOnly { s with run.flags.underVoltage := true, run.flags.overVoltage := false
                              run.iu := { u with low := 0, lowClear := 0, high := 0, highClear := 0 }
                              run.gu.channels := frozen } t)

/-! ## Routes, gauges, lamps, chime, conditions -/

/-- Section 1.3, section 2.5: an expired route is STALE with its timer absent; every enabled signal of its
range is STALE at the value held, moved into the limits; no other frame signal changes, and F1 to F3 follow
the routes. That a held value other than 0 moves to the limit it lies beyond is the model's choice
(notes/assumptions/14.md). -/
def Obligations.ExpiredRoutesGoStale : Prop :=
  ∀ (s : State) (n : Fin 96) (r : LiveRoute), due s = false → routeAt s n.val = some r →
    r.timer.isSome = true → s.run.signals.length = 163 → r.cfg.first + r.cfg.count ≤ 160 → ∃ t,
    exec (.routeFreshnessExpiry n) s = .next t ∧
      (∀ m, routeAt t m = if m = n.val then some { r with fresh := .stale, timer := none }
        else routeAt s m) ∧
      (∀ k, k ≤ 160 →
        let e := signalAt s k
        signalAt t k =
          match descAt s k with
          | some d =>
              if r.cfg.first ≤ k ∧ k < r.cfg.first + r.cfg.count then
                { value := if e.value < d.min then d.min else if d.max < e.value then d.max else e.value
                  status := .stale }
              else e
          | none => e) ∧
      t.run.flags.displayLost = anyStale t .display ∧ t.run.flags.gatewayLost = anyStale t .gateway ∧
      t.run.flags.tachoLost = anyStale t .tacho ∧
      (r.cfg.supervision = .gateway → t.run.flags.gatewayLost = true) ∧
      t.mode = s.mode ∧ t.store = s.store ∧ t.nodeAddress = s.nodeAddress ∧ t.din0 = s.din0 ∧
      t.run.iu = s.run.iu ∧ t.run.gu = s.run.gu ∧ t.run.vli = s.run.vli ∧ t.run.dli = s.run.dli ∧
      t.run.queues.vtq = s.run.queues.vtq ∧ t.run.queues.drq = s.run.queues.drq

/-- Section 3.3 to section 3.6: a gauge update supervises the coils and moves each channel as its state says;
a channel whose count reaches 3 makes no movement. The reports to the Mode Controller follow, on which
STARTUP or SHUTDOWN may end, and nothing else changes. That a homing at 0 is still HOMING and a channel at
count 3 not yet in FAULT, until the step that is then due, is the model's choice (notes/assumptions/2.md); so is
that the first expiry after an energising judges what the command tells (14.md). -/
def Obligations.GaugeUpdateMovesChannels : Prop :=
  ∀ (s : State) (sense : List (CoilSense × CoilSense)), due s = false → s.mode ≠ .standby →
    sense.length = 6 →
    let count (x : CoilSense) (k : Nat) : Nat :=
      match x with
      | .openCircuit => min 3 (k + 1)
      | .current => 0
      | .undriven => k
    let checked (n : Nat) (c : Channel) : Channel :=
      match c.state with
      | .homing | .sweepUp | .sweepDown | .track | .sourceless | .ret | .forced =>
          let x := sense.getD n (.undriven, .undriven)
          { c with openA := count x.1 c.openA, openB := count x.2 c.openB }
      | .unhomed | .frozen | .fault | .atRest => c
    let goTo (p : Int) (c : Channel) : Channel := { c with pos := p, filt := 16 * p }
    let follow (g : Gauge) (target : Int) (c : Channel) : Channel :=
      let f := filterMove c.filt target g.gain
      { c with target := target, filt := f
               pos := c.pos + max (-(g.rate : Int)) (min g.rate ((f + 8) / 16 - c.pos)) }
    let source (g : Gauge) : Option Int :=
      match usableAt s g.source with
      | some v => some v
      | none => usableOpt s g.fallback
    let moved (g : Gauge) (c : Channel) : Channel :=
      match c.state with
      | .homing => { c with homing := c.homing - min 40 c.homing }
      | .sweepUp =>
          let p := c.pos + min (g.rate : Int) (g.span - c.pos)
          if p = g.span then { goTo p c with state := .sweepDown } else goTo p c
      | .sweepDown =>
          let p := c.pos - min (g.rate : Int) c.pos
          if p = 0 then { goTo p c with state := .track, target := 0 } else goTo p c
      | .ret =>
          let p := c.pos - min (g.rate : Int) c.pos
          if p = 0 then { goTo p c with state := .atRest, openA := 0, openB := 0 } else goTo p c
      | .forced =>
          match c.forced with
          | some p => goTo (c.pos + max (-(g.rate : Int)) (min g.rate (p - c.pos))) c
          | none => c
      | .track | .sourceless =>
          match source g, g.policy with
          | some v, _ => follow g (curveTarget g.curve v) { c with state := .track }
          | none, .hold => follow g c.target { c with state := .sourceless }
          | none, .park p => follow g p { c with state := .sourceless }
      | .unhomed | .frozen | .fault | .atRest => c
    ∃ (channels : List Channel) (t : State), channels.length = s.run.gu.channels.length ∧
      exec (.gaugeUpdate sense) s = .next t ∧
      GaugesReported
        { s with run.gu := { channels := channels, timer := 10 }
                 run.mc.gaugesStarted := channels.all channelStarted
                 run.mc.gaugesAtRest := channels.all channelAtRest } t ∧
      ∀ n c, s.run.gu.channels[n]? = some c → channels[n]? = some
        (match gaugeAt s n with
          | none => c
          | some g =>
              let c' := checked n c
              if c'.state.energised = true ∧ c'.state ≠ .frozen ∧ (3 ≤ c'.openA ∨ 3 ≤ c'.openB) then c'
              else moved g c')

/-- Section 3.4, section 3.6: a homing whose steps are driven completes at P = 0, into SWEEP_UP in STARTUP
with sweep set, else into TRACK, or FROZEN under a supply flag; a channel whose open count has reached 3
enters FAULT, with F6 set and reported. STARTUP may end on the reports that follow. -/
def Obligations.HomingEndsAndCoilsFault : Prop :=
  ∀ (s : State) (n : Fin 6) (c : Channel), s.run.gu.channels[n.val]? = some c →
    (∀ g, gaugeAt s n.val = some g → c.state = .homing → c.homing = 0 →
      let into : Resume := if s.mode = .startup ∧ g.sweep = true then .sweepUp else .track
      let channels := updAt s.run.gu.channels n.val fun c =>
        let c' := { c with known := true, pos := 0, filt := 0, target := 0 }
        if s.run.flags.underVoltage = true ∨ s.run.flags.overVoltage = true then
          { c' with state := .frozen, resume := some into, openA := 0, openB := 0 }
        else { c' with state := into.state, resume := none }
      ∃ t, exec (.homingComplete n) s = .next t ∧
        GaugesReported
          { s with run.gu.channels := channels
                   run.mc.gaugesStarted := channels.all channelStarted
                   run.mc.gaugesAtRest := channels.all channelAtRest } t) ∧
      (c.state.energised = true → c.state ≠ .frozen →
        3 ≤ c.openA ∨ 3 ≤ c.openB →
        let coils : CoilFault :=
          if 3 ≤ c.openA ∧ 3 ≤ c.openB then .ab else if 3 ≤ c.openA then .a else .b
        let channels := updAt s.run.gu.channels n.val fun c =>
          { c with state := .fault, known := false, resume := none, forced := none, fault := coils
                   openA := 0, openB := 0 }
        ∃ u t, exec (.coilOpenFault n) s = .next t ∧ GaugesReported u t ∧
          (noticing s = true → NoticeStands .status u) ∧
          WarningsOnly
            { s with
              run.flags.gaugeFault := true
              run.gu.channels := channels
              run.mc := { s.run.mc with
                gaugesStarted := channels.all channelStarted
                gaugesAtRest := channels.all channelAtRest
                gaugeFaults := channels.map fun c => if c.state = .fault then c.fault else .none } } u)

/-- Section 5.3, section 5.4: the timebase advances modulo 64 and sets every lamp's pattern phase from its
descriptor; the end of the lamp check is reported, and ends STARTUP when the gauges have started. Every
output follows. That an idle lamp keeps its phase is the model's choice (notes/assumptions/14.md). -/
def Obligations.BlinkAndLampCheckEnd : Prop :=
  ∀ s : State, due s = false →
    (s.mode ≠ .standby →
      let count := (s.run.tu.blink + 1) % 64
      ∃ t, exec .blinkTimebaseAdvance s = .next t ∧
        t = { s with run.tu.blink := count, run.tu.blinkTimer := 31250
                     run.tu.lamps := t.run.tu.lamps } ∧
        t.run.tu.lamps.length = s.run.tu.lamps.length ∧
        ∀ n r, s.run.tu.lamps[n]? = some r → ∃ lit on : Bool,
          let r' : LampRec := { r with lit := lit, output := on }
          t.run.tu.lamps[n]? = some r' ∧ (on = true ↔ LampLit t n r') ∧
            (lampAt s n = none → lit = r.lit) ∧
            ∀ l, lampAt s n = some l →
              let e := match l.period with
                | .ms250 => 1
                | .ms500 => 2
                | .ms1000 => 4
                | .ms2000 => 8
              let place := count % (8 * e)
              (lit = true ↔ place < l.onTime * e ∨
                (l.pulses = 2 ∧ 2 * l.onTime * e ≤ place ∧ place < 3 * l.onTime * e))) ∧
      (s.run.tu.lampCheck.isSome = true →
        let ended : State := { s with run.tu.lampCheck := none, run.mc.lampCheckEnded := true }
        let starts := s.mode = .startup ∧ s.phase = .gaugesAndLamps ∧ s.run.mc.gaugesStarted = true
        ∃ t, exec .lampCheckEnd s = .next t ∧
          (starts → WarningsOnly { ended with mode := .run, phase := .none } t ∧ NoticeStands .status t) ∧
          (¬ starts → WarningsOnly ended t) ∧
          ∀ n r, t.run.tu.lamps[n]? = some r → (r.output = true ↔ LampLit t n r))

/-- Section 5.5: the load check counts, recovers OPEN lamps and checks only lamps that are on; a count of 3
makes a lamp OPEN; overcurrent latches SHORT and darkens the lamp. Each change of a load state is reported,
and F5 follows. That the check leaves a lamp at count 3 OK until the step that is then due, LAMP_OPEN's, and
so reports recoveries before openings, is the model's choice (notes/assumptions/2.md, 14.md). -/
def Obligations.LampLoadsAreSupervised : Prop :=
  ∀ s : State, s.run.tu.lamps.length = 32 →
    let reported (t : State) : Prop :=
      t.run.flags.lampFault = (t.run.tu.lamps.any fun r => decide (r.load ≠ .ok)) ∧
        ∀ m, m < 32 →
          t.run.mc.openLamps.getLsbD m = decide ((lampRec t m).load = .opened) ∧
            t.run.mc.shortLamps.getLsbD m = decide ((lampRec t m).load = .shorted)
    let rest (t : State) : Prop := WarningsOnly
      { s with run.flags.lampFault := t.run.flags.lampFault
               run.tu.loadTimer := t.run.tu.loadTimer
               run.mc := { s.run.mc with openLamps := t.run.mc.openLamps
                                         shortLamps := t.run.mc.shortLamps } } t
    let loads (t : State) (f : Nat → LampRec → Load × Nat) : Prop := ∀ m, m < 32 →
      ((lampRec t m).load, (lampRec t m).openCount) = f m (lampRec s m)
    let others (n : Nat) (x : Load × Nat) (m : Nat) (r : LampRec) : Load × Nat :=
      if m = n then x else (r.load, r.openCount)
    (∀ current : BitVec 32, due s = false → s.mode ≠ .standby →
      let check (m : Nat) (r : LampRec) : Load × Nat :=
        if r.output = false then (r.load, r.openCount)
        else if current.getLsbD m then (if r.load = .opened then .ok else r.load, 0)
        else (r.load, min 3 (r.openCount + 1))
      ∃ t, exec (.loadCheck current) s = .next t ∧ rest t ∧ t.run.tu.loadTimer = 20 ∧ loads t check ∧
        ((∃ m, m < 32 ∧ (lampRec t m).load ≠ (lampRec s m).load) → reported t) ∧
        ((∀ m, m < 32 → (lampRec t m).load = (lampRec s m).load) →
          t = { s with run.tu.lamps := t.run.tu.lamps, run.tu.loadTimer := 20 })) ∧
      (∀ n : Fin 32, due s = false → (lampRec s n.val).output = true → ∃ t, exec (.lampOvercurrent n) s = .next t ∧
        rest t ∧ t.run.tu.loadTimer = s.run.tu.loadTimer ∧ reported t ∧
        loads t (others n.val (.shorted, 0)) ∧ (lampRec t n.val).output = false ∧
        (noticing s = true → NoticeStands .status t)) ∧
      ∀ n : Fin 32, (lampRec s n.val).load = .ok → 3 ≤ (lampRec s n.val).openCount → ∃ t,
        exec (.lampOpen n) s = .next t ∧ rest t ∧ t.run.tu.loadTimer = s.run.tu.loadTimer ∧
          reported t ∧ loads t (others n.val (.opened, (lampRec s n.val).openCount)) ∧
          (noticing s = true → NoticeStands .status t)

/-- Section 5.9, section 5.10: the tones of each pattern; a pattern that ends gives way to the head of the
queue, which is its highest while the queue keeps its order (SupplyLawIsKept), or to silence; REPEAT begins
its cycle again. An escalation's first expiry raises the entry to level 1, starts the timer again and
requests TRIPLE; the second raises it to level 2 and requests REPEAT when no entry was there. -/
def Obligations.ChimeAndEscalation : Prop :=
  (∀ s : State, (s.run.tu.chime.playing = none → chimeOutput s = false) ∧
    ∀ p, s.run.tu.chime.playing = some p →
      (p.pattern = .check → (chimeOutput s = true ↔ p.at_ < 100)) ∧
        (p.pattern = .single → (chimeOutput s = true ↔ p.at_ < 200)) ∧
        (p.pattern = .triple ∨ p.pattern = .rep →
          (chimeOutput s = true ↔
            p.at_ < 150 ∨ (300 ≤ p.at_ ∧ p.at_ < 450) ∨ (600 ≤ p.at_ ∧ p.at_ < 750)))) ∧
  ∀ s : State, due s = false →
    let chime := s.run.tu.chime
    (∀ p, chime.playing = some p →
      (p.pattern ≠ .rep →
          (chime.queue = [] →
            exec .chimePatternEnd s = .next { s with run.tu.chime := { playing := none, queue := [] } }) ∧
            (chime.queue ≠ [] → ChimeOrder chime.queue → ∃ q rest,
              q ∈ chime.queue ∧ (∀ x ∈ chime.queue, x ≠ q → x.rank < q.rank) ∧ ChimeOrder rest ∧
              (∀ x, x ∈ rest ↔ x ∈ chime.queue ∧ x ≠ q) ∧
              exec .chimePatternEnd s = .next
                { s with run.tu.chime := { playing := some { pattern := q, at_ := 0 }, queue := rest } })) ∧
        (p.pattern = .rep → exec .repeatCycle s = .next
          { s with run.tu.chime.playing := some { pattern := .rep, at_ := 0 } })) ∧
      ∀ (j : Fin 64) (a : Alert) (e : EscTimer) (c : Condition), AlertLaw s.run.tu.alerts →
        a ∈ s.run.tu.alerts → a.cond = j.val → a.timer = some e → e.running = true →
        condAt s j.val = some c → ∃ t, exec (.escalationExpiry j) s = .next t ∧
        (let entries (f : Alert → Alert) := s.run.tu.alerts.map fun x => if x.cond = j.val then f x else x
          let asks (p : Pattern) : Prop :=
            let sounds := (s.mode = .startup ∨ s.mode = .run) ∧ s.run.flags.underVoltage = false
            (sounds → (∀ cur, chime.playing = some cur → cur.pattern.rank < p.rank) →
                t.run.tu.chime = { chime with playing := some { pattern := p, at_ := 0 } }) ∧
              (∀ cur, sounds → chime.playing = some cur → p.rank ≤ cur.pattern.rank →
                t.run.tu.chime.playing = some cur ∧ p ∈ t.run.tu.chime.queue ∧
                  ∀ q, q ≠ p → (q ∈ t.run.tu.chime.queue ↔ q ∈ chime.queue)) ∧
              (s.mode = .startup ∨ s.mode = .run → s.run.flags.underVoltage = true →
                t.run.tu.chime.playing = chime.playing ∧ p ∈ t.run.tu.chime.queue) ∧
              (s.mode = .service ∨ s.mode = .shutdown → t.run.tu.chime = chime)
          (a.level = 0 →
            t = { s with run.tu.chime := t.run.tu.chime
                         run.tu.alerts := entries fun x =>
                           { x with level := 1
                                    timer := some { left := 1000 * c.escalation, running := true } } } ∧
              asks .triple) ∧
            (a.level ≠ 0 →
              t = { s with run.tu.chime := t.run.tu.chime
                           run.tu.alerts := entries fun x => { x with level := 2, timer := none } } ∧
                ((∃ x ∈ s.run.tu.alerts, x.level = 2) → t.run.tu.chime = chime) ∧
                ((∀ x ∈ s.run.tu.alerts, x.level ≠ 2) → asks .rep)))

/-- Section 4.4 to section 4.6: what one evaluation makes of a condition's state and delay timer, from the
qualifier, the resolved truth and the latch choice; a second evaluation with the same sources changes
nothing. Section 5.7: what an activation and a deactivation make of the Alert List, in the five cases of an
entry and the rows of a removal. -/
def Obligations.ConditionTransitions : Prop :=
  (∀ (s : State) (c : Condition) (j : Nat) (old now : CondState), condAt s j = some c →
    let l := s.run.tu.alerts
    let e : Alert :=
      { cond := j, severity := c.severity, acked := false, level := 0
        timer := if c.severity = .alarm ∧ c.escalation ≠ 0 then
            some { left := 1000 * c.escalation, running := decide (s.mode ≠ .shutdown) }
          else none }
    let gives (l' : List Alert) (evicted : Option Nat) : Prop :=
      (telltaleChange j old now s).1.run.tu.alerts = l' ∧ (telltaleChange j old now s).2 = evicted
    let new := ∀ a ∈ l, a.cond ≠ j
    (now = .active → old ≠ .pendingOff → c.announce = true →
      (∀ ahead x behind, l = ahead ++ x :: behind → x.cond = j →
          (∀ a ∈ ahead ++ behind, a.cond ≠ j) → gives (ahead ++ behind ++ [e]) none) ∧
        (new → l.length < 16 → gives (l ++ [e]) none) ∧
        (new → 16 ≤ l.length →
          (∀ ahead x behind, l = ahead ++ x :: behind → x.acked = true →
              (∀ a ∈ ahead, a.acked = false) → gives (ahead ++ behind ++ [e]) (some x.cond)) ∧
            ((∀ a ∈ l, a.acked = false) →
              (∀ ahead x behind, c.severity = .alarm → l = ahead ++ x :: behind → x.severity = .warn →
                  (∀ a ∈ ahead, a.severity ≠ .warn) → gives (ahead ++ behind ++ [e]) (some x.cond)) ∧
                (c.severity ≠ .alarm ∨ (∀ a ∈ l, a.severity ≠ .warn) → gives l none)))) ∧
      (now = .active → old ≠ .pendingOff → c.announce = false → gives l none) ∧
      (old = .active ∨ old = .pendingOff ∨ old = .latched → now = .inactive ∨ now = .suspended →
        gives
          (l.filterMap fun a =>
            if a.cond ≠ j then some a
            else if a.acked = false ∧ a.severity = .alarm then some { a with level := 0, timer := none }
            else none) none)) ∧
  ∀ (s : State) (c : Condition) (j : Nat) (r : CondRec),
    let e := evalRec s c j r
    let blocked := ∃ q, c.qualifier = some q ∧ (condRec s q).state ≠ .active
    let truth := sourceTruth s c r.remembered
    let held (b : Bool) := truth = some b ∨
      (truth = none ∧ c.policy = if b then .forceTrue else .forceFalse)
    let open_ := truth = none ∧ c.policy = .hold
    let becomes (st : CondState) (timer : Option Delay) : Prop := e.state = st ∧ e.timer = timer
    let keeps := e.state = r.state ∧ e.timer = r.timer
    let leaves := becomes
      (if c.latch = true ∧ ∃ a ∈ s.run.tu.alerts, a.cond = j ∧ a.acked = false then .latched
        else .inactive) none
    let off := r.state = .inactive ∨ r.state = .suspended
    (blocked → (r.state = .latched → keeps) ∧ (r.state ≠ .latched → becomes .suspended none)) ∧
      (¬ blocked →
        (held true →
          (off → c.onDelay = 0 → becomes .active none) ∧
          (off → c.onDelay ≠ 0 → becomes .pendingOn (some { kind := .on, left := 100 * c.onDelay })) ∧
          (r.state = .pendingOn ∨ r.state = .active → keeps) ∧
          (r.state = .pendingOff ∨ r.state = .latched → becomes .active none)) ∧
        (held false →
          (off → e.state = .inactive) ∧ (r.state = .pendingOn → becomes .inactive none) ∧
          (r.state = .active → c.offDelay = 0 → leaves) ∧
          (r.state = .active → c.offDelay ≠ 0 →
            becomes .pendingOff (some { kind := .off, left := 100 * c.offDelay })) ∧
          (r.state = .pendingOff ∨ r.state = .latched → keeps)) ∧
        (open_ →
          (off → e.state = .inactive) ∧ (r.state = .pendingOn → becomes .inactive none) ∧
          (r.state = .pendingOff → becomes .active none) ∧
          (r.state = .active ∨ r.state = .latched → keeps))) ∧
      evalRec s c j e = e

/-- Section 4.4, section 6.8, section 9.10: an on-delay that expires makes an unqualified condition ACTIVE,
lights its lamps and, where it is announced, enters it in the Alert List; an off-delay that expires without a latch makes it INACTIVE; the speed mismatch timer
sets F7; the shutdown timer enters STANDBY, where everything in the run domain is lost
(what stands for it there is the model's choice, notes/assumptions/7.md). -/
def Obligations.TimersTakeEffect : Prop :=
  ∀ s : State, due s = false →
    (∀ (j : Fin 64) (c : Condition) (r : CondRec) (d : Delay), condAt s j.val = some c →
      s.run.cu.recs[j.val]? = some r → r.timer = some d → c.qualifier = none →
      (r.state = .pendingOn → ∃ t, exec (.conditionDelayExpiry j) s = .next t ∧ WarningsOnly s t ∧
        condRec t j.val = { r with state := .active, timer := none } ∧
        ∀ n l rec, lampAt s n = some l → l.mask.getLsbD j.val = true → t.run.tu.lamps[n]? = some rec →
          rec.requested = true ∧ rec.view.getLsbD j.val = true) ∧
      (r.state = .pendingOn → c.announce = true → s.run.tu.alerts.length < 16 →
        (∀ a ∈ s.run.tu.alerts, a.cond ≠ j.val) →
        (∀ k c', condAt s k = some c' → c'.qualifier ≠ some j.val) →
        ∃ t, exec (.conditionDelayExpiry j) s = .next t ∧
          t.run.tu.alerts = s.run.tu.alerts ++
            [{ cond := j.val, severity := c.severity, acked := false, level := 0
               timer := if c.severity = .alarm ∧ c.escalation ≠ 0 then
                   some { left := 1000 * c.escalation, running := decide (s.mode ≠ .shutdown) }
                 else none }]) ∧
      (r.state = .pendingOff → ∃ t, exec (.conditionDelayExpiry j) s = .next t ∧ WarningsOnly s t ∧
        (c.latch = false ∨ hasUnacked s j.val = false →
          condRec t j.val = { r with state := .inactive, timer := none }))) ∧
      (s.run.mismatch.isSome = true → ∃ t, exec .speedMismatchExpiry s = .next t ∧
        WarningsOnly { s with run.mismatch := none, run.flags.speedMismatch := true } t) ∧
      (s.mode = .shutdown → s.shutdownTimer.isSome = true →
        exec .shutdownTimerExpiry s = .next
          { s with mode := .standby, phase := .none, shutdownTimer := none, run := Run.unpowered })

/-! ## The minute event, activation, and the end of SERVICE -/

/-- R116 to R119, with section 6.4: at a minute event the counter advances, every record is credited with
one activity and assessed afresh, a bound record whose activity changed is logged, F12 and the slots'
signals follow, and the Drive-time notice and the broadcast are placed. -/
def Obligations.MinuteEventCreditsEveryRecord : Prop :=
  ∀ s : State, due s = false → DriverLaw s.dtu → LogLaw s.dtu → PowerLaw s → ∃ t,
    exec .minuteEvent s = .next t ∧
      (let minutes := (s.dtu.minutes + 1) % 16777216
        let bound (d : Driver) := s.dtu.slot1 = some d.digest ∨ s.dtu.slot2 = some d.digest
        let logged (slot seq : Nat) : List LogRec :=
          match slotDriver s slot, slotDriver t slot with
          | some b, some d =>
              if b.activity = d.activity ∧ b.inferred = d.inferred then []
              else
                [{ seq := seq, kind := .activityChange, slot := some slot, activity := d.activity
                   inferred := d.inferred, digest := d.digest, minute := minutes }]
          | _, _ => []
        let first := logged 1 s.dtu.seq
        let news := first ++ logged 2 ((s.dtu.seq + first.length) % 65536)
        t.dtu =
          { s.dtu with
            minutes := minutes, timer := 60000, drivers := t.dtu.drivers
            log := (s.dtu.log ++ news).drop (s.dtu.log.length + news.length - 64)
            seq := (s.dtu.seq + news.length) % 65536
            unsynced := match slotDriver t 1 with
              | some d => !d.synced
              | none => true } ∧
        t.dtu.drivers.length = s.dtu.drivers.length ∧
        ∀ (i : Nat) (d : Driver), s.dtu.drivers[i]? = some d → ∃ e : Driver, t.dtu.drivers[i]? = some e ∧
          MinuteActivity s d e.activity e.inferred ∧ Credited s.dtu.params e.activity d e ∧
          e.digest = d.digest ∧ (bound d → e.lastPresent = minutes) ∧
          (¬ bound d → e.lastPresent = d.lastPresent) ∧ AssessedLaw s.dtu.params e) ∧
      (s.mode = .standby → t = { s with dtu := t.dtu }) ∧
      (s.mode ≠ .standby →
        let entry (slot : Nat) : SigEntry :=
          match slotDriver t slot with
          | some d => { value := d.remaining, status := .valid }
          | none => { signalAt s (160 + slot) with status := .notAvailable }
        let written : State :=
          { s with dtu := t.dtu
                   run.signals := updAt (updAt s.run.signals 161 fun _ => entry 1) 162 fun _ => entry 2 }
        (noticing s = true → NoticeStands .drivetime t) ∧
          (s.mode = .shutdown ∨ s.dtu.params.broadcastId = none → WarningsOnly written t) ∧
          ∀ ident, s.mode ≠ .shutdown → s.dtu.params.broadcastId = some ident →
            s.run.queues.vtq.length < 8 → (∀ x ∈ s.run.queues.vtq, waitingOf .broadcast x = false) →
            let held (slot : Nat) := boolNat (slotDriver t slot).isSome
            let left (slot : Nat) := ((slotDriver t slot).map Driver.remaining).getD 0
            let e : QEntry :=
              { frame0 :=
                  { kind := .data, prio := s.dtu.params.broadcastPriority, ident := ident, target := 0
                    source := 0
                    payload :=
                      byteOf (128 * held 1 + 16 * stageCode (slotStage t 1) + 8 * held 2 +
                          stageCode (slotStage t 2)) :: bytes2 (left 1) ++ bytes2 (left 2) }
                frame1 := none, origin := .broadcast, inFlight := false, part := 0, attempted := false
                errors := 0 }
            WarningsOnly { written with run.queues.vtq := vtqInsert e s.run.queues.vtq } t)

/-- Section 9.5, with the checks of every table (section 1.1, 2.1, 3.1, 4.1, 5.1, 6.1, 7.1): what a validation
of the store accepts, disables and leaves unused, and that no two active routes share a key or a signal.
Section 9.6, section 3.4: the end of a STARTUP validation puts the tables it built in
force, with F8 and the disabled-entry count, the inputs' first samples, the conditions' first evaluation,
the placement of the channels and the lamp check; STARTUP goes on, or ends at once when nothing is left to
wait for. That a channel without a descriptor is idle even where it was in FAULT is the model's reading
(notes/assumptions/9.md); what it then holds beside AT_REST is the model's choice (notes/assumptions/14.md). -/
def Obligations.ValidationPutsTablesInForce : Prop :=
  (∀ m : List Host.Cell, ValidationLaw m ∧ ∀ i k r q, i ≠ k → entryAt (validate m).routes i = some r →
      entryAt (validate m).routes k = some q → ¬ Conflict r q) ∧
  ∀ (s : State) (levels : BitVec 16), due s = false → s.mode = .startup → s.phase = .validating →
    s.run.mc.validation.isSome = true → ∃ t, exec (.validationComplete levels) s = .next t ∧
      (let new := validate s.store
        let count := new.failures.length
        let supply := s.run.flags.underVoltage || s.run.flags.overVoltage
        let enters (r : Resume) (c : Channel) : Channel :=
          if supply then { c with state := .frozen, resume := some r, openA := 0, openB := 0 }
          else { c with state := r.state, resume := none }
        let placed (n : Nat) (c : Channel) : Channel :=
          match entryAt new.gauges n with
          | none =>
              { c with state := .atRest, known := false, resume := none, homing := 0, forced := none
                       openA := 0, openB := 0, fault := .none }
          | some g =>
              let c' := if c.state.energised then c else { c with openA := 0, openB := 0 }
              if c.state = .fault then c
              else if c.known = true ∧ c.pos ≤ g.span then
                if g.sweep then enters .sweepUp c'
                else enters .track { c' with filt := 16 * c.pos, target := c.pos }
              else
                { c' with state := .homing, known := false, resume := none, homing := g.span + 200
                          forced := none, fault := .none }
        t.run.tables = new.working ∧ t.run.mc.disabledCount = count ∧
          t.run.flags.configFault = decide (count ≠ 0) ∧ t.run.mu.storeDiffers = false ∧
          t.dtu.params = new.params ∧ t.dtu.paramState = new.drive.workState ∧
          t.run.mc.validation = none ∧ t.run.mismatch = none ∧ t.run.flags.speedMismatch = false ∧
          t.run.iu.sampling = true ∧
          (∀ n low long role, n < 16 → entryAt new.inputs n = some (.switch low long role) →
            debounceAt t n = { active := levels.getLsbD n != low, count := 0 }) ∧
          (∀ code, entryAt new.inputs 0 = some (.supply code) → t.run.iu.code = code) ∧
          (entryAt new.inputs 0 = none → t.run.iu.code = 8) ∧
          (t.run.iu.low = 0 ∧ t.run.iu.lowClear = 0 ∧ t.run.iu.high = 0 ∧ t.run.iu.highClear = 0) ∧
          t.run.cu.evaluating = true ∧ t.run.cu.recs.length = 64 ∧
          t.run.gu.channels.length = s.run.gu.channels.length ∧
          (∀ (n : Nat) (c : Channel), s.run.gu.channels[n]? = some c → t.run.gu.channels[n]? = some (placed n c)) ∧
          t.run.flags.gaugeFault = (t.run.gu.channels.any fun c => decide (c.state = .fault)) ∧
          t.run.tu.lampCheck =
            (if t.dtu.params.cluster = 0 then none else some (100 * t.dtu.params.cluster)) ∧
          t.run.mc.lampCheckEnded = decide (t.dtu.params.cluster = 0) ∧
          t.run.mc.gaugesStarted = t.run.gu.channels.all channelStarted) ∧
      (t.run.mc.gaugesStarted = true → t.run.mc.lampCheckEnded = true →
        t.mode = .run ∧ t.phase = .none ∧ NoticeStands .status t) ∧
      (t.run.mc.gaugesStarted = false ∨ t.run.mc.lampCheckEnded = false →
        t.mode = .startup ∧ t.phase = .gaugesAndLamps) ∧
      (∀ n r, t.run.tu.lamps[n]? = some r → (r.output = true ↔ LampLit t n r)) ∧
      NoticeStands .telltale t ∧ NoticeStands .drivetime t ∧
      t.store = s.store ∧ t.nodeAddress = s.nodeAddress ∧ t.din0 = s.din0 ∧ t.run.vli = s.run.vli ∧
      t.run.dli = s.run.dli ∧ t.run.queues.vtq = s.run.queues.vtq ∧
      t.run.queues.drq = s.run.queues.drq ∧ ∀ k, k ≤ 160 → signalAt t k = signalAt s k

/-- Section 9.8, section 9.9: LEAVE SERVICE starts a validation and stays in EXECUTING; the first failing
entry ends it with REFUSED_TABLE, in SERVICE; a validation that passes restarts the run domain under the new
tables, in RUN, with what survives the restart, and is answered OK; an attempt and a display frame in flight
are stopped, and the line is measured on. That the display wire's recessive is counted from the stop is read
by inference (DEDUCED, notes/assumptions/12.md). -/
def Obligations.LeaveServiceValidatesAndRestarts : Prop :=
  ∀ (s : State) (cmd : Command), InHand s .leaveService cmd →
    let e : QEntry :=
      { frame0 := replyTo s cmd [0#8], frame1 := none, origin := .resultReply, inFlight := false
        part := 0, attempted := false, errors := 0 }
    (s.run.mc.validation = none →
      exec .leaveService s = .next { s with run.mc.validation := some 37500 }) ∧
    (due s = false → s.run.mc.validation.isSome = true →
      (∀ table i more, (validate s.store).failures = (table, i) :: more → ∃ t,
        exec .leaveServiceValidationFail s = .next t ∧
          Replied { s with run.mc.validation := none } t cmd [4#8, byteOf table.code, byteOf i] none) ∧
      ∀ levels : BitVec 16, (validate s.store).failures = [] →
        let new := validate s.store
        ∃ t, exec (.leaveServiceRestart levels) s = .next t ∧
          (t.mode = .run ∧ t.run.tables = new.working ∧ t.run.mc.disabledCount = 0 ∧
            t.dtu.params = new.params ∧ t.run.mu.storeDiffers = false ∧
            t.run.flags = { Flags.initial with relayOverflow := s.run.flags.relayOverflow
                                               addressConflict := s.run.flags.addressConflict } ∧
            (∀ (n : Nat) (c : Channel), s.run.gu.channels[n]? = some c → ∃ c', t.run.gu.channels[n]? = some c' ∧
              match entryAt new.gauges n with
              | none => c'.state = .atRest ∧ c'.known = false
              | some g =>
                  if c.known = true ∧ c.pos ≤ g.span then
                    c'.state = .track ∧ c'.known = true ∧ c'.pos = c.pos ∧ c'.target = c.pos ∧
                      c'.filt = 16 * c.pos ∧ c'.forced = none
                  else c'.state = .homing ∧ c'.known = false ∧ c'.homing = g.span + 200) ∧
            (∀ k, k ≤ 160 → signalAt t k = { value := 0, status := .never }) ∧
            (∀ r ∈ t.run.tu.lamps, r.load = .ok ∧ r.forced = none) ∧
            t.run.tu.lampCheck = none ∧ t.run.tu.chime = { playing := none, queue := [] } ∧
            t.run.tu.blink = s.run.tu.blink ∧ t.run.iu.sampling = true ∧
            t.run.cu.evaluating = true) ∧
        t.run.queues.drq = [] ∧
        (let v := s.run.vli
          let waits : Iface := { v.iface with rx := .errorWait, buffer := [], bits := 0, binding := none }
          t.run.vli = { v with sending := none, stuckTimer := 0, test := .off
                               iface := if v.sending.isSome ∨ v.iface.rx = .stuck then waits else v.iface }) ∧
        t.run.dli =
          { s.run.dli with sending := none
                           recessive := if s.run.dli.sending.isSome then 0 else s.run.dli.recessive } ∧
        t.run.mu = { s.run.mu with phase := .replyQueued, busyQueued := false, storeDiffers := false } ∧
        (cmd.link = .vehicle → t.run.queues.vtq = [e] ∧ repliesOf t.run.queues.duq = []) ∧
        (cmd.link = .display → t.run.queues.vtq = [] ∧ repliesOf t.run.queues.duq = [e]) ∧
        NoticeStands .telltale t ∧ NoticeStands .status t ∧ t.store = s.store ∧
        t.nodeAddress = s.nodeAddress ∧ t.din0 = s.din0)

/-! ## The block as a whole -/

/-- A step runs the command at the front of the queue on the queue's rest (notes/assumptions/4.md). On an
empty queue it takes the steps that are due (notes/assumptions/2.md) or, with none due, lets 1 ms pass: the
timers that run count down, the display link's undriven transmit wire is at rest, and nothing else changes
(notes/assumptions/3.md, 11.md). The three are the model's own
choices; section 4.4 of the scope tells behaviour as the response to one event. -/
def Obligations.StepTakesTheFrontCommand : Prop :=
  (∀ (c : Instr) (s : State), step { s with pending := c :: s.pending } = exec c s) ∧
    (∀ s : State, s.pending = [] → due s = true → step s = .next (settle s)) ∧
    ∀ s : State, s.pending = [] → due s = false → ∃ t, step s = .next t ∧
      t.shutdownTimer = s.shutdownTimer.map (· - 1) ∧ t.dtu = { s.dtu with timer := s.dtu.timer - 1 } ∧
      t.mode = s.mode ∧ t.phase = s.phase ∧ t.nodeAddress = s.nodeAddress ∧ t.din0 = s.din0 ∧
      t.store = s.store ∧ t.pending = [] ∧ t.run.flags = s.run.flags ∧ t.run.queues = s.run.queues ∧
      t.run.signals = s.run.signals ∧ t.run.gu.channels = s.run.gu.channels ∧ t.run.mu = s.run.mu ∧
      t.run.tu.lamps = s.run.tu.lamps ∧ t.run.vli = s.run.vli ∧ (s.mode = .standby → t.run = s.run) ∧
      (s.mode ≠ .standby → t.run.dli =
        if s.run.dli.sending = none then { s.run.dli with recessive := 120 } else s.run.dli)

/-- Assumption 1: every command whose operands name an event is answered with a next state, the commands
that wait left as they are; any other is refused. -/
def Obligations.CommandsAreAnswered : Prop :=
  ∀ (c : Instr) (s : State),
    (c.wellFormed = true → ∃ t, exec c s = .next t ∧ t.pending = s.pending) ∧
      (c.wellFormed = false → exec c s = .refused .illFormed)

/-- Section 10.4, section 9.1, section 9.5: the store changes only by a WRITE ENTRY in hand, in SERVICE; the
node address only by a keep-alive reset; the working record and the tables only by the end of a STARTUP or
LEAVE SERVICE validation, a keep-alive reset, or the run domain's going down or coming up. -/
def Obligations.OwnedStateHasOneWriter : Prop :=
  ∀ (c : Instr) (s t : State), exec c s = .next t →
    let validates := (∃ l, c = .validationComplete l) ∨ (∃ l, c = .leaveServiceRestart l)
    (t.store ≠ s.store → s.mode = .service ∧ ∃ cmd, InHand s .writeEntry cmd) ∧
      (t.nodeAddress ≠ s.nodeAddress → ∃ straps, c = .keepAliveReset straps) ∧
      (t.dtu.params ≠ s.dtu.params → validates ∨ ∃ straps, c = .keepAliveReset straps) ∧
      (due s = false → s.mode ≠ .standby → t.mode ≠ .standby →
        t.run.tables.signals ≠ s.run.tables.signals ∨ t.run.tables.gauges ≠ s.run.tables.gauges ∨
          t.run.tables.lamps ≠ s.run.tables.lamps ∨ t.run.tables.inputs ≠ s.run.tables.inputs →
        validates)

/-- Section 9.1, section 9.2: the part right after a keep-alive reset is in STANDBY with nothing bound,
counted or logged and F12 set, and it keeps every law stated below (the
unpowered run domain's stand-in is the model's choice, notes/assumptions/7.md). -/
def Obligations.ResetKeepsEveryLaw : Prop :=
  let s := State.reset
  s.mode = .standby ∧ s.shutdownTimer = none ∧ s.run = Run.unpowered ∧ s.dtu.unsynced = true ∧
    s.dtu.minutes = 0 ∧ s.dtu.seq = 0 ∧ s.dtu.drivers = [] ∧ s.dtu.slot1 = none ∧ s.dtu.slot2 = none ∧
    s.dtu.log = [] ∧ s.dtu.params = DriveParams.defaults ∧ s.din0.level = .undecided ∧ s.din0.count = 0 ∧
    storeWf s.store = true ∧ ShapeLaw s ∧ PowerLaw s ∧ InterlockLaw s ∧ DriverLaw s.dtu ∧ LogLaw s.dtu ∧
    QueueLaw s ∧ AlertLaw s.run.tu.alerts ∧ LatchLaw s ∧ SignalLaw s ∧ FlagLaw s ∧ SupplyLaw s ∧ LampLaw s ∧ PointerLaw s

/-- The Table Store keeps its canonical form, the records keep their numbers, and in STANDBY the run domain
is unpowered (the erased byte and what stands for the unpowered domain are the model's choices,
notes/assumptions/5.md and 7.md). R33's law of the Signal Store is kept too, but by the end of a STARTUP
validation only where no frame signal has been written: after a STARTUP from SHUTDOWN the store keeps values
that the new limits need not admit (notes/assumptions/14.md). -/
def Obligations.FormIsKept : Prop :=
  ∀ s t : State, step s = .next t →
    (storeWf s.store = true → storeWf t.store = true) ∧ (ShapeLaw s → ShapeLaw t) ∧
      (PowerLaw s → PowerLaw t) ∧
      ((∀ levels rest, s.pending ≠ .validationComplete levels :: rest) ∨
          (∀ k, k < 160 → (signalAt s k).status = .never) →
        DriverLaw s.dtu → SignalLaw s → SignalLaw t)

/-- R108's laws of the Driver Accounting Table and the slots, R120's of the stages; and what a card event
(section 6.3) makes of the table, the slots and the Activity Log, row by row and case by case. -/
def Obligations.DriverTableLawIsKept : Prop :=
  (∀ s t : State, step s = .next t → DriverLaw s.dtu → DriverLaw t.dtu) ∧
    ∀ (s : State) (slot i p : Nat), slot = 1 ∨ slot = 2 → powered s = true → DriverLaw s.dtu →
      let params := s.dtu.params
      let names := if slot = 1 then params.digest1 else params.digest2
      (if slot = 1 then params.presence1 else params.presence2) = some p → i = p ∨ names = some i →
      let t := cardEvent slot i s
      let e := signalAt s p
      let readable := e.status = .valid ∨ e.status = .clamped
      let digest (d : Nat) := ∃ k v, names = some k ∧ usableAt s k = some v ∧ v = (d : Int) ∧ d ≤ 65535
      let bound (slot : Nat) (x : Dtu) := if slot = 1 then x.slot1 else x.slot2
      let held (d : Nat) := s.dtu.drivers.find? fun r => decide (r.digest = d)
      let unbound := (bound slot s.dtu).elim s.dtu fun d =>
        (held d).elim s.dtu fun r => (s.dtu.slotTo slot none).logged .cardOut (some slot) r
      (e.status = .stale ∨ e.status = .never → t = s) ∧
        (readable → e.value ≠ 0 → (∀ d, ¬ digest d) → t = s) ∧
        (e.status = .notAvailable ∨ e.status = .errorCode ∨ (readable ∧ e.value = 0) →
          (bound slot s.dtu = none → t = s) ∧ (bound slot s.dtu ≠ none → CardTaken s unbound t)) ∧
        (readable → e.value ≠ 0 → ∀ d, digest d →
          (bound slot s.dtu = some d → t = s) ∧
          (bound slot s.dtu ≠ some d →
            let minutes := s.dtu.minutes
            let present (x : Dtu) : Dtu :=
              { (x.slotTo slot (some d)) with drivers := x.drivers.map fun r =>
                  if r.digest = d then { r with lastPresent := minutes } else r }
            (∀ r, held d = some r →
              (bound (3 - slot) s.dtu ≠ some d →
                CardTaken s ((present unbound).logged .cardIn (some slot) r) t) ∧
              (bound (3 - slot) s.dtu = some d →
                let moved := (unbound.slotTo (3 - slot) none).logged .cardOut (some (3 - slot)) r
                CardTaken s ((present moved).logged .cardIn (some slot) r) t)) ∧
            (held d = none → ∃ r : Driver, AssessedLaw params r ∧
              r = { digest := d, cont := 0, daily := 0, pauseRun := 0, restRun := 0, splitDone := false
                    synced := false, lastPresent := minutes, activity := .none, inferred := false
                    remaining := r.remaining, stage := r.stage } ∧
              let enters (x : Dtu) : Dtu :=
                ({ (x.slotTo slot (some d)) with drivers := x.drivers ++ [r] }).logged .cardIn (some slot) r
              (s.dtu.drivers.length < 4 → CardTaken s (enters unbound) t) ∧
              (s.dtu.drivers.length = 4 →
                let free (x : Driver) := x ∈ s.dtu.drivers ∧ unbound.slot1 ≠ some x.digest ∧
                  unbound.slot2 ≠ some x.digest
                let age (x : Driver) := (minutes + 16777216 - x.lastPresent) % 16777216
                ∃ old, free old ∧
                  (∀ x, free x → age x < age old ∨ (age x = age old ∧ old.digest ≤ x.digest)) ∧
                  let kept := s.dtu.drivers.filter fun x => decide (x.digest ≠ old.digest)
                  let room : Dtu := { unbound with drivers := kept }
                  CardTaken s (enters (room.logged .recordEvicted none old)) t))))

/-- R115's and R123's laws of the minute counter, the Activity Log and the sequence counter. -/
def Obligations.ActivityLogLawIsKept : Prop :=
  ∀ s t : State, step s = .next t → LogLaw s.dtu → LogLaw t.dtu

/-- R14, R15, R18, R175 and R176's laws of the transmit queues. -/
def Obligations.QueueLawIsKept : Prop :=
  ∀ s t : State, step s = .next t → QueueLaw s → QueueLaw t

/-- R92's law of the Alert List, and R70's: a condition is LATCHED only while an unacknowledged entry stands
for it. -/
def Obligations.AlertListLawIsKept : Prop :=
  ∀ s t : State, step s = .next t →
    (AlertLaw s.run.tu.alerts → AlertLaw t.run.tu.alerts) ∧ (LatchLaw s → LatchLaw t)

/-- The flags follow what they report (R10, R55, R90, R163, R166, R167), in a state that keeps the power
law, which every step keeps. The clause that every route entry is unused while a STARTUP validation runs, a
disabled one too, says more than R1's "no route is active": it is the model's choice (notes/assumptions/14.md;
15.md after a run-domain reset). -/
def Obligations.FlagLawIsKept : Prop :=
  ∀ s t : State, step s = .next t → PowerLaw s → FlagLaw s → FlagLaw t

/-- R167's law: in SERVICE the park brake is on, and no usable road speed is above 50, that is 0.50 km/h. -/
def Obligations.InterlockLawIsKept : Prop :=
  ∀ s t : State, step s = .next t → InterlockLaw s → InterlockLaw t

/-- R56's and R101's laws: what the supply flags and SHUTDOWN hold still; and R98's order of the chime queue. -/
def Obligations.SupplyLawIsKept : Prop :=
  ∀ s t : State, step s = .next t → SupplyLaw s → SupplyLaw t

/-- R82, R84 and R86's laws: requests, alarm-blink and outputs follow the conditions, the Alert List and the
circumstances. -/
def Obligations.LampLawIsKept : Prop :=
  ∀ s t : State, step s = .next t → LampLaw s → LampLaw t

/-- R47: stage 7, and its law: while a position is known it lies in 0 to the span, and it changes only at a
gauge update event, by at most the rate limit. -/
def Obligations.PointerLawIsKept : Prop :=
  (∀ (pos filt : Int) (rate span : Nat),
      let dp := (filt + 8) / 16
      commandMove pos filt rate = pos + max (-(rate : Int)) (min rate (dp - pos)) ∧
        (0 ≤ filt → filt ≤ 16 * span → 0 ≤ dp ∧ dp ≤ span ∧
          min pos dp ≤ commandMove pos filt rate ∧ commandMove pos filt rate ≤ max pos dp)) ∧
    ∀ s t : State, step s = .next t → PointerLaw s → PointerLaw t ∧
      ∀ n g, gaugeAt s n = some g → (channelAt s n).known = true → (channelAt t n).known = true →
        |(channelAt t n).pos - (channelAt s n).pos| ≤ g.rate ∧
          ((∀ sense, s.pending.head? ≠ some (.gaugeUpdate sense)) →
            (channelAt t n).pos = (channelAt s n).pos)

end
end

