-- ==== Sys2Proof/Laws/Lists.lean ====
section
/-! SUPPORT. Laws/Lists.lean: what the list operations of Machine/Ops.lean do, said once. -/

namespace Sys2Proof.Machine

@[simp] theorem updAt_length {α : Type} (l : List α) (i : Nat) (f : α → α) :
    (updAt l i f).length = l.length := by
  induction l generalizing i with
  | nil => rfl
  | cons x xs ih => cases i <;> simp [updAt, ih]

/-- `updAt` changes place `i` alone. -/
theorem updAt_getElem? {α : Type} (l : List α) (i j : Nat) (f : α → α) :
    (updAt l i f)[j]? = if j = i then l[j]?.map f else l[j]? := by
  induction l generalizing i j with
  | nil => simp [updAt]
  | cons x xs ih =>
    cases i with
    | zero => cases j <;> simp [updAt]
    | succ i => cases j <;> simp [updAt, ih]

/-- Reading place `j` after an update of place `i`. -/
theorem updAt_getD {α : Type} (l : List α) (i j : Nat) (f : α → α) (d : α) :
    (updAt l i f).getD j d = if j = i ∧ j < l.length then f (l.getD j d) else l.getD j d := by
  simp only [List.getD_eq_getElem?_getD, updAt_getElem?]
  by_cases h : j = i
  · by_cases hl : j < l.length
    · rw [if_pos h, if_pos ⟨h, hl⟩]; simp [hl]
    · rw [if_pos h, if_neg fun c => hl c.2]; simp [List.getElem?_eq_none (Nat.le_of_not_lt hl)]
  · rw [if_neg h, if_neg fun c => h c.1]

@[simp] theorem mapFrom_length {α β : Type} (f : Nat → α → β) (i : Nat) (l : List α) :
    (mapFrom f i l).length = l.length := by
  induction l generalizing i with
  | nil => rfl
  | cons x xs ih => simp [mapFrom, ih]

/-- `mapFrom` applies the function to each element with its place. -/
theorem mapFrom_getElem? {α β : Type} (f : Nat → α → β) (i j : Nat) (l : List α) :
    (mapFrom f i l)[j]? = l[j]?.map (f (i + j)) := by
  induction l generalizing i j with
  | nil => simp [mapFrom]
  | cons x xs ih =>
    cases j with
    | zero => simp [mapFrom]
    | succ j => simp [mapFrom, ih, Nat.add_assoc, Nat.add_comm 1 j]

/-- An element of `mapFrom` comes from an element of the list. -/
theorem mem_mapFrom {α β : Type} {f : Nat → α → β} {i : Nat} {l : List α} {y : β}
    (h : y ∈ mapFrom f i l) : ∃ j x, x ∈ l ∧ y = f j x := by
  induction l generalizing i with
  | nil => simp [mapFrom] at h
  | cons x xs ih =>
    simp only [mapFrom, List.mem_cons] at h
    rcases h with rfl | h
    · exact ⟨i, x, by simp, rfl⟩
    · obtain ⟨j, z, hz, rfl⟩ := ih h
      exact ⟨j, z, by simp [hz], rfl⟩

theorem dropFirst_sublist {α : Type} (p : α → Bool) (l : List α) : (dropFirst p l).Sublist l := by
  induction l with
  | nil => simp [dropFirst]
  | cons x xs ih =>
    simp only [dropFirst]
    split
    · simp
    · exact ih.cons_cons x

/-- `dropFirst` takes one element out when one satisfies `p`. -/
theorem dropFirst_length {α : Type} {p : α → Bool} {l : List α} (h : l.any p = true) :
    (dropFirst p l).length + 1 = l.length := by
  induction l with
  | nil => simp at h
  | cons x xs ih =>
    simp only [dropFirst]
    split
    · rfl
    · rename_i hx
      simp only [List.any_cons, Bool.or_eq_true] at h
      rcases h with h | h
      · exact absurd h hx
      · simpa using ih h

end Sys2Proof.Machine
end

