-- ==== Sys2Proof/Laws/State.lean ====
section
/-! SUPPORT. Laws/State.lean: one lemma for each field that a named update of the state leaves alone, and
the value of the one it writes. -/

namespace Sys2Proof.Machine

@[simp] theorem putSignal_mode (s : State) (i : Nat) (e : SigEntry) : (putSignal s i e).mode = s.mode := rfl
@[simp] theorem putSignal_phase (s : State) (i : Nat) (e : SigEntry) : (putSignal s i e).phase = s.phase := rfl
@[simp] theorem putSignal_shutdownTimer (s : State) (i : Nat) (e : SigEntry) : (putSignal s i e).shutdownTimer = s.shutdownTimer := rfl
@[simp] theorem putSignal_nodeAddress (s : State) (i : Nat) (e : SigEntry) : (putSignal s i e).nodeAddress = s.nodeAddress := rfl
@[simp] theorem putSignal_din0 (s : State) (i : Nat) (e : SigEntry) : (putSignal s i e).din0 = s.din0 := rfl
@[simp] theorem putSignal_dtu (s : State) (i : Nat) (e : SigEntry) : (putSignal s i e).dtu = s.dtu := rfl
@[simp] theorem putSignal_store (s : State) (i : Nat) (e : SigEntry) : (putSignal s i e).store = s.store := rfl
@[simp] theorem putSignal_pending (s : State) (i : Nat) (e : SigEntry) : (putSignal s i e).pending = s.pending := rfl
@[simp] theorem putSignal_flags (s : State) (i : Nat) (e : SigEntry) : (putSignal s i e).run.flags = s.run.flags := rfl
@[simp] theorem putSignal_tables (s : State) (i : Nat) (e : SigEntry) : (putSignal s i e).run.tables = s.run.tables := rfl
@[simp] theorem putSignal_queues (s : State) (i : Nat) (e : SigEntry) : (putSignal s i e).run.queues = s.run.queues := rfl
@[simp] theorem putSignal_vli (s : State) (i : Nat) (e : SigEntry) : (putSignal s i e).run.vli = s.run.vli := rfl
@[simp] theorem putSignal_dli (s : State) (i : Nat) (e : SigEntry) : (putSignal s i e).run.dli = s.run.dli := rfl
@[simp] theorem putSignal_signals (s : State) (i : Nat) (e : SigEntry) : (putSignal s i e).run.signals = updAt s.run.signals i fun _ => e := rfl
@[simp] theorem putSignal_gu (s : State) (i : Nat) (e : SigEntry) : (putSignal s i e).run.gu = s.run.gu := rfl
@[simp] theorem putSignal_cu (s : State) (i : Nat) (e : SigEntry) : (putSignal s i e).run.cu = s.run.cu := rfl
@[simp] theorem putSignal_tu (s : State) (i : Nat) (e : SigEntry) : (putSignal s i e).run.tu = s.run.tu := rfl
@[simp] theorem putSignal_iu (s : State) (i : Nat) (e : SigEntry) : (putSignal s i e).run.iu = s.run.iu := rfl
@[simp] theorem putSignal_mc (s : State) (i : Nat) (e : SigEntry) : (putSignal s i e).run.mc = s.run.mc := rfl
@[simp] theorem putSignal_mu (s : State) (i : Nat) (e : SigEntry) : (putSignal s i e).run.mu = s.run.mu := rfl
@[simp] theorem putSignal_mismatch (s : State) (i : Nat) (e : SigEntry) : (putSignal s i e).run.mismatch = s.run.mismatch := rfl

@[simp] theorem putCondRec_mode (s : State) (j : Nat) (r : CondRec) : (putCondRec s j r).mode = s.mode := rfl
@[simp] theorem putCondRec_phase (s : State) (j : Nat) (r : CondRec) : (putCondRec s j r).phase = s.phase := rfl
@[simp] theorem putCondRec_shutdownTimer (s : State) (j : Nat) (r : CondRec) : (putCondRec s j r).shutdownTimer = s.shutdownTimer := rfl
@[simp] theorem putCondRec_nodeAddress (s : State) (j : Nat) (r : CondRec) : (putCondRec s j r).nodeAddress = s.nodeAddress := rfl
@[simp] theorem putCondRec_din0 (s : State) (j : Nat) (r : CondRec) : (putCondRec s j r).din0 = s.din0 := rfl
@[simp] theorem putCondRec_dtu (s : State) (j : Nat) (r : CondRec) : (putCondRec s j r).dtu = s.dtu := rfl
@[simp] theorem putCondRec_store (s : State) (j : Nat) (r : CondRec) : (putCondRec s j r).store = s.store := rfl
@[simp] theorem putCondRec_pending (s : State) (j : Nat) (r : CondRec) : (putCondRec s j r).pending = s.pending := rfl
@[simp] theorem putCondRec_flags (s : State) (j : Nat) (r : CondRec) : (putCondRec s j r).run.flags = s.run.flags := rfl
@[simp] theorem putCondRec_tables (s : State) (j : Nat) (r : CondRec) : (putCondRec s j r).run.tables = s.run.tables := rfl
@[simp] theorem putCondRec_queues (s : State) (j : Nat) (r : CondRec) : (putCondRec s j r).run.queues = s.run.queues := rfl
@[simp] theorem putCondRec_vli (s : State) (j : Nat) (r : CondRec) : (putCondRec s j r).run.vli = s.run.vli := rfl
@[simp] theorem putCondRec_dli (s : State) (j : Nat) (r : CondRec) : (putCondRec s j r).run.dli = s.run.dli := rfl
@[simp] theorem putCondRec_signals (s : State) (j : Nat) (r : CondRec) : (putCondRec s j r).run.signals = s.run.signals := rfl
@[simp] theorem putCondRec_gu (s : State) (j : Nat) (r : CondRec) : (putCondRec s j r).run.gu = s.run.gu := rfl
@[simp] theorem putCondRec_tu (s : State) (j : Nat) (r : CondRec) : (putCondRec s j r).run.tu = s.run.tu := rfl
@[simp] theorem putCondRec_iu (s : State) (j : Nat) (r : CondRec) : (putCondRec s j r).run.iu = s.run.iu := rfl
@[simp] theorem putCondRec_mc (s : State) (j : Nat) (r : CondRec) : (putCondRec s j r).run.mc = s.run.mc := rfl
@[simp] theorem putCondRec_mu (s : State) (j : Nat) (r : CondRec) : (putCondRec s j r).run.mu = s.run.mu := rfl
@[simp] theorem putCondRec_mismatch (s : State) (j : Nat) (r : CondRec) : (putCondRec s j r).run.mismatch = s.run.mismatch := rfl

@[simp] theorem updChannel_mode (n : Nat) (f : Channel → Channel) (s : State) : (updChannel n f s).mode = s.mode := rfl
@[simp] theorem updChannel_phase (n : Nat) (f : Channel → Channel) (s : State) : (updChannel n f s).phase = s.phase := rfl
@[simp] theorem updChannel_shutdownTimer (n : Nat) (f : Channel → Channel) (s : State) : (updChannel n f s).shutdownTimer = s.shutdownTimer := rfl
@[simp] theorem updChannel_nodeAddress (n : Nat) (f : Channel → Channel) (s : State) : (updChannel n f s).nodeAddress = s.nodeAddress := rfl
@[simp] theorem updChannel_din0 (n : Nat) (f : Channel → Channel) (s : State) : (updChannel n f s).din0 = s.din0 := rfl
@[simp] theorem updChannel_dtu (n : Nat) (f : Channel → Channel) (s : State) : (updChannel n f s).dtu = s.dtu := rfl
@[simp] theorem updChannel_store (n : Nat) (f : Channel → Channel) (s : State) : (updChannel n f s).store = s.store := rfl
@[simp] theorem updChannel_pending (n : Nat) (f : Channel → Channel) (s : State) : (updChannel n f s).pending = s.pending := rfl
@[simp] theorem updChannel_flags (n : Nat) (f : Channel → Channel) (s : State) : (updChannel n f s).run.flags = s.run.flags := rfl
@[simp] theorem updChannel_tables (n : Nat) (f : Channel → Channel) (s : State) : (updChannel n f s).run.tables = s.run.tables := rfl
@[simp] theorem updChannel_queues (n : Nat) (f : Channel → Channel) (s : State) : (updChannel n f s).run.queues = s.run.queues := rfl
@[simp] theorem updChannel_vli (n : Nat) (f : Channel → Channel) (s : State) : (updChannel n f s).run.vli = s.run.vli := rfl
@[simp] theorem updChannel_dli (n : Nat) (f : Channel → Channel) (s : State) : (updChannel n f s).run.dli = s.run.dli := rfl
@[simp] theorem updChannel_signals (n : Nat) (f : Channel → Channel) (s : State) : (updChannel n f s).run.signals = s.run.signals := rfl
@[simp] theorem updChannel_cu (n : Nat) (f : Channel → Channel) (s : State) : (updChannel n f s).run.cu = s.run.cu := rfl
@[simp] theorem updChannel_tu (n : Nat) (f : Channel → Channel) (s : State) : (updChannel n f s).run.tu = s.run.tu := rfl
@[simp] theorem updChannel_iu (n : Nat) (f : Channel → Channel) (s : State) : (updChannel n f s).run.iu = s.run.iu := rfl
@[simp] theorem updChannel_mc (n : Nat) (f : Channel → Channel) (s : State) : (updChannel n f s).run.mc = s.run.mc := rfl
@[simp] theorem updChannel_mu (n : Nat) (f : Channel → Channel) (s : State) : (updChannel n f s).run.mu = s.run.mu := rfl
@[simp] theorem updChannel_mismatch (n : Nat) (f : Channel → Channel) (s : State) : (updChannel n f s).run.mismatch = s.run.mismatch := rfl

@[simp] theorem mapChannels_mode (f : Nat → Channel → Channel) (s : State) : (mapChannels f s).mode = s.mode := rfl
@[simp] theorem mapChannels_phase (f : Nat → Channel → Channel) (s : State) : (mapChannels f s).phase = s.phase := rfl
@[simp] theorem mapChannels_shutdownTimer (f : Nat → Channel → Channel) (s : State) : (mapChannels f s).shutdownTimer = s.shutdownTimer := rfl
@[simp] theorem mapChannels_nodeAddress (f : Nat → Channel → Channel) (s : State) : (mapChannels f s).nodeAddress = s.nodeAddress := rfl
@[simp] theorem mapChannels_din0 (f : Nat → Channel → Channel) (s : State) : (mapChannels f s).din0 = s.din0 := rfl
@[simp] theorem mapChannels_dtu (f : Nat → Channel → Channel) (s : State) : (mapChannels f s).dtu = s.dtu := rfl
@[simp] theorem mapChannels_store (f : Nat → Channel → Channel) (s : State) : (mapChannels f s).store = s.store := rfl
@[simp] theorem mapChannels_pending (f : Nat → Channel → Channel) (s : State) : (mapChannels f s).pending = s.pending := rfl
@[simp] theorem mapChannels_flags (f : Nat → Channel → Channel) (s : State) : (mapChannels f s).run.flags = s.run.flags := rfl
@[simp] theorem mapChannels_tables (f : Nat → Channel → Channel) (s : State) : (mapChannels f s).run.tables = s.run.tables := rfl
@[simp] theorem mapChannels_queues (f : Nat → Channel → Channel) (s : State) : (mapChannels f s).run.queues = s.run.queues := rfl
@[simp] theorem mapChannels_vli (f : Nat → Channel → Channel) (s : State) : (mapChannels f s).run.vli = s.run.vli := rfl
@[simp] theorem mapChannels_dli (f : Nat → Channel → Channel) (s : State) : (mapChannels f s).run.dli = s.run.dli := rfl
@[simp] theorem mapChannels_signals (f : Nat → Channel → Channel) (s : State) : (mapChannels f s).run.signals = s.run.signals := rfl
@[simp] theorem mapChannels_cu (f : Nat → Channel → Channel) (s : State) : (mapChannels f s).run.cu = s.run.cu := rfl
@[simp] theorem mapChannels_tu (f : Nat → Channel → Channel) (s : State) : (mapChannels f s).run.tu = s.run.tu := rfl
@[simp] theorem mapChannels_iu (f : Nat → Channel → Channel) (s : State) : (mapChannels f s).run.iu = s.run.iu := rfl
@[simp] theorem mapChannels_mc (f : Nat → Channel → Channel) (s : State) : (mapChannels f s).run.mc = s.run.mc := rfl
@[simp] theorem mapChannels_mu (f : Nat → Channel → Channel) (s : State) : (mapChannels f s).run.mu = s.run.mu := rfl
@[simp] theorem mapChannels_mismatch (f : Nat → Channel → Channel) (s : State) : (mapChannels f s).run.mismatch = s.run.mismatch := rfl

@[simp] theorem updLamp_mode (n : Nat) (f : LampRec → LampRec) (s : State) : (updLamp n f s).mode = s.mode := rfl
@[simp] theorem updLamp_phase (n : Nat) (f : LampRec → LampRec) (s : State) : (updLamp n f s).phase = s.phase := rfl
@[simp] theorem updLamp_shutdownTimer (n : Nat) (f : LampRec → LampRec) (s : State) : (updLamp n f s).shutdownTimer = s.shutdownTimer := rfl
@[simp] theorem updLamp_nodeAddress (n : Nat) (f : LampRec → LampRec) (s : State) : (updLamp n f s).nodeAddress = s.nodeAddress := rfl
@[simp] theorem updLamp_din0 (n : Nat) (f : LampRec → LampRec) (s : State) : (updLamp n f s).din0 = s.din0 := rfl
@[simp] theorem updLamp_dtu (n : Nat) (f : LampRec → LampRec) (s : State) : (updLamp n f s).dtu = s.dtu := rfl
@[simp] theorem updLamp_store (n : Nat) (f : LampRec → LampRec) (s : State) : (updLamp n f s).store = s.store := rfl
@[simp] theorem updLamp_pending (n : Nat) (f : LampRec → LampRec) (s : State) : (updLamp n f s).pending = s.pending := rfl
@[simp] theorem updLamp_flags (n : Nat) (f : LampRec → LampRec) (s : State) : (updLamp n f s).run.flags = s.run.flags := rfl
@[simp] theorem updLamp_tables (n : Nat) (f : LampRec → LampRec) (s : State) : (updLamp n f s).run.tables = s.run.tables := rfl
@[simp] theorem updLamp_queues (n : Nat) (f : LampRec → LampRec) (s : State) : (updLamp n f s).run.queues = s.run.queues := rfl
@[simp] theorem updLamp_vli (n : Nat) (f : LampRec → LampRec) (s : State) : (updLamp n f s).run.vli = s.run.vli := rfl
@[simp] theorem updLamp_dli (n : Nat) (f : LampRec → LampRec) (s : State) : (updLamp n f s).run.dli = s.run.dli := rfl
@[simp] theorem updLamp_signals (n : Nat) (f : LampRec → LampRec) (s : State) : (updLamp n f s).run.signals = s.run.signals := rfl
@[simp] theorem updLamp_gu (n : Nat) (f : LampRec → LampRec) (s : State) : (updLamp n f s).run.gu = s.run.gu := rfl
@[simp] theorem updLamp_cu (n : Nat) (f : LampRec → LampRec) (s : State) : (updLamp n f s).run.cu = s.run.cu := rfl
@[simp] theorem updLamp_iu (n : Nat) (f : LampRec → LampRec) (s : State) : (updLamp n f s).run.iu = s.run.iu := rfl
@[simp] theorem updLamp_mc (n : Nat) (f : LampRec → LampRec) (s : State) : (updLamp n f s).run.mc = s.run.mc := rfl
@[simp] theorem updLamp_mu (n : Nat) (f : LampRec → LampRec) (s : State) : (updLamp n f s).run.mu = s.run.mu := rfl
@[simp] theorem updLamp_mismatch (n : Nat) (f : LampRec → LampRec) (s : State) : (updLamp n f s).run.mismatch = s.run.mismatch := rfl

@[simp] theorem updRoute_mode (n : Nat) (f : LiveRoute → LiveRoute) (s : State) : (updRoute n f s).mode = s.mode := rfl
@[simp] theorem updRoute_phase (n : Nat) (f : LiveRoute → LiveRoute) (s : State) : (updRoute n f s).phase = s.phase := rfl
@[simp] theorem updRoute_shutdownTimer (n : Nat) (f : LiveRoute → LiveRoute) (s : State) : (updRoute n f s).shutdownTimer = s.shutdownTimer := rfl
@[simp] theorem updRoute_nodeAddress (n : Nat) (f : LiveRoute → LiveRoute) (s : State) : (updRoute n f s).nodeAddress = s.nodeAddress := rfl
@[simp] theorem updRoute_din0 (n : Nat) (f : LiveRoute → LiveRoute) (s : State) : (updRoute n f s).din0 = s.din0 := rfl
@[simp] theorem updRoute_dtu (n : Nat) (f : LiveRoute → LiveRoute) (s : State) : (updRoute n f s).dtu = s.dtu := rfl
@[simp] theorem updRoute_store (n : Nat) (f : LiveRoute → LiveRoute) (s : State) : (updRoute n f s).store = s.store := rfl
@[simp] theorem updRoute_pending (n : Nat) (f : LiveRoute → LiveRoute) (s : State) : (updRoute n f s).pending = s.pending := rfl
@[simp] theorem updRoute_flags (n : Nat) (f : LiveRoute → LiveRoute) (s : State) : (updRoute n f s).run.flags = s.run.flags := rfl
@[simp] theorem updRoute_queues (n : Nat) (f : LiveRoute → LiveRoute) (s : State) : (updRoute n f s).run.queues = s.run.queues := rfl
@[simp] theorem updRoute_vli (n : Nat) (f : LiveRoute → LiveRoute) (s : State) : (updRoute n f s).run.vli = s.run.vli := rfl
@[simp] theorem updRoute_dli (n : Nat) (f : LiveRoute → LiveRoute) (s : State) : (updRoute n f s).run.dli = s.run.dli := rfl
@[simp] theorem updRoute_signals (n : Nat) (f : LiveRoute → LiveRoute) (s : State) : (updRoute n f s).run.signals = s.run.signals := rfl
@[simp] theorem updRoute_gu (n : Nat) (f : LiveRoute → LiveRoute) (s : State) : (updRoute n f s).run.gu = s.run.gu := rfl
@[simp] theorem updRoute_cu (n : Nat) (f : LiveRoute → LiveRoute) (s : State) : (updRoute n f s).run.cu = s.run.cu := rfl
@[simp] theorem updRoute_tu (n : Nat) (f : LiveRoute → LiveRoute) (s : State) : (updRoute n f s).run.tu = s.run.tu := rfl
@[simp] theorem updRoute_iu (n : Nat) (f : LiveRoute → LiveRoute) (s : State) : (updRoute n f s).run.iu = s.run.iu := rfl
@[simp] theorem updRoute_mc (n : Nat) (f : LiveRoute → LiveRoute) (s : State) : (updRoute n f s).run.mc = s.run.mc := rfl
@[simp] theorem updRoute_mu (n : Nat) (f : LiveRoute → LiveRoute) (s : State) : (updRoute n f s).run.mu = s.run.mu := rfl
@[simp] theorem updRoute_mismatch (n : Nat) (f : LiveRoute → LiveRoute) (s : State) : (updRoute n f s).run.mismatch = s.run.mismatch := rfl

@[simp] theorem driveLamps_mode (s : State) : (driveLamps s).mode = s.mode := rfl
@[simp] theorem driveLamps_phase (s : State) : (driveLamps s).phase = s.phase := rfl
@[simp] theorem driveLamps_shutdownTimer (s : State) : (driveLamps s).shutdownTimer = s.shutdownTimer := rfl
@[simp] theorem driveLamps_nodeAddress (s : State) : (driveLamps s).nodeAddress = s.nodeAddress := rfl
@[simp] theorem driveLamps_din0 (s : State) : (driveLamps s).din0 = s.din0 := rfl
@[simp] theorem driveLamps_dtu (s : State) : (driveLamps s).dtu = s.dtu := rfl
@[simp] theorem driveLamps_store (s : State) : (driveLamps s).store = s.store := rfl
@[simp] theorem driveLamps_pending (s : State) : (driveLamps s).pending = s.pending := rfl
@[simp] theorem driveLamps_flags (s : State) : (driveLamps s).run.flags = s.run.flags := rfl
@[simp] theorem driveLamps_tables (s : State) : (driveLamps s).run.tables = s.run.tables := rfl
@[simp] theorem driveLamps_queues (s : State) : (driveLamps s).run.queues = s.run.queues := rfl
@[simp] theorem driveLamps_vli (s : State) : (driveLamps s).run.vli = s.run.vli := rfl
@[simp] theorem driveLamps_dli (s : State) : (driveLamps s).run.dli = s.run.dli := rfl
@[simp] theorem driveLamps_signals (s : State) : (driveLamps s).run.signals = s.run.signals := rfl
@[simp] theorem driveLamps_gu (s : State) : (driveLamps s).run.gu = s.run.gu := rfl
@[simp] theorem driveLamps_cu (s : State) : (driveLamps s).run.cu = s.run.cu := rfl
@[simp] theorem driveLamps_iu (s : State) : (driveLamps s).run.iu = s.run.iu := rfl
@[simp] theorem driveLamps_mc (s : State) : (driveLamps s).run.mc = s.run.mc := rfl
@[simp] theorem driveLamps_mu (s : State) : (driveLamps s).run.mu = s.run.mu := rfl
@[simp] theorem driveLamps_mismatch (s : State) : (driveLamps s).run.mismatch = s.run.mismatch := rfl

@[simp] theorem refreshBlink_mode (s : State) : (refreshBlink s).mode = s.mode := rfl
@[simp] theorem refreshBlink_phase (s : State) : (refreshBlink s).phase = s.phase := rfl
@[simp] theorem refreshBlink_shutdownTimer (s : State) : (refreshBlink s).shutdownTimer = s.shutdownTimer := rfl
@[simp] theorem refreshBlink_nodeAddress (s : State) : (refreshBlink s).nodeAddress = s.nodeAddress := rfl
@[simp] theorem refreshBlink_din0 (s : State) : (refreshBlink s).din0 = s.din0 := rfl
@[simp] theorem refreshBlink_dtu (s : State) : (refreshBlink s).dtu = s.dtu := rfl
@[simp] theorem refreshBlink_store (s : State) : (refreshBlink s).store = s.store := rfl
@[simp] theorem refreshBlink_pending (s : State) : (refreshBlink s).pending = s.pending := rfl
@[simp] theorem refreshBlink_flags (s : State) : (refreshBlink s).run.flags = s.run.flags := rfl
@[simp] theorem refreshBlink_tables (s : State) : (refreshBlink s).run.tables = s.run.tables := rfl
@[simp] theorem refreshBlink_queues (s : State) : (refreshBlink s).run.queues = s.run.queues := rfl
@[simp] theorem refreshBlink_vli (s : State) : (refreshBlink s).run.vli = s.run.vli := rfl
@[simp] theorem refreshBlink_dli (s : State) : (refreshBlink s).run.dli = s.run.dli := rfl
@[simp] theorem refreshBlink_signals (s : State) : (refreshBlink s).run.signals = s.run.signals := rfl
@[simp] theorem refreshBlink_gu (s : State) : (refreshBlink s).run.gu = s.run.gu := rfl
@[simp] theorem refreshBlink_cu (s : State) : (refreshBlink s).run.cu = s.run.cu := rfl
@[simp] theorem refreshBlink_iu (s : State) : (refreshBlink s).run.iu = s.run.iu := rfl
@[simp] theorem refreshBlink_mc (s : State) : (refreshBlink s).run.mc = s.run.mc := rfl
@[simp] theorem refreshBlink_mu (s : State) : (refreshBlink s).run.mu = s.run.mu := rfl
@[simp] theorem refreshBlink_mismatch (s : State) : (refreshBlink s).run.mismatch = s.run.mismatch := rfl

@[simp] theorem chimeSilence_mode (s : State) : (chimeSilence s).mode = s.mode := rfl
@[simp] theorem chimeSilence_phase (s : State) : (chimeSilence s).phase = s.phase := rfl
@[simp] theorem chimeSilence_shutdownTimer (s : State) : (chimeSilence s).shutdownTimer = s.shutdownTimer := rfl
@[simp] theorem chimeSilence_nodeAddress (s : State) : (chimeSilence s).nodeAddress = s.nodeAddress := rfl
@[simp] theorem chimeSilence_din0 (s : State) : (chimeSilence s).din0 = s.din0 := rfl
@[simp] theorem chimeSilence_dtu (s : State) : (chimeSilence s).dtu = s.dtu := rfl
@[simp] theorem chimeSilence_store (s : State) : (chimeSilence s).store = s.store := rfl
@[simp] theorem chimeSilence_pending (s : State) : (chimeSilence s).pending = s.pending := rfl
@[simp] theorem chimeSilence_flags (s : State) : (chimeSilence s).run.flags = s.run.flags := rfl
@[simp] theorem chimeSilence_tables (s : State) : (chimeSilence s).run.tables = s.run.tables := rfl
@[simp] theorem chimeSilence_queues (s : State) : (chimeSilence s).run.queues = s.run.queues := rfl
@[simp] theorem chimeSilence_vli (s : State) : (chimeSilence s).run.vli = s.run.vli := rfl
@[simp] theorem chimeSilence_dli (s : State) : (chimeSilence s).run.dli = s.run.dli := rfl
@[simp] theorem chimeSilence_signals (s : State) : (chimeSilence s).run.signals = s.run.signals := rfl
@[simp] theorem chimeSilence_gu (s : State) : (chimeSilence s).run.gu = s.run.gu := rfl
@[simp] theorem chimeSilence_cu (s : State) : (chimeSilence s).run.cu = s.run.cu := rfl
@[simp] theorem chimeSilence_iu (s : State) : (chimeSilence s).run.iu = s.run.iu := rfl
@[simp] theorem chimeSilence_mc (s : State) : (chimeSilence s).run.mc = s.run.mc := rfl
@[simp] theorem chimeSilence_mu (s : State) : (chimeSilence s).run.mu = s.run.mu := rfl
@[simp] theorem chimeSilence_mismatch (s : State) : (chimeSilence s).run.mismatch = s.run.mismatch := rfl

@[simp] theorem reportGauges_mode (s : State) : (reportGauges s).mode = s.mode := rfl
@[simp] theorem reportGauges_phase (s : State) : (reportGauges s).phase = s.phase := rfl
@[simp] theorem reportGauges_shutdownTimer (s : State) : (reportGauges s).shutdownTimer = s.shutdownTimer := rfl
@[simp] theorem reportGauges_nodeAddress (s : State) : (reportGauges s).nodeAddress = s.nodeAddress := rfl
@[simp] theorem reportGauges_din0 (s : State) : (reportGauges s).din0 = s.din0 := rfl
@[simp] theorem reportGauges_dtu (s : State) : (reportGauges s).dtu = s.dtu := rfl
@[simp] theorem reportGauges_store (s : State) : (reportGauges s).store = s.store := rfl
@[simp] theorem reportGauges_pending (s : State) : (reportGauges s).pending = s.pending := rfl
@[simp] theorem reportGauges_flags (s : State) : (reportGauges s).run.flags = s.run.flags := rfl
@[simp] theorem reportGauges_tables (s : State) : (reportGauges s).run.tables = s.run.tables := rfl
@[simp] theorem reportGauges_queues (s : State) : (reportGauges s).run.queues = s.run.queues := rfl
@[simp] theorem reportGauges_vli (s : State) : (reportGauges s).run.vli = s.run.vli := rfl
@[simp] theorem reportGauges_dli (s : State) : (reportGauges s).run.dli = s.run.dli := rfl
@[simp] theorem reportGauges_signals (s : State) : (reportGauges s).run.signals = s.run.signals := rfl
@[simp] theorem reportGauges_gu (s : State) : (reportGauges s).run.gu = s.run.gu := rfl
@[simp] theorem reportGauges_cu (s : State) : (reportGauges s).run.cu = s.run.cu := rfl
@[simp] theorem reportGauges_tu (s : State) : (reportGauges s).run.tu = s.run.tu := rfl
@[simp] theorem reportGauges_iu (s : State) : (reportGauges s).run.iu = s.run.iu := rfl
@[simp] theorem reportGauges_mu (s : State) : (reportGauges s).run.mu = s.run.mu := rfl
@[simp] theorem reportGauges_mismatch (s : State) : (reportGauges s).run.mismatch = s.run.mismatch := rfl

@[simp] theorem placeNotice_mode (t : NoticeType) (s : State) : (placeNotice t s).mode = s.mode := rfl
@[simp] theorem placeNotice_phase (t : NoticeType) (s : State) : (placeNotice t s).phase = s.phase := rfl
@[simp] theorem placeNotice_shutdownTimer (t : NoticeType) (s : State) : (placeNotice t s).shutdownTimer = s.shutdownTimer := rfl
@[simp] theorem placeNotice_nodeAddress (t : NoticeType) (s : State) : (placeNotice t s).nodeAddress = s.nodeAddress := rfl
@[simp] theorem placeNotice_din0 (t : NoticeType) (s : State) : (placeNotice t s).din0 = s.din0 := rfl
@[simp] theorem placeNotice_dtu (t : NoticeType) (s : State) : (placeNotice t s).dtu = s.dtu := rfl
@[simp] theorem placeNotice_store (t : NoticeType) (s : State) : (placeNotice t s).store = s.store := rfl
@[simp] theorem placeNotice_pending (t : NoticeType) (s : State) : (placeNotice t s).pending = s.pending := rfl
@[simp] theorem placeNotice_flags (t : NoticeType) (s : State) : (placeNotice t s).run.flags = s.run.flags := rfl
@[simp] theorem placeNotice_tables (t : NoticeType) (s : State) : (placeNotice t s).run.tables = s.run.tables := rfl
@[simp] theorem placeNotice_queues (t : NoticeType) (s : State) : (placeNotice t s).run.queues = s.run.queues.placeNotice t (noticeFrames s t) := rfl
@[simp] theorem placeNotice_vli (t : NoticeType) (s : State) : (placeNotice t s).run.vli = s.run.vli := rfl
@[simp] theorem placeNotice_dli (t : NoticeType) (s : State) : (placeNotice t s).run.dli = s.run.dli := rfl
@[simp] theorem placeNotice_signals (t : NoticeType) (s : State) : (placeNotice t s).run.signals = s.run.signals := rfl
@[simp] theorem placeNotice_gu (t : NoticeType) (s : State) : (placeNotice t s).run.gu = s.run.gu := rfl
@[simp] theorem placeNotice_cu (t : NoticeType) (s : State) : (placeNotice t s).run.cu = s.run.cu := rfl
@[simp] theorem placeNotice_tu (t : NoticeType) (s : State) : (placeNotice t s).run.tu = s.run.tu := rfl
@[simp] theorem placeNotice_iu (t : NoticeType) (s : State) : (placeNotice t s).run.iu = s.run.iu := rfl
@[simp] theorem placeNotice_mc (t : NoticeType) (s : State) : (placeNotice t s).run.mc = s.run.mc := rfl
@[simp] theorem placeNotice_mu (t : NoticeType) (s : State) : (placeNotice t s).run.mu = s.run.mu := rfl
@[simp] theorem placeNotice_mismatch (t : NoticeType) (s : State) : (placeNotice t s).run.mismatch = s.run.mismatch := rfl

@[simp] theorem setIface_mode (link : Link) (i : Iface) (s : State) : (setIface link i s).mode = s.mode := by cases link <;> rfl
@[simp] theorem setIface_phase (link : Link) (i : Iface) (s : State) : (setIface link i s).phase = s.phase := by cases link <;> rfl
@[simp] theorem setIface_shutdownTimer (link : Link) (i : Iface) (s : State) : (setIface link i s).shutdownTimer = s.shutdownTimer := by cases link <;> rfl
@[simp] theorem setIface_nodeAddress (link : Link) (i : Iface) (s : State) : (setIface link i s).nodeAddress = s.nodeAddress := by cases link <;> rfl
@[simp] theorem setIface_din0 (link : Link) (i : Iface) (s : State) : (setIface link i s).din0 = s.din0 := by cases link <;> rfl
@[simp] theorem setIface_dtu (link : Link) (i : Iface) (s : State) : (setIface link i s).dtu = s.dtu := by cases link <;> rfl
@[simp] theorem setIface_store (link : Link) (i : Iface) (s : State) : (setIface link i s).store = s.store := by cases link <;> rfl
@[simp] theorem setIface_pending (link : Link) (i : Iface) (s : State) : (setIface link i s).pending = s.pending := by cases link <;> rfl
@[simp] theorem setIface_flags (link : Link) (i : Iface) (s : State) : (setIface link i s).run.flags = s.run.flags := by cases link <;> rfl
@[simp] theorem setIface_tables (link : Link) (i : Iface) (s : State) : (setIface link i s).run.tables = s.run.tables := by cases link <;> rfl
@[simp] theorem setIface_queues (link : Link) (i : Iface) (s : State) : (setIface link i s).run.queues = s.run.queues := by cases link <;> rfl
@[simp] theorem setIface_signals (link : Link) (i : Iface) (s : State) : (setIface link i s).run.signals = s.run.signals := by cases link <;> rfl
@[simp] theorem setIface_gu (link : Link) (i : Iface) (s : State) : (setIface link i s).run.gu = s.run.gu := by cases link <;> rfl
@[simp] theorem setIface_cu (link : Link) (i : Iface) (s : State) : (setIface link i s).run.cu = s.run.cu := by cases link <;> rfl
@[simp] theorem setIface_tu (link : Link) (i : Iface) (s : State) : (setIface link i s).run.tu = s.run.tu := by cases link <;> rfl
@[simp] theorem setIface_iu (link : Link) (i : Iface) (s : State) : (setIface link i s).run.iu = s.run.iu := by cases link <;> rfl
@[simp] theorem setIface_mc (link : Link) (i : Iface) (s : State) : (setIface link i s).run.mc = s.run.mc := by cases link <;> rfl
@[simp] theorem setIface_mu (link : Link) (i : Iface) (s : State) : (setIface link i s).run.mu = s.run.mu := by cases link <;> rfl
@[simp] theorem setIface_mismatch (link : Link) (i : Iface) (s : State) : (setIface link i s).run.mismatch = s.run.mismatch := by cases link <;> rfl

@[simp] theorem driveDisplay_mode (q : DliQueue) (e : QEntry) (s : State) : (driveDisplay q e s).mode = s.mode := rfl
@[simp] theorem driveDisplay_phase (q : DliQueue) (e : QEntry) (s : State) : (driveDisplay q e s).phase = s.phase := rfl
@[simp] theorem driveDisplay_shutdownTimer (q : DliQueue) (e : QEntry) (s : State) : (driveDisplay q e s).shutdownTimer = s.shutdownTimer := rfl
@[simp] theorem driveDisplay_nodeAddress (q : DliQueue) (e : QEntry) (s : State) : (driveDisplay q e s).nodeAddress = s.nodeAddress := rfl
@[simp] theorem driveDisplay_din0 (q : DliQueue) (e : QEntry) (s : State) : (driveDisplay q e s).din0 = s.din0 := rfl
@[simp] theorem driveDisplay_dtu (q : DliQueue) (e : QEntry) (s : State) : (driveDisplay q e s).dtu = s.dtu := rfl
@[simp] theorem driveDisplay_store (q : DliQueue) (e : QEntry) (s : State) : (driveDisplay q e s).store = s.store := rfl
@[simp] theorem driveDisplay_pending (q : DliQueue) (e : QEntry) (s : State) : (driveDisplay q e s).pending = s.pending := rfl
@[simp] theorem driveDisplay_flags (q : DliQueue) (e : QEntry) (s : State) : (driveDisplay q e s).run.flags = s.run.flags := rfl
@[simp] theorem driveDisplay_tables (q : DliQueue) (e : QEntry) (s : State) : (driveDisplay q e s).run.tables = s.run.tables := rfl
@[simp] theorem driveDisplay_queues (q : DliQueue) (e : QEntry) (s : State) : (driveDisplay q e s).run.queues = s.run.queues := rfl
@[simp] theorem driveDisplay_vli (q : DliQueue) (e : QEntry) (s : State) : (driveDisplay q e s).run.vli = s.run.vli := rfl
@[simp] theorem driveDisplay_dli (q : DliQueue) (e : QEntry) (s : State) : (driveDisplay q e s).run.dli = { s.run.dli with sending := some (q, frameBytes e.current), recessive := 0 } := rfl
@[simp] theorem driveDisplay_signals (q : DliQueue) (e : QEntry) (s : State) : (driveDisplay q e s).run.signals = s.run.signals := rfl
@[simp] theorem driveDisplay_gu (q : DliQueue) (e : QEntry) (s : State) : (driveDisplay q e s).run.gu = s.run.gu := rfl
@[simp] theorem driveDisplay_cu (q : DliQueue) (e : QEntry) (s : State) : (driveDisplay q e s).run.cu = s.run.cu := rfl
@[simp] theorem driveDisplay_tu (q : DliQueue) (e : QEntry) (s : State) : (driveDisplay q e s).run.tu = s.run.tu := rfl
@[simp] theorem driveDisplay_iu (q : DliQueue) (e : QEntry) (s : State) : (driveDisplay q e s).run.iu = s.run.iu := rfl
@[simp] theorem driveDisplay_mc (q : DliQueue) (e : QEntry) (s : State) : (driveDisplay q e s).run.mc = s.run.mc := rfl
@[simp] theorem driveDisplay_mu (q : DliQueue) (e : QEntry) (s : State) : (driveDisplay q e s).run.mu = s.run.mu := rfl
@[simp] theorem driveDisplay_mismatch (q : DliQueue) (e : QEntry) (s : State) : (driveDisplay q e s).run.mismatch = s.run.mismatch := rfl

@[simp] theorem putFlag_mode (s : State) (f : FlagId) (v : Bool) : (putFlag s f v).mode = s.mode := by cases f <;> rfl
@[simp] theorem putFlag_phase (s : State) (f : FlagId) (v : Bool) : (putFlag s f v).phase = s.phase := by cases f <;> rfl
@[simp] theorem putFlag_shutdownTimer (s : State) (f : FlagId) (v : Bool) : (putFlag s f v).shutdownTimer = s.shutdownTimer := by cases f <;> rfl
@[simp] theorem putFlag_nodeAddress (s : State) (f : FlagId) (v : Bool) : (putFlag s f v).nodeAddress = s.nodeAddress := by cases f <;> rfl
@[simp] theorem putFlag_din0 (s : State) (f : FlagId) (v : Bool) : (putFlag s f v).din0 = s.din0 := by cases f <;> rfl
@[simp] theorem putFlag_store (s : State) (f : FlagId) (v : Bool) : (putFlag s f v).store = s.store := by cases f <;> rfl
@[simp] theorem putFlag_pending (s : State) (f : FlagId) (v : Bool) : (putFlag s f v).pending = s.pending := by cases f <;> rfl
@[simp] theorem putFlag_tables (s : State) (f : FlagId) (v : Bool) : (putFlag s f v).run.tables = s.run.tables := by cases f <;> rfl
@[simp] theorem putFlag_queues (s : State) (f : FlagId) (v : Bool) : (putFlag s f v).run.queues = s.run.queues := by cases f <;> rfl
@[simp] theorem putFlag_vli (s : State) (f : FlagId) (v : Bool) : (putFlag s f v).run.vli = s.run.vli := by cases f <;> rfl
@[simp] theorem putFlag_dli (s : State) (f : FlagId) (v : Bool) : (putFlag s f v).run.dli = s.run.dli := by cases f <;> rfl
@[simp] theorem putFlag_signals (s : State) (f : FlagId) (v : Bool) : (putFlag s f v).run.signals = s.run.signals := by cases f <;> rfl
@[simp] theorem putFlag_gu (s : State) (f : FlagId) (v : Bool) : (putFlag s f v).run.gu = s.run.gu := by cases f <;> rfl
@[simp] theorem putFlag_cu (s : State) (f : FlagId) (v : Bool) : (putFlag s f v).run.cu = s.run.cu := by cases f <;> rfl
@[simp] theorem putFlag_tu (s : State) (f : FlagId) (v : Bool) : (putFlag s f v).run.tu = s.run.tu := by cases f <;> rfl
@[simp] theorem putFlag_iu (s : State) (f : FlagId) (v : Bool) : (putFlag s f v).run.iu = s.run.iu := by cases f <;> rfl
@[simp] theorem putFlag_mc (s : State) (f : FlagId) (v : Bool) : (putFlag s f v).run.mc = s.run.mc := by cases f <;> rfl
@[simp] theorem putFlag_mu (s : State) (f : FlagId) (v : Bool) : (putFlag s f v).run.mu = s.run.mu := by cases f <;> rfl
@[simp] theorem putFlag_mismatch (s : State) (f : FlagId) (v : Bool) : (putFlag s f v).run.mismatch = s.run.mismatch := by cases f <;> rfl

@[simp] theorem mapChannels_channels (f : Nat → Channel → Channel) (s : State) :
    (mapChannels f s).run.gu.channels = mapFrom f 0 s.run.gu.channels := rfl
@[simp] theorem updChannel_channels (n : Nat) (f : Channel → Channel) (s : State) :
    (updChannel n f s).run.gu.channels = updAt s.run.gu.channels n f := rfl
@[simp] theorem updLamp_lamps (n : Nat) (f : LampRec → LampRec) (s : State) :
    (updLamp n f s).run.tu.lamps = updAt s.run.tu.lamps n f := rfl
@[simp] theorem updRoute_routes (n : Nat) (f : LiveRoute → LiveRoute) (s : State) :
    (updRoute n f s).run.tables.routes = updAt s.run.tables.routes n fun e => e.mapTo f := rfl
@[simp] theorem putCondRec_recs (s : State) (j : Nat) (r : CondRec) :
    (putCondRec s j r).run.cu.recs = updAt s.run.cu.recs j fun _ => r := rfl
@[simp] theorem chimeSilence_chime (s : State) : (chimeSilence s).run.tu.chime = Chime.initial := rfl
@[simp] theorem driveLamps_lamps (s : State) :
    (driveLamps s).run.tu.lamps =
      mapFrom (fun n r => { r with output := lampOutput s n r }) 0 s.run.tu.lamps := rfl

/-- A flag that is stored reads back, and no other flag changes. -/
theorem getFlag_putFlag (s : State) (f g : FlagId) (v : Bool) :
    getFlag (putFlag s f v) g = if g = f then v else getFlag s g := by
  cases f <;> cases g <;> rfl

end Sys2Proof.Machine
end

