-- ==== Sys2Proof/Laws/Frames.lean ====
section
/-! SUPPORT. Laws/Frames.lean: the warnings path writes nothing but condition records, lamp records, the
Alert List, the chime and the notices: one lemma for each operation on it, up to the flag change, the
stage change and the acknowledgement; and none of them changes how many records there are. -/

namespace Sys2Proof.Machine

theorem WarningsOnly.refl (s : State) : WarningsOnly s s := ⟨rfl, rfl⟩

/-- The REPLYs of the DUQ stay. -/
theorem WarningsOnly.replies {s t : State} (h : WarningsOnly s t) :
    repliesOf t.run.queues.duq = repliesOf s.run.queues.duq := h.2

theorem WarningsOnly.mode {s t : State} (h : WarningsOnly s t) : t.mode = s.mode := congrArg (·.mode) h.1
theorem WarningsOnly.phase {s t : State} (h : WarningsOnly s t) : t.phase = s.phase := congrArg (·.phase) h.1
theorem WarningsOnly.shutdownTimer {s t : State} (h : WarningsOnly s t) : t.shutdownTimer = s.shutdownTimer := congrArg (·.shutdownTimer) h.1
theorem WarningsOnly.nodeAddress {s t : State} (h : WarningsOnly s t) : t.nodeAddress = s.nodeAddress := congrArg (·.nodeAddress) h.1
theorem WarningsOnly.din0 {s t : State} (h : WarningsOnly s t) : t.din0 = s.din0 := congrArg (·.din0) h.1
theorem WarningsOnly.dtu {s t : State} (h : WarningsOnly s t) : t.dtu = s.dtu := congrArg (·.dtu) h.1
theorem WarningsOnly.store {s t : State} (h : WarningsOnly s t) : t.store = s.store := congrArg (·.store) h.1
theorem WarningsOnly.pending {s t : State} (h : WarningsOnly s t) : t.pending = s.pending := congrArg (·.pending) h.1
theorem WarningsOnly.flags {s t : State} (h : WarningsOnly s t) : t.run.flags = s.run.flags := congrArg (·.run.flags) h.1
theorem WarningsOnly.tables {s t : State} (h : WarningsOnly s t) : t.run.tables = s.run.tables := congrArg (·.run.tables) h.1
theorem WarningsOnly.vtq {s t : State} (h : WarningsOnly s t) : t.run.queues.vtq = s.run.queues.vtq := congrArg (·.run.queues.vtq) h.1
theorem WarningsOnly.drq {s t : State} (h : WarningsOnly s t) : t.run.queues.drq = s.run.queues.drq := congrArg (·.run.queues.drq) h.1
theorem WarningsOnly.vli {s t : State} (h : WarningsOnly s t) : t.run.vli = s.run.vli := congrArg (·.run.vli) h.1
theorem WarningsOnly.dli {s t : State} (h : WarningsOnly s t) : t.run.dli = s.run.dli := congrArg (·.run.dli) h.1
theorem WarningsOnly.signals {s t : State} (h : WarningsOnly s t) : t.run.signals = s.run.signals := congrArg (·.run.signals) h.1
theorem WarningsOnly.gu {s t : State} (h : WarningsOnly s t) : t.run.gu = s.run.gu := congrArg (·.run.gu) h.1
theorem WarningsOnly.evaluating {s t : State} (h : WarningsOnly s t) : t.run.cu.evaluating = s.run.cu.evaluating := congrArg (·.run.cu.evaluating) h.1
theorem WarningsOnly.blink {s t : State} (h : WarningsOnly s t) : t.run.tu.blink = s.run.tu.blink := congrArg (·.run.tu.blink) h.1
theorem WarningsOnly.blinkTimer {s t : State} (h : WarningsOnly s t) : t.run.tu.blinkTimer = s.run.tu.blinkTimer := congrArg (·.run.tu.blinkTimer) h.1
theorem WarningsOnly.lampCheck {s t : State} (h : WarningsOnly s t) : t.run.tu.lampCheck = s.run.tu.lampCheck := congrArg (·.run.tu.lampCheck) h.1
theorem WarningsOnly.loadTimer {s t : State} (h : WarningsOnly s t) : t.run.tu.loadTimer = s.run.tu.loadTimer := congrArg (·.run.tu.loadTimer) h.1
theorem WarningsOnly.iu {s t : State} (h : WarningsOnly s t) : t.run.iu = s.run.iu := congrArg (·.run.iu) h.1
theorem WarningsOnly.mc {s t : State} (h : WarningsOnly s t) : t.run.mc = s.run.mc := congrArg (·.run.mc) h.1
theorem WarningsOnly.mu {s t : State} (h : WarningsOnly s t) : t.run.mu = s.run.mu := congrArg (·.run.mu) h.1
theorem WarningsOnly.mismatch {s t : State} (h : WarningsOnly s t) : t.run.mismatch = s.run.mismatch := congrArg (·.run.mismatch) h.1

/-- The relation chains. -/
theorem WarningsOnly.trans {s t u : State} (h1 : WarningsOnly s t) (h2 : WarningsOnly t u) :
    WarningsOnly s u := by
  refine ⟨?_, h2.2.trans h1.2⟩
  have e1 := h1.1
  have e2 := h2.1
  rw [e1] at e2
  exact e2

/-! ## Notices -/

@[simp] theorem setPending_duq (q : Queues) (t : NoticeType) (f : Option NoticeFrames) :
    (q.setPending t f).duq = q.duq := by cases t <;> rfl
@[simp] theorem setPending_vtq (q : Queues) (t : NoticeType) (f : Option NoticeFrames) :
    (q.setPending t f).vtq = q.vtq := by cases t <;> rfl
@[simp] theorem setPending_drq (q : Queues) (t : NoticeType) (f : Option NoticeFrames) :
    (q.setPending t f).drq = q.drq := by cases t <;> rfl

@[simp] theorem placeNotice_vtq (q : Queues) (t : NoticeType) (f : NoticeFrames) :
    (q.placeNotice t f).vtq = q.vtq := by
  unfold Queues.placeNotice
  split
  · split <;> simp
  · rfl

@[simp] theorem placeNotice_drq (q : Queues) (t : NoticeType) (f : NoticeFrames) :
    (q.placeNotice t f).drq = q.drq := by
  unfold Queues.placeNotice
  split
  · split <;> simp
  · rfl

theorem repliesOf_replaceFrame (n : NoticeType) (f : NoticeFrames) (q : List QEntry) :
    repliesOf (replaceFrame (.notice n) f q) = repliesOf q := by
  induction q with
  | nil => rfl
  | cons x xs ih =>
    unfold replaceFrame
    split
    · next h =>
      have ho : x.origin = .notice n := by
        simp only [waitingOf, Bool.and_eq_true, decide_eq_true_eq] at h
        exact h.1
      simp [repliesOf, ho]
    · unfold repliesOf at ih ⊢
      simp only [List.filter_cons, ih]

theorem repliesOf_append_notice (n : NoticeType) (f : NoticeFrames) (q : List QEntry) :
    repliesOf (q ++ [newEntry f (.notice n)]) = repliesOf q := by
  simp [repliesOf, newEntry]

theorem placeNotice_replies (q : Queues) (t : NoticeType) (f : NoticeFrames) :
    repliesOf (q.placeNotice t f).duq = repliesOf q.duq := by
  unfold Queues.placeNotice
  split
  · split
    · simp
    · exact repliesOf_replaceFrame t f q.duq
  · exact repliesOf_append_notice t f q.duq

theorem placeNotice_frame (t : NoticeType) (s : State) : WarningsOnly s (placeNotice t s) := by
  refine ⟨?_, placeNotice_replies s.run.queues t (noticeFrames s t)⟩
  have hv := placeNotice_vtq s.run.queues t (noticeFrames s t)
  have hd := placeNotice_drq s.run.queues t (noticeFrames s t)
  rw [← hv, ← hd]
  rfl

theorem noticeIfOn_frame (t : NoticeType) (s : State) : WarningsOnly s (noticeIfOn t s) := by
  unfold noticeIfOn
  split
  · exact placeNotice_frame t s
  · exact .refl s

theorem telltaleIfChanged_frame (b s : State) : WarningsOnly s (telltaleIfChanged b s) := by
  unfold telltaleIfChanged
  split
  · exact .refl s
  · exact noticeIfOn_frame _ s

/-! ## The Tell-tale Unit -/

theorem driveLamps_frame (s : State) : WarningsOnly s (driveLamps s) := ⟨rfl, rfl⟩

theorem refreshBlink_frame (s : State) : WarningsOnly s (refreshBlink s) := ⟨rfl, rfl⟩

theorem chimeRequest_frame (p : Pattern) (s : State) : WarningsOnly s (chimeRequest p s) := by
  unfold chimeRequest
  split
  · split <;> exact ⟨rfl, rfl⟩
  · exact ⟨rfl, rfl⟩

theorem setAlerts_frame (l : List Alert) (s : State) : WarningsOnly s (setAlerts l s) := by
  unfold setAlerts withdrawIfNone
  split <;> exact ⟨rfl, rfl⟩

theorem chimeOf_frame (c : Condition) (old now : CondState) (s : State) :
    WarningsOnly s (chimeOf c old now s) := by
  unfold chimeOf
  split
  · split
    · exact .refl s
    · exact chimeRequest_frame _ s
    · exact chimeRequest_frame _ s
  · exact .refl s

theorem telltaleChange_frame (j : Nat) (old now : CondState) (s : State) :
    WarningsOnly s (telltaleChange j old now s).1 := by
  unfold telltaleChange
  split
  · exact .refl s
  · rename_i c _
    refine .trans ?_ (telltaleIfChanged_frame s _)
    refine .trans ?_ (driveLamps_frame _)
    refine .trans ?_ (refreshBlink_frame _)
    refine .trans ?_ (chimeOf_frame c old now _)
    refine .trans ?_ (setAlerts_frame _ _)
    exact ⟨rfl, rfl⟩

/-! ## The Condition Unit -/

theorem evaluateFrom_frame (s : State) (j : Nat) (b : CondRec → CondRec) :
    WarningsOnly s (evaluateFrom s j b).1 := by
  unfold evaluateFrom
  split
  · exact .refl s
  · split
    · exact ⟨rfl, rfl⟩
    · exact .refl s

theorem releaseEvicted_frame (evicted : Option Nat) (s : State) :
    WarningsOnly s (releaseEvicted evicted s).1 := by
  unfold releaseEvicted
  split
  · split
    · exact evaluateFrom_frame s _ unlatch
    · exact .refl s
  · exact .refl s

theorem takeTask_frame (t : Task) (s : State) : WarningsOnly s (takeTask t s).1 := by
  cases t with
  | evaluate j => exact evaluateFrom_frame s j id
  | release j => exact evaluateFrom_frame s j unlatch
  | changed j old now => exact (telltaleChange_frame j old now s).trans (releaseEvicted_frame _ _)

theorem cascade_frame (fuel : Nat) (ts : List Task) (s : State) : WarningsOnly s (cascade fuel ts s) := by
  induction fuel generalizing ts s with
  | zero => exact .refl s
  | succ n ih =>
    cases ts with
    | nil => exact .refl s
    | cons t ts => exact (takeTask_frame t s).trans (ih _ _)

/-- One event's cascade writes the warnings path alone. -/
theorem runTasks_frame (ts : List Task) (s : State) : WarningsOnly s (runTasks ts s) :=
  cascade_frame _ ts s

theorem conditionsOnSignal_frame (i : Nat) (s : State) : WarningsOnly s (conditionsOnSignal i s) :=
  runTasks_frame _ s
theorem conditionsOnInput_frame (n : Nat) (s : State) : WarningsOnly s (conditionsOnInput n s) :=
  runTasks_frame _ s
theorem conditionsOnFlag_frame (n : Nat) (s : State) : WarningsOnly s (conditionsOnFlag n s) :=
  runTasks_frame _ s
theorem conditionsOnStage_frame (n : Nat) (s : State) : WarningsOnly s (conditionsOnStage n s) :=
  runTasks_frame _ s

theorem changeCondition_frame (j : Nat) (r : CondRec) (s : State) :
    WarningsOnly s (changeCondition j r s) :=
  .trans (t := putCondRec s j r) ⟨rfl, rfl⟩ (runTasks_frame _ _)

/-- A flag change stores the flag and writes the warnings path alone. -/
theorem flagChange_frame (f : FlagId) (v : Bool) (s : State) :
    WarningsOnly (putFlag s f v) (flagChange f v s) := by
  unfold flagChange
  split
  · rename_i h
    have : putFlag s f v = s := by
      subst h
      cases f <;> rfl
    rw [this]
    exact .refl s
  · refine .trans ?_ (noticeIfOn_frame _ _)
    refine .trans (conditionsOnFlag_frame f.number _) ?_
    split
    · exact noticeIfOn_frame _ _
    · exact .refl _

/-- A cause that finds the flag at its value is no flag change (R78). -/
theorem flagChange_same {f : FlagId} {v : Bool} {s : State} (h : getFlag s f = v) :
    flagChange f v s = s := by simp [flagChange, h]

/-- The flag has the value it was given, and no other flag changes. -/
theorem getFlag_flagChange (f g : FlagId) (v : Bool) (s : State) :
    getFlag (flagChange f v s) g = if g = f then v else getFlag s g := by
  have h := flagChange_frame f v s
  have hf : getFlag (flagChange f v s) g = getFlag (putFlag s f v) g := by
    cases g <;> simp [getFlag, FlagId.number, flagNumber, h.flags, h.dtu]
  rw [hf, getFlag_putFlag]

theorem stageChange_frame (slot : Nat) (b : Stage) (s : State) :
    WarningsOnly s (stageChange slot b s) := by
  unfold stageChange
  split
  · exact .refl s
  · exact conditionsOnStage_frame _ s

theorem acknowledge_frame (f : Option Nat) (s : State) : WarningsOnly s (acknowledge f s) := by
  unfold acknowledge
  split
  · exact .refl s
  · refine .trans ?_ (telltaleIfChanged_frame _ _)
    refine .trans ?_ (driveLamps_frame _)
    refine .trans ?_ (refreshBlink_frame _)
    refine .trans ?_ (setAlerts_frame _ _)
    exact (setAlerts_frame _ _).trans (runTasks_frame _ _)

theorem filterAlerts_frame (s : State) : WarningsOnly s (filterAlerts s) := by
  unfold filterAlerts
  refine .trans ?_ (telltaleIfChanged_frame _ _)
  refine .trans ?_ (driveLamps_frame _)
  exact .trans (setAlerts_frame _ s) (refreshBlink_frame _)

/-! ## How many records there are -/

/-- The condition records and the lamp records are as many as they were. -/
def SameCounts (s t : State) : Prop :=
  t.run.cu.recs.length = s.run.cu.recs.length ∧ t.run.tu.lamps.length = s.run.tu.lamps.length

theorem SameCounts.refl (s : State) : SameCounts s s := ⟨rfl, rfl⟩

theorem SameCounts.trans {s t u : State} (h1 : SameCounts s t) (h2 : SameCounts t u) : SameCounts s u :=
  ⟨h2.1.trans h1.1, h2.2.trans h1.2⟩

theorem noticeIfOn_counts (t : NoticeType) (s : State) : SameCounts s (noticeIfOn t s) := by
  unfold noticeIfOn
  split <;> exact ⟨rfl, rfl⟩

theorem driveLamps_counts (s : State) : SameCounts s (driveLamps s) := ⟨rfl, by simp⟩

theorem refreshBlink_counts (s : State) : SameCounts s (refreshBlink s) := ⟨rfl, by simp [refreshBlink]⟩

theorem setAlerts_counts (l : List Alert) (s : State) : SameCounts s (setAlerts l s) := by
  unfold setAlerts withdrawIfNone
  split <;> exact ⟨rfl, rfl⟩

theorem chimeRequest_counts (p : Pattern) (s : State) : SameCounts s (chimeRequest p s) := by
  unfold chimeRequest
  split
  · split <;> exact ⟨rfl, rfl⟩
  · exact .refl s

theorem chimeOf_counts (c : Condition) (old now : CondState) (s : State) :
    SameCounts s (chimeOf c old now s) := by
  unfold chimeOf
  split
  · split
    · exact .refl _
    · exact chimeRequest_counts _ _
    · exact chimeRequest_counts _ _
  · exact .refl _

theorem telltaleIfChanged_counts (b s : State) : SameCounts s (telltaleIfChanged b s) := by
  unfold telltaleIfChanged
  split
  · exact .refl s
  · exact noticeIfOn_counts _ s

theorem telltaleChange_counts (j : Nat) (old now : CondState) (s : State) :
    SameCounts s (telltaleChange j old now s).1 := by
  unfold telltaleChange
  split
  · exact .refl s
  · next c _ =>
    have h1 : SameCounts s
        { s with run.tu.lamps := mapFrom (lampChange s j now) 0 s.run.tu.lamps } := ⟨rfl, by simp⟩
    exact ((((h1.trans (setAlerts_counts _ _)).trans (chimeOf_counts c old now _)).trans
      (refreshBlink_counts _)).trans (driveLamps_counts _)).trans (telltaleIfChanged_counts s _)

theorem evaluateFrom_counts (s : State) (j : Nat) (b : CondRec → CondRec) :
    SameCounts s (evaluateFrom s j b).1 := by
  unfold evaluateFrom
  split
  · exact .refl s
  · split
    · exact ⟨by simp, rfl⟩
    · exact .refl s

theorem releaseEvicted_counts (evicted : Option Nat) (s : State) :
    SameCounts s (releaseEvicted evicted s).1 := by
  unfold releaseEvicted
  split
  · split
    · exact evaluateFrom_counts s _ unlatch
    · exact .refl s
  · exact .refl s

theorem runTasks_counts (ts : List Task) (s : State) : SameCounts s (runTasks ts s) := by
  unfold runTasks
  generalize Config.cascadeBound = fuel
  induction fuel generalizing ts s with
  | zero => exact .refl s
  | succ n ih =>
    cases ts with
    | nil => exact .refl s
    | cons t ts =>
      have ht : SameCounts s (takeTask t s).1 := by
        cases t with
        | evaluate j => exact evaluateFrom_counts s j id
        | release j => exact evaluateFrom_counts s j unlatch
        | changed j old now => exact (telltaleChange_counts j old now s).trans (releaseEvicted_counts _ _)
      exact ht.trans (ih _ _)

theorem flagChange_counts (f : FlagId) (v : Bool) (s : State) : SameCounts s (flagChange f v s) := by
  unfold flagChange
  split
  · exact .refl s
  · have h1 : SameCounts s (putFlag s f v) := ⟨by simp, by simp⟩
    have h2 : SameCounts s (conditionsOnFlag f.number (putFlag s f v)) :=
      h1.trans (runTasks_counts _ _)
    refine SameCounts.trans ?_ (noticeIfOn_counts _ _)
    split
    · exact h2.trans (noticeIfOn_counts _ _)
    · exact h2

end Sys2Proof.Machine
end

