-- ==== Sys2Proof/Laws/Answers.lean ====
section
/-! SUPPORT. Laws/Answers.lean: what a result REPLY leaves, what a notice leaves, what R86 decides, that
a state with no due step is settled, and that the chime queue keeps its order. -/

namespace Sys2Proof.Machine

/-! ## Due steps -/

theorem settle_of_not_due {s : State} (h : due s = false) : settle s = s := by simp [settle, h]

theorem after_of_not_due {s : State} (f : State → State) (h : due s = false) : after f s = f s := by
  simp [after, settle_of_not_due h]

/-! ## The command in progress -/

theorem InHand.due {s : State} {c : CmdCode} {cmd : Command} (h : InHand s c cmd)
    (h1 : c = .leaveService → s.run.mc.validation = none) (h2 : c = .linkTest → s.run.vli.test = .off) :
    commandDue s c = some cmd := by
  obtain ⟨hp, hc, hq, hm⟩ := h
  unfold commandDue
  rw [hc]
  simp only [hp, hq, hm, true_and, if_pos (And.intro h1 h2)]

theorem InHand.forceDue {s : State} {cmd : Command} {a : ForceAction} (h : InHand s .forceOutput cmd)
    (ha : forceActionOf cmd.payload = some a) : Machine.forceDue s a = some cmd := by
  simp [Machine.forceDue, h.due (by simp) (by simp), ha]

/-- No command is carried out in SHUTDOWN (section 10.4). -/
theorem CmdCode.inMode_shutdown (c : CmdCode) : c.inMode .shutdown = false := by
  cases c <;> rfl

theorem InHand.mode_ne {s : State} {c : CmdCode} {cmd : Command} (h : InHand s c cmd) :
    s.mode ≠ .shutdown := by
  intro hs
  have := h.2.2.2
  rw [hs, CmdCode.inMode_shutdown] at this
  exact absurd this (by simp)

/-! ## The result REPLY -/

theorem replyLeft_frame {s t : State} (h : WarningsOnly s t) (m : Mu) :
    WarningsOnly { s with run.mu := m } { t with run.mu := m } := by
  refine ⟨?_, h.2⟩
  have e := h.1
  generalize t = u at e
  rw [e]

/-- R176, R19: a result REPLY is placed, or dropped at a full VTQ. -/
theorem sendResult_replied {s : State} {cmd : Command} (hc : s.run.mu.cmd = some cmd)
    (hm : s.mode ≠ .shutdown) (frames : Command → NoticeFrames) (part0 : List Byte)
    (part1 : Option (List Byte))
    (hf : frames cmd = (replyTo s cmd part0, part1.map (replyTo s cmd))) :
    Replied s (sendResult frames s) cmd part0 part1 := by
  unfold Replied sendResult
  rw [hc]
  simp only [hf]
  refine ⟨?_, ?_, ?_⟩
  · intro hl
    simp only [hl]
    rfl
  · intro hl hq
    simp only [hl]
    unfold placeVtq
    rw [if_neg hm]
    simp only [Bool.false_eq_true, if_false, vtqNew]
    rw [if_pos (show _ < Config.vtqCapacity from hq)]
    rfl
  · intro hl hq
    simp only [hl]
    unfold placeVtq
    rw [if_neg hm]
    simp only [Bool.false_eq_true, if_false, vtqNew]
    rw [if_neg (show ¬ s.run.queues.vtq.length < Config.vtqCapacity from Nat.not_lt.mpr hq)]
    have hfr := flagChange_frame .relayOverflow true { s with run.mu.phase := .replyQueued }
    unfold overflow replyLeft
    simp only [newEntry]
    rw [if_pos (by rw [hfr.mu]; rfl)]
    have h2 := replyLeft_frame hfr { s.run.mu with phase := .idle, cmd := none }
    have h3 : (flagChange .relayOverflow true { s with run.mu.phase := .replyQueued }).run.mu =
        { s.run.mu with phase := .replyQueued } := hfr.mu
    rw [h3]
    exact h2

theorem answer_replied {s : State} {cmd : Command} (hc : s.run.mu.cmd = some cmd)
    (hm : s.mode ≠ .shutdown) (code : Code) (data : List Byte) :
    Replied s (answer code data s) cmd (byteOf code.number :: data) none := by
  refine sendResult_replied hc hm _ _ _ ?_
  simp [replyFrame, replyTo, boolNat]

/-! ## Notices -/

theorem replaceFrame_mem {o : Origin} {f : NoticeFrames} {q : List QEntry} {e : QEntry}
    (he : e ∈ q) (hw : waitingOf o e = true) :
    ∃ x ∈ replaceFrame o f q, x.origin = o ∧ x.inFlight = false ∧ (x.frame0, x.frame1) = f := by
  induction q with
  | nil => cases he
  | cons y ys ih =>
    unfold replaceFrame
    by_cases hy : waitingOf o y = true
    · rw [if_pos hy]
      simp only [waitingOf, Bool.and_eq_true, decide_eq_true_eq, Bool.not_eq_true'] at hy
      exact ⟨_, List.mem_cons_self, hy.1, hy.2, rfl⟩
    · rw [if_neg hy]
      rcases List.mem_cons.mp he with rfl | h
      · exact absurd hw hy
      · obtain ⟨x, hx, h⟩ := ih h
        exact ⟨x, List.mem_cons_of_mem _ hx, h⟩

/-- R18: after a placement the newest notice of the type has these frames. -/
theorem placeNotice_newest (q : Queues) (k : NoticeType) (f : NoticeFrames) :
    (∃ e ∈ (q.placeNotice k f).duq, e.origin = .notice k ∧ e.inFlight = false ∧
        (e.frame0, e.frame1) = f) ∨
      (q.placeNotice k f).pendingOf k = some f := by
  unfold Queues.placeNotice
  split
  · next e h =>
    have ho := List.find?_some h
    have hm := List.mem_of_find?_eq_some h
    simp only [decide_eq_true_eq] at ho
    split
    · right
      cases k <;> rfl
    · next hf =>
      left
      exact replaceFrame_mem hm (by simp [waitingOf, ho, hf])
  · left
    exact ⟨_, List.mem_append_right _ (List.mem_singleton.mpr rfl), rfl, rfl, rfl⟩

/-- A notice's items do not depend on the queues. -/
theorem noticeFrames_queues (s : State) (q : Queues) (k : NoticeType) :
    noticeFrames { s with run.queues := q } k = noticeFrames s k := by
  cases k <;> rfl

theorem placeNotice_stands (k : NoticeType) (s : State) : NoticeStands k (placeNotice k s) := by
  unfold NoticeStands
  rw [show noticeFrames (placeNotice k s) k = noticeFrames s k from noticeFrames_queues s _ k]
  exact placeNotice_newest s.run.queues k (noticeFrames s k)

theorem noticeIfOn_stands {k : NoticeType} {s : State} (h : noticing s = true) :
    NoticeStands k (noticeIfOn k s) := by
  rw [noticeIfOn, if_pos h]
  exact placeNotice_stands k s

/-! ## The lamps' outputs -/

theorem lampOutput_iff (s : State) (n : Nat) (r : LampRec) : lampOutput s n r = true ↔ LampLit s n r := by
  unfold lampOutput LampLit
  split <;> rename_i h1
  · simp [h1]
  split <;> rename_i h2
  · simp [h2]
  split <;> rename_i h3
  · simp [h3]
  split <;> rename_i h4
  · simp [h4]
  simp only [ne_eq, h1, not_false_eq_true, h2, h4, true_and, Bool.not_eq_true] at *
  simp only [h3, true_and]
  rcases hf : r.forced with _ | b
  · simp only [reduceCtorEq, false_or, true_and]
    rcases hl : lampAt s n with _ | l
    · cases r.requested <;> cases r.alarmBlink <;> cases r.lit <;> simp
    · cases s.run.tu.lampCheck <;> cases l.check <;> cases r.requested <;> cases r.alarmBlink <;>
        cases r.lit <;> simp_all
  · cases b <;> simp

/-! ## The chime queue (R98) -/

theorem Pattern.rank_injective {p q : Pattern} (h : p.rank = q.rank) : p = q := by
  cases p <;> cases q <;> simp_all [Pattern.rank]

theorem mem_queuePattern (p x : Pattern) (l : List Pattern) : x ∈ queuePattern p l ↔ x = p ∨ x ∈ l := by
  induction l with
  | nil => simp [queuePattern]
  | cons y ys ih =>
    unfold queuePattern
    split
    · rename_i h
      subst h
      simp
    · split <;> simp [ih, or_left_comm]

/-- A request that joins the queue keeps its order. -/
theorem queuePattern_order (p : Pattern) (l : List Pattern) (h : ChimeOrder l) :
    ChimeOrder (queuePattern p l) := by
  induction l with
  | nil => simp [queuePattern, ChimeOrder]
  | cons y ys ih =>
    obtain ⟨hy, hys⟩ := List.pairwise_cons.mp h
    unfold queuePattern
    split
    · exact h
    · rename_i ne
      split
      · rename_i lt
        refine List.pairwise_cons.mpr ⟨fun x hx => ?_, h⟩
        rcases List.mem_cons.mp hx with rfl | hx
        · exact lt
        · exact (hy x hx).trans lt
      · rename_i nlt
        refine List.pairwise_cons.mpr ⟨fun x hx => ?_, ih hys⟩
        rcases (mem_queuePattern p x ys).mp hx with rfl | hx
        · exact lt_of_le_of_ne (Nat.le_of_not_lt nlt) fun e => ne (Pattern.rank_injective e).symm
        · exact hy x hx

end Sys2Proof.Machine
end

