-- ==== Sys2Proof/Laws/Line.lean ====
section
/-! SUPPORT. Laws/Line.lean: what hearing keeps of the events before it, what the filter does with a held
level (R141), what a driven SOF, cell and frame bring (R142, R143), and what is left of them. -/

namespace Sys2Proof.Machine

/-! ## The filter (R141) -/

/-- The count stays in 0 to 7, and at its ends it decides the level. -/
theorem filterSample_law (f : Filter) (d : Bool) (h : f.count ≤ 7) :
    (filterSample f d).count ≤ 7 ∧
      ((filterSample f d).count = 7 → (filterSample f d).dominant = true) ∧
      ((filterSample f d).count = 0 → (filterSample f d).dominant = false) := by
  unfold filterSample
  cases d <;> simp <;> omega

/-! ## What was heard before stays -/

/-- Earlier events put before the ones heard. -/
def Heard.after (e : List LineEvent) (h : Heard) : Heard := { h with events := e ++ h.events }

@[simp] theorem Heard.after_line (e : List LineEvent) (h : Heard) : (h.after e).line = h.line := rfl
@[simp] theorem Heard.after_timer (e : List LineEvent) (h : Heard) : (h.after e).timer = h.timer := rfl
@[simp] theorem Heard.after_events (e : List LineEvent) (h : Heard) :
    (h.after e).events = e ++ h.events := rfl

theorem hearSample_after (e : List LineEvent) (d : Bool) (h : Heard) :
    hearSample d (h.after e) = (hearSample d h).after e := by
  unfold hearSample Heard.after
  simp only
  split <;> simp [List.append_assoc]

theorem hearRun_after (e : List LineEvent) (d : Bool) (n : Nat) (h : Heard) :
    hearRun d n (h.after e) = (hearRun d n h).after e := by
  induction n generalizing h with
  | zero => rfl
  | succ n ih => simp only [hearRun, hearSample_after, ih]

theorem hearWave_after (e : List LineEvent) (w : Wave) (h : Heard) :
    hearWave w (h.after e) = (hearWave w h).after e := by
  unfold hearWave
  induction w generalizing h with
  | nil => rfl
  | cons r w ih => simp only [List.foldl_cons, hearRun_after, ih]

@[simp] theorem hearWave_nil (h : Heard) : hearWave [] h = h := rfl

theorem hearWave_append (v w : Wave) (h : Heard) : hearWave (v ++ w) h = hearWave w (hearWave v h) := by
  simp [hearWave]

theorem hearRun_add (d : Bool) (m n : Nat) (h : Heard) :
    hearRun d (m + n) h = hearRun d n (hearRun d m h) := by
  induction m generalizing h with
  | zero => simp [hearRun]
  | succ m ih => rw [Nat.succ_add]; simp only [hearRun, ih]

/-! ## A level that is held -/

/-- One more recessive sample on a filter at rest. -/
theorem hearSample_rest (h : Heard) (hf : h.line.filter = { count := 0, dominant := false }) :
    hearSample false h =
      { line := { h.line with stretch := countOn h.line.stretch, cell := countOn h.line.cell
                              idle := h.line.idle || decide (120 ≤ countOn h.line.stretch) }
        timer := 0, events := h.events ++ recessiveMeaning (countOn h.line.stretch) } := by
  simp [hearSample, filterSample, hf]

/-- One more dominant sample on a filter that stands at 7. -/
theorem hearSample_held (h : Heard) (hf : h.line.filter = { count := 7, dominant := true }) :
    hearSample true h =
      { line := { h.line with stretch := countOn h.line.stretch, cell := countOn h.line.cell }
        timer := countOn h.timer
        events := h.events ++ dominantMeaning (countOn h.line.stretch) ++
          (if countOn h.timer = stuckSamples ∧ h.timer ≠ stuckSamples then [.stuck] else []) } := by
  simp [hearSample, filterSample, hf]

/-- A level that brings no stopping event is held to the end of its samples. -/
theorem hearUntil_run (stop : LineEvent → Bool) (d : Bool) (n : Nat) (h : Heard)
    (quiet : ∀ k, k < n → (hearRun d k h).events.any stop = false) :
    hearUntil stop d n h = hearRun d n h := by
  induction n generalizing h with
  | zero => rfl
  | succ n ih =>
      have now : h.events.any stop = false := quiet 0 (Nat.succ_pos n)
      simp only [hearUntil, hearRun, now]
      exact ih _ fun k hk => quiet (k + 1) (Nat.succ_lt_succ hk)

/-! ## The cells that a transmitter drives (R143) -/

/-- A line right after a driven ONE or ZERO, or after the SOF's recessive. -/
def afterCell (bit : Bool) : Line :=
  { filter := { count := 0, dominant := false }, stretch := if bit then 24 else 4, cell := 34, idle := false }

def afterSof : Line :=
  { filter := { count := 0, dominant := false }, stretch := 34, cell := 154, idle := false }

/-- A filter at rest on a line that is idle. -/
def idleLine : Line :=
  { filter := { count := 0, dominant := false }, stretch := 120, cell := 160, idle := true }

/-- What a driven bit brings after its edge. -/
def bitEvents (bit : Bool) : List LineEvent := if bit then [.symbol .one] else [.passes14, .symbol .zero]

/-- A driven cell after another is read as its bit, its edge 40 samples after the one before. -/
theorem hear_cell (before bit : Bool) :
    hearWave (cellWave bit) { line := afterCell before, timer := 0, events := [] } =
      { line := afterCell bit, timer := 0
        events := .edge (if before then 30 else 10) 40 :: bitEvents bit } := by
  cases before <;> cases bit <;> decide +kernel

/-- The first driven cell, 40 samples after the SOF. -/
theorem hear_firstCell (bit : Bool) :
    hearWave (cellWave bit) { line := afterSof, timer := 0, events := [] } =
      { line := afterCell bit, timer := 0, events := .edge 40 160 :: bitEvents bit } := by
  cases bit <;> decide +kernel

/-- A driven SOF on an idle line. -/
theorem hear_sof :
    hearWave sofWave { line := idleLine, timer := 0, events := [] } =
      { line := afterSof, timer := 0
        events := [.edge 126 166, .passes14, .symbol .sof] } := by
  decide +kernel

/-- A driven SOF as an attempt that has just begun reads it (R150): its edge in time. -/
theorem hear_sof_begun :
    hearWave sofWave
        { line := { idleLine with stretch := 0, cell := 0 }, timer := 0, events := [] } =
      { line := afterSof, timer := 0, events := [.edge 6 6, .passes14, .symbol .sof] } := by
  decide +kernel

/-! ### What is left of them -/

theorem dropSamples_cells (bits : List Bool) :
    dropSamples 0 (bits.flatMap cellWave) = bits.flatMap cellWave := by
  cases bits with
  | nil => rfl
  | cons b bits => cases b <;> rfl

theorem dropSamples_cell (b : Bool) (w : Wave) : dropSamples 40 (cellWave b ++ w) = dropSamples 0 w := by
  cases b <;> simp [cellWave, dropSamples]

/-- After a bit that was driven and read as it is, the cells that follow it are left. -/
theorem restOfCells_afterCell (lead : Wave) (bits : List Bool) (k : Nat) (b : Bool)
    (h : bits[k]? = some b) :
    restOfCells lead bits (k + 1) (afterCell b) = (bits.drop (k + 1)).flatMap cellWave := by
  obtain ⟨hk, rfl⟩ := List.getElem?_eq_some_iff.mp h
  have cells : (bits.drop k).flatMap cellWave = cellWave bits[k] ++ (bits.drop (k + 1)).flatMap cellWave := by
    rw [List.drop_eq_getElem_cons hk, List.flatMap_cons]
  simp [restOfCells, afterCell, Line.cellPlace, cells, dropSamples_cell, dropSamples_cells]

/-- After the SOF, all the cells are left. -/
theorem restOfCells_afterSof (bits : List Bool) :
    restOfCells sofWave bits 0 afterSof = bits.flatMap cellWave := by
  simp [restOfCells, afterSof, Line.cellPlace, sofWave, dropSamples, dropSamples_cells]

/-- What driven cells bring after a bit. -/
def cellEvents (before : Bool) : List Bool → List LineEvent
  | [] => []
  | b :: bits => .edge (if before then 30 else 10) 40 :: (bitEvents b ++ cellEvents b bits)

/-- Driven cells are read as their bits. -/
theorem hear_cells (before : Bool) (bits : List Bool) :
    hearWave (bits.flatMap cellWave) { line := afterCell before, timer := 0, events := [] } =
      { line := afterCell (bits.getLast?.getD before), timer := 0, events := cellEvents before bits } := by
  induction bits generalizing before with
  | nil => simp [cellEvents]
  | cons b bits ih =>
      have split : ({ line := afterCell b, timer := 0
                      events := .edge (if before then 30 else 10) 40 :: bitEvents b } : Heard) =
          ({ line := afterCell b, timer := 0, events := [] } : Heard).after
            (.edge (if before then 30 else 10) 40 :: bitEvents b) := by
        simp [Heard.after]
      rw [List.flatMap_cons, hearWave_append, hear_cell, split, hearWave_after, ih]
      simp [Heard.after, cellEvents, List.getLast?_cons]

/-- A frame of at least one bit, driven on an idle line, up to the end of its last cell. -/
theorem hear_frame (bytes : List Byte) (b : Bool) (bits : List Bool) (h : bytesBits bytes = b :: bits) :
    hearWave (frameWave bytes) { line := idleLine, timer := 0, events := [] } =
      { line := afterCell (bits.getLast?.getD b), timer := 0
        events := [.edge 126 166, .passes14, .symbol .sof] ++
          (.edge 40 160 :: (bitEvents b ++ cellEvents b bits)) } := by
  have wave : frameWave bytes = sofWave ++ (cellWave b ++ bits.flatMap cellWave) := by
    simp [frameWave, h]
  have first (l : Line) (e : List LineEvent) :
      ({ line := l, timer := 0, events := e } : Heard) =
        ({ line := l, timer := 0, events := [] } : Heard).after e := by simp [Heard.after]
  rw [wave, hearWave_append, hear_sof, first afterSof, hearWave_after, hearWave_append, hear_firstCell,
    first (afterCell b), hearWave_after, hear_cells]
  simp [Heard.after]

/-- Recessive after the last bit: EOD, and after a ONE, whose recessive is the longer, R154's 80 too. -/
theorem hear_end (bit : Bool) :
    hearWave [(false, 60)] { line := afterCell bit, timer := 0, events := [] } =
      { line := { filter := { count := 0, dominant := false }, stretch := if bit then 84 else 64, cell := 94
                  idle := false }
        timer := 0, events := if bit then [.eod, .ifrTurn] else [.eod] } := by
  cases bit <;> decide +kernel

/-- Every event that a driven frame brings on an idle line, up to its EOD. -/
theorem hear_whole_frame (bytes : List Byte) (b : Bool) (bits : List Bool) (h : bytesBits bytes = b :: bits) :
    (hearWave (frameWave bytes ++ [(false, 60)]) { line := idleLine, timer := 0, events := [] }).events =
      [.edge 126 166, .passes14, .symbol .sof] ++ (.edge 40 160 :: (bitEvents b ++ cellEvents b bits)) ++
        (if bits.getLast?.getD b then [.eod, .ifrTurn] else [.eod]) := by
  have split (l : Line) (e : List LineEvent) :
      ({ line := l, timer := 0, events := e } : Heard) =
        ({ line := l, timer := 0, events := [] } : Heard).after e := by simp [Heard.after]
  rw [hearWave_append, hear_frame bytes b bits h, split, hearWave_after, hear_end]
  simp [Heard.after]

end Sys2Proof.Machine
end

