-- ==== Sys2Proof/Laws/Store.lean ====
section
/-! SUPPORT. Laws/Store.lean: the Table Store as a memory: a write reads back, leaves every other byte
alone and keeps the canonical form. -/

namespace Sys2Proof.Machine

/-- Every listed address of a canonical store is at or above its bound, so a lower one is erased. -/
theorem storeRead_below {m : List Host.Cell} {low a : Nat} (h : storeRises low m = true)
    (ha : a < low) : storeRead m a = Config.erasedByte := by
  cases m with
  | nil => rfl
  | cons c rest =>
    obtain ⟨b, v⟩ := c
    simp only [storeRises, Bool.and_eq_true, decide_eq_true_eq] at h
    have h1 : a ≠ b := by omega
    have h2 : a < b := by omega
    simp [storeRead, h1, h2]

theorem storeRises_mono {m : List Host.Cell} {low low' : Nat} (h : storeRises low m = true)
    (hl : low' ≤ low) : storeRises low' m = true := by
  cases m with
  | nil => rfl
  | cons c rest =>
    simp only [storeRises, Bool.and_eq_true, decide_eq_true_eq] at h ⊢
    exact ⟨⟨by omega, h.1.2⟩, h.2⟩

theorem storeCons_rises {m : List Host.Cell} {low a : Nat} {v : Byte} (hl : low ≤ a)
    (h : storeRises (a + 1) m = true) : storeRises low (storeCons a v m) = true := by
  unfold storeCons
  split
  · exact storeRises_mono h (by omega)
  · rename_i hv
    simp [storeRises, hl, hv, h]

/-- A write keeps the canonical form. -/
theorem storeWrite_rises {m : List Host.Cell} {low a : Nat} {v : Byte} (hl : low ≤ a)
    (h : storeRises low m = true) : storeRises low (storeWrite m a v) = true := by
  induction m generalizing low with
  | nil => exact storeCons_rises hl (by rfl)
  | cons c rest ih =>
    obtain ⟨b, w⟩ := c
    simp only [storeRises, Bool.and_eq_true, decide_eq_true_eq] at h
    simp only [storeWrite]
    split
    · rename_i hab
      subst hab
      exact storeCons_rises hl h.2
    · split
      · rename_i h1 h2
        refine storeCons_rises hl ?_
        simp only [storeRises, Bool.and_eq_true, decide_eq_true_eq]
        exact ⟨⟨by omega, h.1.2⟩, h.2⟩
      · rename_i h1 h2
        simp only [storeRises, Bool.and_eq_true, decide_eq_true_eq]
        exact ⟨h.1, ih (by omega) h.2⟩

theorem storeWrite_wf {m : List Host.Cell} (a : Nat) (v : Byte) (h : storeWf m = true) :
    storeWf (storeWrite m a v) = true := storeWrite_rises (Nat.zero_le a) h

theorem storeWriteAll_wf {m : List Host.Cell} (a : Nat) (vs : List Byte) (h : storeWf m = true) :
    storeWf (storeWriteAll m a vs) = true := by
  induction vs generalizing m a with
  | nil => exact h
  | cons v vs ih => exact ih (a + 1) (storeWrite_wf a v h)

/-- WRITE ENTRY's change keeps the canonical form. -/
theorem writeGroup_wf {m : List Host.Cell} (t : TableId) (i g : Nat) (bs : List Byte)
    (h : storeWf m = true) : storeWf (writeGroup m t i g bs) = true :=
  storeWrite_wf _ _ (storeWriteAll_wf _ _ h)

theorem storeRead_cons_ne {b a : Nat} {w : Byte} {rest : List Host.Cell} (h : a ≠ b)
    (hr : a < b → storeRead rest a = Config.erasedByte) :
    storeRead ((b, w) :: rest) a = storeRead rest a := by
  by_cases hlt : a < b
  · simp [storeRead, h, hlt, hr hlt]
  · simp [storeRead, h, hlt]

theorem storeRead_storeCons {m : List Host.Cell} {a b : Nat} {v : Byte}
    (h : storeRises (a + 1) m = true) :
    storeRead (storeCons a v m) b = if b = a then v else storeRead m b := by
  unfold storeCons
  split
  · rename_i hv
    by_cases hb : b = a
    · subst hb; simp [hv, storeRead_below h (Nat.lt_succ_self b)]
    · simp [hb]
  · by_cases hb : b = a
    · subst hb; simp [storeRead]
    · rw [if_neg hb]
      exact storeRead_cons_ne hb fun hlt => storeRead_below h (by omega)

/-- One write: the byte written reads back, and every other byte reads as before. -/
theorem storeRead_storeWrite {m : List Host.Cell} {low a b : Nat} {v : Byte}
    (h : storeRises low m = true) :
    storeRead (storeWrite m a v) b = if b = a then v else storeRead m b := by
  induction m generalizing low with
  | nil => exact storeRead_storeCons (by rfl)
  | cons c rest ih =>
    obtain ⟨k, w⟩ := c
    simp only [storeRises, Bool.and_eq_true, decide_eq_true_eq] at h
    simp only [storeWrite]
    split
    · rename_i hak
      subst hak
      rw [storeRead_storeCons h.2]
      by_cases hb : b = a
      · simp [hb]
      · rw [if_neg hb, if_neg hb]
        exact (storeRead_cons_ne hb fun hlt => storeRead_below h.2 (by omega)).symm
    · split
      · rename_i h1 h2
        refine storeRead_storeCons ?_
        simp only [storeRises, Bool.and_eq_true, decide_eq_true_eq]
        exact ⟨⟨by omega, h.1.2⟩, h.2⟩
      · rename_i h1 h2
        by_cases hbk : b = k
        · have : b ≠ a := fun e => h1 (by omega)
          subst hbk
          simp [storeRead, this]
        · have hlow : b < k → storeRead rest b = Config.erasedByte := fun hlt =>
            storeRead_below h.2 (by omega)
          have hw : b < k → storeRead (storeWrite rest a v) b = Config.erasedByte := fun hlt => by
            rw [ih h.2, if_neg (by omega), hlow hlt]
          rw [storeRead_cons_ne hbk hw, ih h.2, storeRead_cons_ne hbk hlow]

end Sys2Proof.Machine
end

