-- ==== Sys2Proof/Tests/Slice0.lean ====
section
/-! SUPPORT. Tests/Slice0.lean: the ill-formed commands that the check refuses, the manual's worked
figures, and for each statement with hypotheses a state and operands that meet them. Expected results
are the manual's; the section that prints them is named beside each. -/

namespace Sys2Proof.Tests

open Sys2Proof Sys2Proof.Machine

/-! ## Ill-formed commands, one for each check -/

theorem test_finding_refused :
    exec (.ignitionFinding (List.replicate 81 true)) State.reset = .refused .illFormed := rfl

theorem test_ignitionOn_refused :
    exec (.ignitionOn (List.replicate 81 true)) State.reset = .refused .illFormed := rfl

theorem test_ignitionOff_refused :
    exec (.ignitionOff (List.replicate 81 false)) State.reset = .refused .illFormed := rfl

theorem test_edge_of_din0_refused :
    exec (.debouncedEdge 0 [true]) State.reset = .refused .illFormed := rfl

theorem test_edge_samples_refused :
    exec (.debouncedEdge 3 (List.replicate 81 true)) State.reset = .refused .illFormed := rfl

theorem test_gauges_of_five_senses_refused :
    exec (.gaugeUpdate (List.replicate 5 (.current, .current))) State.reset = .refused .illFormed := rfl

/-! ## Worked figures -/

/-- S12 of section 2.4. -/
def speed : SigDesc :=
  { start := 0, width := 16, order := .msbFirst, signed := false, factor := 25, shift := 6, offset := 0
    min := 0, max := 15000, naCode := some 65535, errCode := some 65534 }

/-- Section 2.4, the speedometer's four writes. -/
theorem test_extract_speedometer :
    let first := extractSignal speed [0x5A, 0x82] SigEntry.initial
    let second := extractSignal speed [0xFF, 0xFF] first
    let third := extractSignal speed [0xEA, 0x60] second
    first = { value := 9051, status := .valid } ∧ second = { value := 9051, status := .notAvailable } ∧
      third = { value := 15000, status := .clamped } ∧
      extractSignal speed [0xFF, 0xFE] third = { value := 15000, status := .errorCode } := by
  decide

/-- Section 2.4, byte orders: 2757, 3162 and 4660. -/
theorem test_raw_byte_orders :
    let pl : List Byte := [0x3A, 0xC5, 0x34, 0x12]
    rawValue { speed with start := 4, width := 12 } pl = 2757 ∧
      rawValue { speed with start := 4, width := 12, order := .lsbFirst } pl = 3162 ∧
      rawValue { speed with start := 16, order := .lsbFirst } pl = 4660 := by
  decide

/-- Section 2.4: the signed field 0xF9C, and the sum that a 32-bit adder would wrap. -/
theorem test_scale_extremes :
    extractSignal
          { speed with width := 12, signed := true, factor := 5, shift := 3, offset := 4000, max := 10000
                       naCode := none, errCode := none } [0xF9, 0xC0] SigEntry.initial =
        { value := 3938, status := .valid } ∧
      extractSignal
          { speed with factor := 32767, shift := 0, offset := 8388607, max := 8388607, naCode := none
                       errCode := none } [0xFF, 0xFF] SigEntry.initial =
        { value := 8388607, status := .clamped } := by
  decide

/-- Section 3.3, the speedometer: T = 2129, and the first move from 28800. -/
theorem test_gauge_speedometer :
    curveTarget [(0, 0), (3000, 600), (12500, 3000)] 9051 = 2129 ∧ filterMove 28800 2129 4 = 30116 ∧
      commandMove 1800 30116 60 = 1860 ∧ commandMove 1980 32398 60 = 2025 := by
  decide

/-- Section 5.3: L4's double flash and L9's half duty. -/
theorem test_blink_patterns :
    let l4 : Lamp := { mask := 0, period := .ms1000, onTime := 2, pulses := 2, check := false }
    let l9 : Lamp := { l4 with period := .ms500, onTime := 4, pulses := 1 }
    [0, 7, 8, 15, 16, 23, 24, 31, 32].all
      (fun n => patternLit l4 n == decide (n % 16 < 8) && patternLit l9 n == decide (n % 16 < 8)) = true :=
  rfl

/-- Section 8.2: the CRC of 0x01 0x00. -/
theorem test_crc_worked : crc8 [0x01, 0x00] = 0xE9 ∧ crc8 [0x01, 0x00, 0xE9] = 0 := by
  decide +kernel

/-! ## States and commands for the tests -/

def inMode (m : Mode) : State := { State.reset with mode := m }

/-- A CMD of this payload from node 9. -/
def cmdOf (link : Link) (payload : List Byte) : Command :=
  { link := link, prio := 3, ident := 0x123, source := 9, payload := payload }

def held (m : Mode) (payload : List Byte) : State :=
  { inMode m with run.mu.phase := .executing, run.mu.cmd := some (cmdOf .vehicle payload) }

/-- Route 4, with a running timer. -/
def liveRoute : LiveRoute :=
  { cfg := { link := .vehicle, ident := 100, expected := none, first := 12, count := 2, relay := .latest
             driverAction := false, timeout := 10, supervision := .gateway }
    fresh := .fresh, timer := some 3 }

def gauge : Gauge :=
  { source := 12, fallback := none, span := 3000, curve := [(0, 0), (3000, 600), (12500, 3000)], gain := 4
    rate := 60, policy := .hold, sweep := true }

def condition : Condition :=
  { source := .above 12, set := 400, clear := 300, qualifier := none, onDelay := 20, offDelay := 0
    severity := .alarm, chime := true, announce := true, latch := true, policy := .hold, escalation := 10 }

def lamp : Lamp := { mask := 4#64, period := .ms500, onTime := 4, pulses := 1, check := true }

/-- A part in a mode, with one entry in each table: route 4, S12, G0, C2, L6, the supply and DIN3 as the
park brake. -/
def fitted (m : Mode) : State :=
  { inMode m with
    run.tables :=
      { routes := updAt Tables.initial.routes 4 fun _ => .enabled liveRoute
        signals := updAt Tables.initial.signals 12 fun _ => .enabled speed
        gauges := updAt Tables.initial.gauges 0 fun _ => .enabled gauge
        conds := updAt Tables.initial.conds 2 fun _ => .enabled condition
        lamps := updAt Tables.initial.lamps 6 fun _ => .enabled lamp
        inputs := updAt (updAt Tables.initial.inputs 0 fun _ => .enabled (.supply 8)) 3
          fun _ => .enabled (.switch false false .parkBrake) }
    run.iu.sampling := true, run.cu.evaluating := true }

/-- A frame that waits. -/
def entry (prio : Nat) (origin : Origin) : QEntry :=
  { frame0 := { kind := .data, prio := prio, ident := 100, target := 0, source := 0, payload := [1, 2] }
    frame1 := none, origin := origin, inFlight := false, part := 0, attempted := false, errors := 0 }

def driver : Driver :=
  { digest := 7, cont := 250, daily := 400, pauseRun := 20, restRun := 20, splitDone := false
    synced := true, lastPresent := 0, activity := .rest, inferred := true, remaining := 20, stage := .none }

/-- Slot 1 bound to the record of section 6.5's worked split break; the road speed is signal 5. -/
def boundDtu : Dtu :=
  { Dtu.initial with
    params := { DriveParams.defaults with roadSpeed := some 5 }
    drivers := [driver], slot1 := some 7, unsynced := false }

/-! ## Further worked figures: one command each -/

/-- The state after a command that is answered. -/
def nextOf (c : Instr) (s : State) : State :=
  match exec c s with
  | .next t => t
  | .fault _ | .refused _ => s

/-- Section 11.1's codes, and section 11.3's REPLY to a READ STATUS from node 9 to a 460 at address 4. -/
theorem test_ifr_and_reply_header :
    ifrByte .accepted = 0x96 ∧ ifrByte .unknown = 0x87 ∧
      (frameBody (replyTo { State.reset with nodeAddress := 4 } (cmdOf .vehicle [1]) [0])).take 4 =
        [0x71, 0x23, 0x94, 0x00] := by
  decide

/-! ## The hypotheses of the statements are met

One theorem for each statement with hypotheses, a state and operands at the ends of the ranges. -/

theorem witness_MsbFirstFieldIsItsBits :
    let d := { speed with start := 4 }
    d.order = .msbFirst ∧ d.signed = false ∧ d.start + d.width ≤ 8 * [0x12#8, 0x34, 0x56].length ∧
      rawValue d [0x12, 0x34, 0x56] = 0x2345 ∧ rawValue { d with start := 8 } [0x12, 0x34, 0x56] = 0x3456 := by
  decide

/-- The three pieces, the two aligned forms, and a field in one byte. -/
theorem witness_LsbFirstFieldReversesItsPieces :
    let d := { speed with start := 4 }
    let pl : List Byte := [0x12, 0x34, 0x56]
    (d.signed = false ∧ d.start + d.width ≤ 8 * pl.length ∧
        (2 < 2 ^ 4 ∧ 0x34 < 2 ^ 8 ∧ 5 < 2 ^ 4 ∧
          rawValue d pl = ((2 * 2 ^ 12 + 0x34 * 2 ^ 4 + 5 : Nat) : Int)) ∧
        rawValue { d with order := .lsbFirst } pl = 0x5342) ∧
      ({ d with start := 8, width := 8 }.start % 8 = 0 ∧ { d with start := 8 }.start % 8 = 0 ∧
        rawValue { d with start := 8, order := .lsbFirst } pl = 0x5634) ∧
      { d with width := 4 }.start % 8 + 4 ≤ 8 := by
  decide

theorem witness_SignedFieldIsTwosComplement :
    rawValue { speed with width := 1, signed := true } [0x80] = -1 ∧
      rawValue { speed with width := 1, signed := true } [0x7F] = 0 ∧
      rawValue { speed with signed := true } [0x80, 0x00] = -32768 ∧
      rawValue { speed with signed := true } [0x7F, 0xFF] = 32767 ∧
      rawValue { speed with signed := true, order := .lsbFirst } [0x00, 0x80] = -32768 := by
  decide

theorem witness_ScalingIsExactAndRoundsHalfUp :
    let d := { speed with factor := 32767, shift := 15, offset := 8388607, max := 8388607 }
    (-32768 : Int) ≤ d.factor ∧ d.factor ≤ 32767 ∧ d.shift ≤ 15 ∧ d.offset ≤ 8388607 ∧ d.min ≤ d.max ∧
      d.max < scaledValue d 65535 ∧ scaledValue { d with shift := 0 } (-32768) = -1065320449 := by
  decide

/-- A payload that ends before the field's last bit and one that ends with it; the two codes; one below min,
min, max and one above it. -/
theorem witness_ScalingIsExactAndRoundsHalfUp_extraction :
    let d := { speed with factor := 1, shift := 0, min := 10, max := 20 }
    let held : SigEntry := { value := 7, status := .valid }
    (8 * [0x00#8].length < d.start + d.width ∧ d.start + d.width ≤ 8 * [0x00#8, 9].length ∧ d.min ≤ d.max) ∧
      extractSignal d [0] held = { value := 7, status := .notAvailable } ∧
      (d.naCode = some (rawValue d [0xFF, 0xFF]) ∧ d.naCode ≠ some (rawValue d [0xFF, 0xFE]) ∧
        d.errCode = some (rawValue d [0xFF, 0xFE])) ∧
      ([9#8, 10, 20, 21].map fun b => extractSignal d [0, b] held) =
        [{ value := 10, status := .clamped }, { value := 10, status := .valid },
          { value := 20, status := .valid }, { value := 20, status := .clamped }] := by
  decide

theorem witness_CurveInterpolatesAndHoldsItsEnds :
    let pts : List (Int × Nat) := [(0, 5), (2, 0)]
    xsRise pts = true ∧ 2 ≤ pts.length ∧ (∀ p ∈ pts, p.2 ≤ 5) ∧ pts.head? = some (0, 5) ∧
      pts.getLast? = some (2, 0) ∧ pts[0]? = some (0, 5) ∧ pts[0 + 1]? = some (2, 0) ∧
      [-1, 0, 1, 2, 3].map (curveTarget pts) = [5, 5, 3, 0, 0] := by
  decide

/-- A move of more than 0, the two of one sixteenth, none, and the undamped one. -/
theorem witness_FilterReachesItsTarget :
    filterMove 0 1 4 = 4 ∧ filterMove 0 1 16 = 16 ∧ filterMove 13 1 4 = 14 ∧ filterMove 3 0 4 = 2 ∧
      filterMove 16 1 1 = 16 ∧ (0 : Int) ≤ 0 ∧ (1 : Int) ≤ (1 : Nat) := by
  decide

theorem witness_CrcIsComputedSentAndChecked :
    let body : List Byte := [0x01, 0x00]
    let longest : List Byte := 0x69 :: List.replicate 11 0
    headerIsComplete body = true ∧ body.length ≤ 12 ∧ endOfDataFault (body ++ [0xE9]) 0 none = none ∧
      endOfDataFault (body ++ [0xE8]) 0 none = some .crc ∧ headerIsComplete longest = true ∧
      longest.length ≤ 12 := by
  decide +kernel

theorem witness_FrameHeaderRoundTrips :
    let top : Frame := { kind := .cmd, prio := 7, ident := 2047, target := 15, source := 15, payload := [] }
    let bottom : Frame := { kind := .note, prio := 0, ident := 0, target := 0, source := 0, payload := [1] }
    (top.prio < 8 ∧ top.ident < 2048 ∧ top.target < 16 ∧ top.kind.addressed = true ∧
        frameBody top = [0xEF, 0xFF, 0xFF]) ∧
      bottom.kind.addressed = false ∧ frameBody bottom = [0x18, 0x00, 0x01] ∧
      idleLine.filter = { count := 0, dominant := false } ∧ 120 ≤ idleLine.stretch := by
  decide

/-- Section 1.5's worked placement: route 31's frame passes R30-A and not the broadcast in flight; and an
attempt that changes what is sent. -/
theorem witness_VtqPlacementByPriority :
    let flying : QEntry := { entry 6 .broadcast with inFlight := true }
    let q := [flying, entry 5 (.route 30)]
    let s : State :=
      { inMode .run with run.queues.vtq := q
                         run.vli.iface := { Iface.initial with rx := .idle, line := idleLine } }
    (vtqInsert (entry 3 (.route 31)) q = [flying, entry 3 (.route 31), entry 5 (.route 30)] ∧
        (∀ x ∈ q.tail, x.inFlight = false) ∧ (entry 3 (.route 31)).inFlight = false ∧
        ((q.filter fun e => !e.inFlight).Pairwise fun a b => a.frame0.prio ≤ b.frame0.prio)) ∧
      (∀ x ∈ q.tail, x.inFlight = false) ∧ due s = false ∧
      (nextOf .transmitAttemptStart s).run.vli.sending ≠ s.run.vli.sending := by
  decide

/-- Section 4.3's worked hysteresis: 1020, 1055, 1030, 990, and an unusable signal, above and below. -/
theorem witness_ThresholdTruthHasHysteresis :
    let s (v : Int) (st : SigStatus) : State :=
      { inMode .run with run.signals := updAt Run.initial.signals 5 fun _ => { value := v, status := st } }
    let c := { condition with source := .above 5, set := 1050, clear := 1000 }
    let b := { condition with source := .below 5, set := 1000, clear := 1050 }
    (sourceTruth (s 1020 .valid) c false = some false ∧ sourceTruth (s 1050 .valid) c false = some true ∧
        sourceTruth (s 1030 .valid) c true = some true ∧ sourceTruth (s 999 .clamped) c true = some false ∧
        sourceTruth (s 1030 .stale) c true = none) ∧
      sourceTruth (s 1000 .valid) b false = some true ∧ sourceTruth (s 1050 .valid) b true = some true ∧
        sourceTruth (s 1051 .valid) b true = some false ∧ sourceTruth (s 0 .never) b true = none := by
  refine ⟨⟨?_, ?_, ?_, ?_, ?_⟩, ?_, ?_, ?_, ?_⟩ <;> rfl

/-! ### The links -/

/-- A fitted part in RUN whose interfaces have received a SOF, with nothing in their buffers yet. -/
def hearing : State :=
  { fitted .run with
    nodeAddress := 4
    run.vli.iface := { Iface.initial with rx := .receiving, line := afterSof }
    run.dli.iface := { Iface.initial with rx := .receiving, line := afterSof } }

def lineIdle (m : Mode) : State :=
  { inMode m with run.vli.iface := { Iface.initial with rx := .idle, line := idleLine } }

/-- The interface has read these bytes, the last bit a ZERO, and is bound. -/
def bound (link : Link) (bytes : List Byte) (b : Option Binding) (s : State) : State :=
  setIface link { line := afterCell false, rx := .receiving, buffer := bytes, bits := 8 * bytes.length
                  binding := b } s

/-- The interface has read a header but for its last bit. -/
def beforeLastBit (header : List Byte) : State :=
  let s := bound .vehicle (header.dropLast ++ [header.getLastD 0 &&& 0xFE]) none hearing
  { s with run.vli.iface.bits := 8 * header.length - 1 }

/-- The recessive that brings EOD after a ZERO. -/
def toEod : Wave := [(false, 56)]

/-- The line is held dominant for so many samples and then recessive, until the filter has followed. -/
def pulse (n : Nat) : Wave := [(true, n), (false, 7)]

/-- Bits are assembled from an empty buffer and after a third bit. -/
theorem witness_HeadersAreBound_assembly :
    (∀ k, 0 ≤ k → (bytesBits []).getD k false = false) ∧ ([] : List Byte).length = (0 + 7) / 8 ∧
      (∀ k, 3 ≤ k → (bytesBits [0xA0]).getD k false = false) ∧ [0xA0#8].length = (3 + 7) / 8 ∧
      ({ Iface.initial with buffer := [0xA0], bits := 3 }.addBit true).buffer = [0xB0] := by
  refine ⟨fun k _ => rfl, rfl, fun k h => ?_, rfl, rfl⟩
  by_cases hk : k < 8
  · have all : ∀ k, k < 8 → 3 ≤ k → (bytesBits [0xA0]).getD k false = false := by decide
    exact all k hk h
  · exact List.getD_eq_default _ _ (by simpa [bytesBits, byteBits] using Nat.le_of_not_lt hk)

/-- A SOF, and pulses at the bounds of the filter and of the SOF, on an idle line. -/
theorem witness_HeadersAreBound_sof :
    let s := lineIdle .run
    (due s = false ∧ hears s .vehicle = true ∧ s.run.vli.sending = none ∧ s.run.vli.iface.rx = .idle ∧
        s.run.vli.iface.line.filter = { count := 0, dominant := false } ∧
        s.run.vli.iface.line.stretch = 120) ∧
      (heard s .vehicle (pulse 120)).events = [.edge 126 166, .passes14] ++ [.symbol .sof] ∧
      nextOf (.sofReceived .vehicle (pulse 6)) s = s ∧
      ([7, 99, 100, 140, 141].map fun n =>
          (nextOf (.sofReceived .vehicle (pulse n)) s).run.vli.iface.rx) =
        [.idle, .idle, .receiving, .receiving, .idle] := by
  decide +kernel

/-- Headers of route 4, of no route, of a CMD to node 4, to all and to another node, of a NOTE, at their last
bit. -/
theorem witness_HeadersAreBound :
    (∀ h ∈ ([[0x60, 100], [0x60, 101], [0x69, 0x23, 0x49], [0x69, 0x23, 0xF9], [0x69, 0x23, 0x39],
          [0x18, 0x00]] : List (List Byte)),
        let s := beforeLastBit h
        let b := (h.getLastD 0).getLsbD 0
        due s = false ∧ hears s .vehicle = true ∧ s.run.vli.sending = none ∧
          s.run.vli.iface.rx = .receiving ∧ s.run.vli.iface.bits < 104 ∧
          (heard s .vehicle (cellWave b)).events =
            (if b then [.edge 10 40] else [.edge 10 40, .passes14]) ++ [.symbol (if b then .one else .zero)] ∧
          headerIsComplete (wholeBytes s.run.vli.iface) = false ∧
          wholeBytes (s.run.vli.iface.addBit b) = h) ∧
      ([[0x60#8, 100#8], [0x60, 101], [0x69, 0x23, 0x49], [0x69, 0x23, 0xF9], [0x69, 0x23, 0x39],
          [0x18, 0x00]].map (fun h => (headerOf h).kind)) = [.data, .data, .cmd, .cmd, .cmd, .note] ∧
      (headerOf [0x60, 100]).ident = 100 ∧ (routeAt hearing 4).map (·.cfg.ident) = some 100 ∧
      (headerOf [0x69, 0x23, 0x49]).target = 4 ∧ (headerOf [0x69, 0x23, 0xF9]).target = 15 ∧
      (nextOf (.headerComplete .vehicle (cellWave false)) (beforeLastBit [0x60, 100])).run.vli.iface.binding =
        some (.route 4 100 none) := by
  decide +kernel

/-- The least n for which no lower route serves is route 4: the hypothesis of the first clause. -/
theorem witness_HeadersAreBound_first :
    ∀ m r, m < 4 →
      ¬ (routeAt (beforeLastBit [0x60, 100]) m = some r ∧ r.cfg.link = .vehicle ∧ r.cfg.ident = 100) := by
  have none_below : ∀ k, k < 4 → routeAt (beforeLastBit [0x60, 100]) k = none := by decide
  intro m r hm h
  rw [none_below m hm] at h
  exact absurd h.1 (by simp)

/-- Symbols next to their bounds after a SOF, a first edge too late, and the bit after the last place. -/
theorem witness_DamagedFramesAreDropped :
    let s := hearing
    let full := bound .vehicle (List.replicate 13 0) none hearing
    let error (w : Wave) (s : State) := (nextOf (.receiveError .vehicle w) s).run.mu.lastLinkError
    (due s = false ∧ receiving s .vehicle = true ∧ s.run.vli.iface.bits = 0 ∧ due full = false ∧
        receiving full .vehicle = true ∧ full.run.vli.iface.bits = 104) ∧
      (heard s .vehicle [(true, 246)]).events = [.edge 40 160, .passes14] ++ [.symbol .brk] ∧
      (heard s .vehicle (pulse 239)).events = [.edge 40 160, .passes14] ++ [.symbol .invalid] ∧
      (heard s .vehicle [(false, 10), (true, 7)]).events = [] ++ [.edge 50 170] ∧
      (heard s .vehicle [(false, 11), (true, 7)]).events = [] ++ [.edge 51 171] ∧
      (heard full .vehicle (cellWave true)).events = [.edge 10 40] ++ [.symbol .one] ∧
      ([240, 239, 120, 15, 25, 35].map fun n => error (pulse n) s) =
        [.at_ .vehicle .brk, .at_ .vehicle .invalid, .at_ .vehicle .invalid, .at_ .vehicle .invalid,
          .at_ .vehicle .invalid, .at_ .vehicle .invalid] ∧
      ([14, 26, 34].map fun n => error (pulse n) s) = [.none, .none, .none] ∧
      error [(false, 11), (true, 7)] s = .at_ .vehicle .invalid ∧
      error (cellWave true) full = .at_ .vehicle .framing := by
  decide +kernel

/-- EOD of a frame of 2 bytes, with 3 bits too many, of a wrong CRC and of a wrong length. -/
theorem witness_DamagedFramesAreDropped_eod :
    let b (bytes : List Byte) : State := bound .vehicle bytes (some (.route 4 100 (some 8))) hearing
    let stray : State := { b [0x60, 100, 1, 0] with run.vli.iface.bits := 27 }
    let good (body : List Byte) := body ++ [crc8 body]
    (∀ s ∈ [b [0x60, 100], stray, b [0x60, 100, 0], b (good [0x60, 100])],
        due s = false ∧ receiving s .vehicle = true ∧ (heard s .vehicle toEod).events = [] ++ [.eod]) ∧
      (good [0x60, 100]).getLastD 0 = crc8 (good [0x60, 100]).dropLast ∧
      ([b [0x60, 100], stray, b [0x60, 100, 0], b (good [0x60, 100])].map fun s =>
          (nextOf (.receiveError .vehicle toEod) s).run.mu.lastLinkError) =
        [.at_ .vehicle .framing, .at_ .vehicle .framing, .at_ .vehicle .crc, .at_ .vehicle .length] := by
  decide +kernel

/-- In IFR_WAIT after the third bit of another node's IFR: a BREAK, a stretch of 20, an edge after 45
samples, and a recessive of 60. -/
theorem witness_DamagedFramesAreDropped_ifr :
    let s : State :=
      { inMode .run with
        run.vli.iface := { Iface.initial with rx := .ifrWait, bits := 3, line := afterCell false } }
    (due s = false ∧ hears s .vehicle = true ∧ s.run.vli.ifr = none ∧ s.run.vli.sending = none) ∧
      (heard s .vehicle [(true, 246)]).events = [.edge 10 40, .passes14] ++ [.symbol .brk] ∧
      (heard s .vehicle (pulse 20)).events = [.edge 10 40, .passes14] ++ [.symbol .invalid] ∧
      (heard s .vehicle [(false, 5), (true, 7)]).events = [] ++ [.edge 15 45] ∧
      (heard s .vehicle toEod).events = [] ++ [.eod] ∧
      ([[(true, 246)], pulse 20, [(false, 5), (true, 7)], toEod].map fun w =>
          (nextOf (.ifrWaitSymbolError w) s).run.mu.lastLinkError) =
        [.at_ .vehicle .brk, .at_ .vehicle .invalid, .at_ .vehicle .invalid, .at_ .vehicle .framing] := by
  decide +kernel

/-- A command of this payload to this target, up to its EOD. -/
def commandFrame (target : Byte) (payload : List Byte) : List Byte :=
  let body := [0x69, 0x23, 16 * target + 9] ++ payload
  body ++ [crc8 body]

def admitting (link : Link) (m : Mode) (ph : MuPhase) (received : List Byte) : State :=
  { bound link received (some .mu) hearing with mode := m, run.mu.phase := ph }

/-- Section 11.3's READ STATUS, on each link: accepted, refused in the mode, too long, out of its range,
unknown, empty; and busy. -/
theorem witness_CommandsAreAdmitted :
    (∀ link ∈ [Link.vehicle, .display], ∀ ph ∈ [MuPhase.idle, .executing],
        let s := admitting link .run ph (commandFrame 4 [1])
        due s = false ∧ receiving s link = true ∧ (heard s link toEod).events = [.eod] ∧
          (ifaceOf s link).binding = some .mu) ∧
      (∀ pl ∈ ([[1], [4], [1, 0], [0x22, 3], [0x99], []] : List (List Byte)),
        endOfDataFault (commandFrame 4 pl) 0 none = none) ∧
      (headerOf (commandFrame 4 [1]).dropLast).target = 4 ∧ hearing.nodeAddress = 4 ∧
      ([[1], [4], [1, 0], [0x22, 3], [0x99], []].map fun pl =>
          (nextOf (.frameAccepted .vehicle toEod)
            (admitting .vehicle .run .idle (commandFrame 4 pl))).run.vli.ifr.map Ifr.byte) =
        [Code.accepted, .refusedMode, .refusedRange, .refusedRange, .unknown, .unknown].map
          (fun c => some (ifrByte c)) ∧
      (nextOf (.frameAccepted .vehicle toEod)
        (admitting .vehicle .run .executing (commandFrame 4 [1]))).run.vli.ifr.map Ifr.byte =
        some (ifrByte .busy) := by
  decide +kernel

/-- To all nodes: CLEAR STATUS in RUN, and READ STATUS. -/
theorem witness_CommandsAreAdmitted_all :
    let s (pl : List Byte) : State :=
      { admitting .vehicle .run .idle (commandFrame 15 pl) with run.mu.transmitAbandoned := true }
    (∀ pl ∈ [[2#8], [1]], due (s pl) = false ∧ receiving (s pl) .vehicle = true ∧
        (heard (s pl) .vehicle toEod).events = [.eod] ∧
        (headerOf (commandFrame 15 pl).dropLast).target = 15 ∧ (s pl).nodeAddress ≠ 15 ∧
        endOfDataFault (commandFrame 15 pl) 0 none = none) ∧
      payloadCmd (payloadOf (commandFrame 15 [2]).dropLast) = some .clearStatus ∧
      ([[2#8], [1]].map fun pl =>
          (nextOf (.frameAccepted .vehicle toEod) (s pl)).run.mu.transmitAbandoned) = [false, true] := by
  decide +kernel

/-- A frame of route 4 with S12's raw 23170 of section 2.4. -/
def routeFrame : List Byte := [0x60, 100, 0x5A, 0x82, crc8 [0x60, 100, 0x5A, 0x82]]

/-- Route 4 with this description; its frame has been received on its link. -/
def accepting (cfg : Route) (received : List Byte) : State :=
  let s := bound cfg.link received (some (.route 4 100 none)) hearing
  { s with run.tables.routes :=
      updAt Tables.initial.routes 4 fun _ => .enabled { liveRoute with cfg := cfg } }

/-- The frame is accepted and its signal extracted; its copy takes the place of a waiting one. -/
theorem witness_DataFramesAreDispatched :
    let s : State :=
      { accepting liveRoute.cfg routeFrame with
        run.queues.drq := [entry 6 (.route 9), entry 5 (.route 4)] }
    (due s = false ∧ receiving s .vehicle = true ∧ s.run.signals.length = 163 ∧ routing s = true ∧
        (heard s .vehicle toEod).events = [.eod] ∧ s.run.vli.iface.buffer = routeFrame ∧
        s.run.vli.iface.bits = 8 * routeFrame.length ∧
        s.run.vli.iface.binding = some (.route 4 100 none) ∧
        endOfDataFault routeFrame 0 (some (.route 4 100 none)) = none ∧
        routeAt s 4 = some liveRoute ∧ liveRoute.cfg.link = .vehicle ∧ liveRoute.cfg.relay = .latest ∧
        liveRoute.cfg.first + liveRoute.cfg.count ≤ 160 ∧ s.run.mc.validation = none ∧
        waitingOf (.route 4) (entry 6 (.route 9)) = false ∧ waitingOf (.route 4) (entry 5 (.route 4)) = true) ∧
      signalAt (nextOf (.frameAccepted .vehicle toEod) s) 12 = { value := 9051, status := .valid } ∧
      (nextOf (.frameAccepted .vehicle toEod) s).run.queues.drq.length = 2 := by
  decide +kernel

/-- A display-link frame of route 4 relayed ALL to a VTQ of 7 and of 8 entries, and LATEST to one where it
waits at another priority. -/
theorem witness_DataFramesAreDispatched_relay :
    let cfg (relay : Relay) : Route := { liveRoute.cfg with link := .display, relay := relay }
    let s (relay : Relay) (q : List QEntry) : State :=
      { accepting (cfg relay) routeFrame with run.queues.vtq := q }
    let t (relay : Relay) (q : List QEntry) : State := nextOf (.frameAccepted .display toEod) (s relay q)
    (∀ n ∈ [7, 8], let s := s .all (List.replicate n (entry 6 .broadcast))
        due s = false ∧ receiving s .display = true ∧ (heard s .display toEod).events = [.eod] ∧
          routeAt s 4 = some { liveRoute with cfg := cfg .all }) ∧
      ([7, 8].map fun n => (t .all (List.replicate n (entry 6 .broadcast))).run.queues.vtq.length) = [8, 8] ∧
      ([7, 8].map fun n => (t .all (List.replicate n (entry 6 .broadcast))).run.flags.relayOverflow) =
        [false, true] ∧
      (waitingOf (.route 4) (entry 6 .broadcast) = false ∧ waitingOf (.route 4) (entry 5 (.route 4)) = true) ∧
      ((t .latest [entry 2 .broadcast, entry 5 (.route 4)]).run.queues.vtq.map fun e => e.frame0.prio) =
        [2, 3] := by
  decide +kernel

/-- A driver action of condition 2, whose entry is unacknowledged: by its index, as the newest, for another
index, without the index, of another code, and empty. -/
theorem witness_DataFramesAreDispatched_driver :
    let cfg : Route := { liveRoute.cfg with driverAction := true, relay := .none, count := 0 }
    let frame (pl : List Byte) : List Byte := [0x60, 100] ++ pl ++ [crc8 ([0x60, 100] ++ pl)]
    let s (pl : List Byte) : State :=
      { accepting cfg (frame pl) with
        run.tu.alerts := [{ cond := 2, severity := .alarm, acked := false, level := 1, timer := none }]
        run.cu.recs := updAt Run.initial.cu.recs 2 fun r => { r with state := .active } }
    (∀ pl ∈ ([[1, 2], [2], [1, 3], [1], [3, 2], []] : List (List Byte)),
        due (s pl) = false ∧ receiving (s pl) .vehicle = true ∧ (heard (s pl) .vehicle toEod).events = [.eod] ∧
          routeAt (s pl) 4 = some { liveRoute with cfg := cfg } ∧ routing (s pl) = true ∧
          endOfDataFault (frame pl) 0 (some (.route 4 100 none)) = none) ∧
      (liveRoute.fresh ≠ .stale ∧ condAt (s []) 2 = some condition ∧
        evalRec (s []) condition 2 (condRec (s []) 2) = condRec (s []) 2) ∧
      (([[1, 2], [2], [1, 3], [1], [3, 2], []] : List (List Byte)).map fun pl =>
          ((nextOf (.frameAccepted .vehicle toEod) (s pl)).run.tu.alerts.map fun a => (a.acked, a.level))) =
        [[(true, 0)], [(true, 0)], [(false, 1)], [(false, 1)], [(false, 1)], [(false, 1)]] := by
  decide +kernel

/-- The acknowledged entry of a LATCHED condition whose source is false goes. -/
theorem witness_Acknowledged_latched :
    let s : State :=
      { fitted .run with
        run.signals := updAt Run.initial.signals 12 fun _ => { value := 0, status := .valid }
        run.tu.alerts := [{ cond := 2, severity := .alarm, acked := false, level := 0, timer := none }]
        run.cu.recs := updAt Run.initial.cu.recs 2 fun r => { r with state := .latched } }
    condAt s 2 = some condition ∧ (condRec s 2).state = .latched ∧ s.run.cu.evaluating = true ∧
      (evalRec s condition 2 { condRec s 2 with state := .inactive }).state = .inactive ∧
      condition.qualifier ≠ some 2 ∧ (acknowledge (some 2) s).run.tu.alerts = [] := by
  decide +kernel

/-- A frame being received, its next cell in time and not in time. -/
theorem witness_IdleAndStuckLine_receiving :
    let s (bits : Nat) (l : Line) : State :=
      { inMode .run with run.vli.iface := { Iface.initial with rx := .receiving, bits := bits, line := l } }
    let late : Line := { afterCell true with stretch := 50, cell := 60 }
    (∀ t ∈ [s 0 afterSof, s 2 (afterCell true), s 2 late], hears t .vehicle = true ∧
        receiving t .vehicle = true ∧ t.run.vli.iface.line.filter = { count := 0, dominant := false } ∧
        t.run.vli.iface.line.stretch < 54) ∧
      (4 ≤ afterSof.stretch ∧ afterSof.stretch ≤ 44) ∧
      (30 ≤ (afterCell true).cell ∧ (afterCell true).cell ≤ 38) ∧ ¬ (30 ≤ late.cell ∧ late.cell ≤ 38) ∧
      (nextOf (.receiveError .vehicle [(true, 246)]) (s 2 (afterCell true))).run.mu.lastLinkError =
        .at_ .vehicle .brk ∧
      (nextOf (.receiveError .vehicle [(true, 246)]) (s 2 late)).run.mu.lastLinkError =
        .at_ .vehicle .invalid := by
  decide +kernel

theorem witness_IdleAndStuckLine :
    let s := { inMode .run with run.vli.iface.rx := .stuck, run.flags.vlinkStuck := true }
    let dark : State :=
      { inMode .run with
        run.vli.stuckTimer := 19990
        run.vli.iface.line :=
          { filter := { count := 7, dominant := true }, stretch := 19990, cell := 19990, idle := false } }
    (due s = false ∧ hears s .vehicle = true ∧ betweenFrames s .vehicle = true ∧
        s.run.vli.iface.line.filter = { count := 0, dominant := false } ∧ s.run.vli.iface.line.stretch < 120) ∧
      (due (inMode .run) = false ∧ hears (inMode .run) .display = true ∧
        betweenFrames (inMode .run) .display = true ∧ (inMode .run).run.dli.iface.rx = .errorWait) ∧
      (nextOf (.lineIdle .vehicle) s).run.flags.vlinkStuck = false ∧
      (hears (inMode .run) .vehicle = true ∧ betweenFrames (inMode .run) .vehicle = true ∧
        noticing (inMode .run) = true) ∧
      (nextOf .stuckLineTimeout dark).run.flags.vlinkStuck = true ∧
      (nextOf .stuckLineTimeout dark).run.vli.stuckTimer = 20000 := by
  decide +kernel

/-- The head of the VTQ, from an idle line; an attempt read back to its last bit, with one part, two, and a
REPLY; and one that has just begun. -/
theorem witness_VehicleFramesAreSent :
    let s := { lineIdle .run with run.queues.vtq := [entry 3 (.route 31)] }
    let two : QEntry := { entry 3 .resultReply with frame1 := some (entry 3 .resultReply).frame0 }
    let t (e : QEntry) : State :=
      { bound .vehicle (frameBytes e.current) none (inMode .run) with
        run.queues.vtq := [e], run.vli.sending := some (frameBytes e.current), run.mu.phase := .replyQueued }
    let begun := nextOf .transmitAttemptStart s
    (due s = false ∧ s.mode ≠ .standby ∧ s.run.vli.test = .off ∧ s.run.vli.sending = none ∧
        s.run.vli.iface.rx = .idle ∧ s.run.vli.iface.line.idle = true ∧
        s.run.vli.iface.line.filter.dominant = false) ∧
      (∀ e ∈ [two, entry 3 .resultReply, entry 3 .broadcast], due (t e) = false ∧
        hears (t e) .vehicle = true ∧ (t e).run.vli.iface.rx = .receiving ∧
        (t e).run.vli.iface.bits = 8 * (frameBytes e.current).length ∧
        (t e).run.vli.iface.line.filter = { count := 0, dominant := false } ∧
        (t e).run.vli.iface.line.stretch < 60 ∧
        (t e).run.vli.iface.line.stretch ≤ (t e).run.vli.iface.line.cell ∧
        (bytesBits (frameBytes e.current)).getLast?.isSome = true ∧ 24 ≤ (t e).run.vli.iface.line.cell) ∧
      (two.part = 0 ∧ two.frame1.isSome = true ∧ (entry 3 .resultReply).frame1 = none) ∧
      ((entry 3 .broadcast).origin ≠ .resultReply ∧ (entry 3 .broadcast).origin ≠ .busyReply) ∧
      (due begun = false ∧ begun.run.vli.iface.rx = .idle ∧ begun.run.vli.iface.line.idle = true ∧
        begun.run.vli.iface.line.stretch = 0 ∧ begun.run.vli.iface.line.cell = 0 ∧
        begun.run.vli.sending = some (frameBytes (entry 3 (.route 31)).current) ∧
        begun.run.vli.iface.line.filter = { count := 0, dominant := false }) ∧
      (nextOf .frameSent (t (entry 3 .broadcast))).run.vli.iface.rx = .ifrWait ∧
      (nextOf .frameSent (t (entry 3 .broadcast))).run.queues.vtq = [] := by
  decide +kernel

/-- R143: a SOF read back as 125 or 110 samples, and 15 of recessive after it: the first cell still begins 160
samples after the SOF's edge. -/
theorem test_first_cell_follows_the_sof_edge :
    (∀ n ∈ [125, 120, 110],
      restOfCells sofWave [true] 0
          (hearWave [(true, n), (false, 15)] { line := idleLine, timer := 0, events := [] }).line =
        [(false, 145 - n), (true, 10), (false, 30)]) ∧
      edgeAsDriven 0 35 160 = true ∧ edgeAsDriven 0 50 160 = true ∧ edgeAsDriven 0 41 161 = false := by
  decide +kernel

/-- Two bits of the frame have been read back. -/
def afterTwoBits (m : Mode) (e : QEntry) : State :=
  { inMode m with
    run.queues.vtq := [e], run.vli.sending := some (frameBytes e.current)
    run.vli.iface :=
      { line := afterCell true, rx := .receiving, buffer := [0x40], bits := 2, binding := none } }

/-- Section 8.4's worked arbitration: priority 3 loses at its third bit, where it sends a ONE. -/
theorem witness_LostAndFailedAttempts :
    let e := entry 3 .resultReply
    (∀ m ∈ [Mode.run, .shutdown], let s := afterTwoBits m e
        due s = false ∧ hears s .vehicle = true ∧ s.run.vli.iface.rx = .receiving ∧
          (heard s .vehicle [(true, 21)]).events = [.edge 30 40] ++ [.passes14]) ∧ e.origin ≠ .busyReply ∧
      (bytesBits (frameBytes e.current))[2]? = some true ∧
      (nextOf (.arbitrationLoss [(true, 21)]) (afterTwoBits .run e)).run.vli.iface.bits = 2 ∧
      (nextOf (.arbitrationLoss [(true, 21)]) (afterTwoBits .run e)).run.vli.sending = none ∧
      (nextOf (.arbitrationLoss [(true, 21)]) (afterTwoBits .run e)).run.queues.vtq = [e] ∧
      (nextOf (.arbitrationLoss [(true, 21)]) (afterTwoBits .shutdown e)).run.queues.vtq = [] := by
  decide +kernel

/-- A loss at EOD, to a frame that goes on with another bit. -/
theorem witness_LostAndFailedAttempts_eod :
    let e := entry 3 (.route 31)
    let s : State :=
      { bound .vehicle (frameBytes e.current) none (inMode .run) with
        run.queues.vtq := [e], run.vli.sending := some (frameBytes e.current) }
    (due s = false ∧ hears s .vehicle = true ∧ s.run.vli.iface.rx = .receiving ∧
        (bytesBits (frameBytes e.current)).length ≤ s.run.vli.iface.bits) ∧
      (heard s .vehicle [(true, 7)]).events = [.edge 10 40] ∧
      (nextOf (.arbitrationLoss [(true, 7)]) s).run.vli.sending = none ∧
      (nextOf (.arbitrationLoss [(true, 7)]) s).run.queues.vtq = [e] := by
  decide +kernel

/-- A cell begun late, a stretch that is none of the bits, a ONE where the SOF's length was sent; and the
first and second error of an entry, and one in SHUTDOWN. -/
theorem witness_LostAndFailedAttempts_errors :
    let e := entry 3 (.route 31)
    let s := afterTwoBits .run e
    let dark (m : Mode) (errors : Nat) : State := afterTwoBits m { e with errors := errors }
    let begun : State :=
      { lineIdle .run with run.queues.vtq := [e], run.vli.sending := some (frameBytes e.current) }
    (due s = false ∧ hears s .vehicle = true ∧ s.run.vli.iface.line.stretch < 60 ∧
        s.run.vli.iface.line.filter = { count := 0, dominant := false } ∧
        2 < (bytesBits (frameBytes e.current)).length) ∧
      (heard s .vehicle [(false, 1), (true, 7)]).events = [] ++ [.edge 31 41] ∧
      (heard s .vehicle (pulse 20)).events = [.edge 30 40, .passes14] ++ [.symbol .invalid] ∧
      (heard { s with run.vli.iface.bits := 0 } .vehicle (pulse 10)).events = [.edge 30 40] ++ [.symbol .one] ∧
      (bytesBits (frameBytes e.current))[0]? = some false ∧
      (nextOf (.arbitrationLoss [(false, 1), (true, 7)]) s).run.vli.iface.rx = .errorWait ∧
      (nextOf (.receiveError .vehicle (pulse 10)) { s with run.vli.iface.bits := 0 }).run.vli.iface.rx =
        .errorWait ∧
      (nextOf .transmitError (dark .run 0)).run.queues.vtq = [{ e with errors := 1 }] ∧
      (nextOf .transmitError (dark .run 1)).run.queues.vtq = [] ∧
      (nextOf .transmitError (dark .shutdown 0)).run.mu.transmitAbandoned = true ∧
      (due begun = false ∧ begun.run.vli.iface.rx = .idle) ∧
      (nextOf .transmitError begun).run.vli.iface.rx = .errorWait := by
  decide +kernel

/-- Errors in the SOF: its edge one sample late, and none within 60 samples; and a SOF in time. -/
theorem witness_LostAndFailedAttempts_sof :
    let e := entry 3 (.route 31)
    let s := nextOf .transmitAttemptStart { lineIdle .run with run.queues.vtq := [e] }
    (due s = false ∧ s.run.queues.vtq = [e.begin_] ∧ hears s .vehicle = true ∧ s.run.vli.iface.rx = .idle ∧
        s.run.vli.sending = some (frameBytes e.current)) ∧
      (heard s .vehicle [(false, 1), (true, 7)]).events = [.edge 7 7] ∧
      (heard s .vehicle [(false, 60)]).events = [.eod] ∧
      (heard s .vehicle (pulse 120)).events = [.edge 6 6, .passes14, .symbol .sof] ∧
      (∀ w ∈ [[(true, 120), (false, 7)]],
        (nextOf (.sofReceived .vehicle w) s).run.vli.iface.rx = .receiving ∧
          (nextOf (.sofReceived .vehicle w) s).run.vli.sending.isSome = true) ∧
      (∀ w ∈ [[(false, 1), (true, 7)], [(false, 60)]],
        (nextOf (.receiveError .vehicle w) s).run.vli.iface.rx = .errorWait ∧
          (nextOf (.receiveError .vehicle w) s).run.queues.vtq = [{ e.begin_ with errors := 1 }]) := by
  decide +kernel

/-- An IFR before its first cell, at its first bit and at its last, in modes that admit the command and that
do not; and a frame with none. -/
theorem witness_InFrameResponses :
    let s (sending : Bool) (bits stretch : Nat) (ph : MuPhase) (pl : List Byte) : State :=
      { inMode .run with
        run.vli.iface :=
          { Iface.initial with
            rx := .ifrWait, bits := bits
            line := { afterCell false with stretch := stretch } }
        run.vli.ifr := some { byte := 0x96, sending := sending }
        run.mu.phase := ph, run.mu.cmd := some (cmdOf .vehicle pl) }
    let quiet : State := { s false 0 60 .idle [1] with run.vli.ifr := none }
    (∀ t ∈ [s false 0 79 .ifrPending [1], s true 0 80 .idle [1], s true 0 80 .ifrPending [1],
          s true 7 4 .ifrPending [4], quiet],
        due t = false ∧ hears t .vehicle = true ∧ t.run.vli.iface.rx = .ifrWait ∧ t.run.vli.sending = none ∧
          t.run.vli.iface.line.filter = { count := 0, dominant := false } ∧
          t.run.vli.iface.line.stretch < 100) ∧
      (afterCell false).cell ≤ 34 ∧ 30 ≤ (afterCell false).cell + 6 ∧ (0x96 : Byte).getLsbD 7 = true ∧
      (CmdCode.readStatus.inMode .run = true ∧ payloadCmd [1] = some .readStatus) ∧
      (CmdCode.leaveService.inMode .run = false ∧ payloadCmd [4] = some .leaveService) ∧
      (nextOf .ifrStart (s false 0 79 .ifrPending [1])).run.vli.ifr = some { byte := 0x96, sending := true } ∧
      (nextOf .ifrSent (s true 7 4 .ifrPending [1])).run.mu.phase = .executing ∧
      (nextOf .ifrSent (s true 0 80 .ifrPending [1])).run.mu.phase = .executing ∧
      (nextOf .ifrLoss (s true 0 80 .ifrPending [1])).run.flags.addressConflict = true ∧
      (nextOf .ifrTransmitError (s true 7 4 .ifrPending [1])).run.vli.iface.rx = .errorWait ∧
      (nextOf .endOfFrame quiet).run.vli.iface.rx = .idle := by
  decide +kernel

/-- An IFR begun at another node's edge, which is then sent from the middle of its first cell; and a first cell
whose edge comes one sample late, and a later one. -/
theorem witness_InFrameResponses_edges :
    let s (sending : Bool) (bits : Nat) (l : Line) : State :=
      { inMode .run with
        run.vli.iface := { Iface.initial with rx := .ifrWait, bits := bits, line := l }
        run.vli.ifr := some { byte := 0x96, sending := sending }
        run.mu.phase := .ifrPending, run.mu.cmd := some (cmdOf .vehicle [1]) }
    let waits := s false 0 { afterCell false with stretch := 64 }
    let joined := nextOf (.ifrWaitSymbolError [(true, 7)]) waits
    let begun := s true 0 { afterCell false with stretch := 80 }
    let late := [(false, 1), (true, 7)]
    (∀ t ∈ [waits, joined, begun, s true 3 (afterCell true)], due t = false ∧ hears t .vehicle = true ∧
        t.run.vli.iface.rx = .ifrWait ∧ t.run.vli.sending = none) ∧
      (heard waits .vehicle [(true, 7)]).events = [.edge 70 40] ∧
      joined.run.vli.ifr = some { byte := 0x96, sending := true } ∧
      (joined.run.vli.iface.line =
          { filter := { count := 7, dominant := true }, stretch := 1, cell := 1, idle := false } ∧
        joined.run.vli.iface.bits = 0 ∧ joined.run.vli.stuckTimer = 1) ∧
      (nextOf .ifrSent joined).run.mu.phase = .executing ∧
      (nextOf .ifrLoss joined).run.flags.addressConflict = true ∧
      (heard begun .vehicle late).events = [.edge 87 41] ∧
      (heard (s true 3 (afterCell true)) .vehicle late).events = [.edge 31 41] ∧
      (∀ t ∈ [begun, s true 3 (afterCell true)],
        (nextOf (.ifrWaitSymbolError late) t).run.vli.iface.rx = .errorWait ∧
          (nextOf (.ifrWaitSymbolError late) t).run.mu.phase = .idle) := by
  decide +kernel

theorem witness_DisplayFramesAreSent :
    let e := entry 0 (.notice .status)
    let two : QEntry := { e with frame1 := some e.frame0 }
    let s (duq drq : List QEntry) (k : Option DliQueue) : State :=
      { inMode .run with run.queues.duq := duq, run.queues.drq := drq, run.mu.phase := .replyQueued
                         run.dli.sending := k.map fun k => (k, frameBytes e.frame0) }
    let rested (duq drq : List QEntry) : State := { s duq drq none with run.dli.recessive := 120 }
    let p : State := { s [e] [] (some .duq) with run.queues.pendStatus := some (e.frame0, none) }
    let last : State := { s [e] [] (some .duq) with mode := .shutdown, run.mc.gaugesAtRest := true }
    (due (s [e] [entry 5 (.route 4)] none) = false ∧ due (s [] [entry 5 (.route 4)] none) = false ∧
        due (s [] [] none) = false ∧ due (rested [e] []) = false ∧ due (rested [] [e]) = false ∧
        (rested [] [e]).run.dli.recessive = 120 ∧ (s [e] [] none).run.dli.recessive = 0 ∧ due (s [e] [entry 5 (.route 4)] (some .drq)) = false ∧ due (s [two] [] (some .duq)) = false ∧
        due (s [entry 3 .resultReply] [] (some .duq)) = false ∧
        due (s [entry 3 .busyReply] [] (some .duq)) = false ∧ due p = false ∧ due last = false) ∧
      (inMode .run).mode ≠ .standby ∧ (s [e] [] (some .duq)).run.queues.pendingOf .status = none ∧
      p.run.queues.pendingOf .status = some (e.frame0, none) ∧ two.frame1.isSome = true ∧
      (nextOf .dliFrameSent last).mode = .standby := by
  decide +kernel

/-- R155, R142: after a frame's EOD, at 60 samples of recessive, the wire rests for 60 more, which 1 ms brings. -/
theorem test_display_wire_rests :
    let e := entry 0 (.notice .status)
    let s : State :=
      { inMode .run with run.queues.duq := [e, e], run.dli.sending := some (.duq, frameBytes e.frame0) }
    let rests := nextOf .dliFrameSent s
    let rested := idle rests
    rests.run.dli.recessive = 60 ∧ nextOf .dliTransmitStart rests = rests ∧
      due rested = false ∧ rested.run.dli.sending = none ∧ rested.run.dli.recessive = 120 ∧
      (nextOf .dliTransmitStart rested).run.dli.sending = some (.duq, frameBytes e.frame0) ∧
      (nextOf .dliTransmitStart rested).run.dli.recessive = 0 := by
  decide +kernel

/-- R153, R142: an attempt that the restart stops after 50 samples of recessive has its line idle 70 samples
later, and the frame that follows is taken from its SOF on. -/
theorem test_restart_measures_the_line_on :
    let v : Vli := (inMode .service).run.vli
    let line : Line := { filter := { count := 0, dominant := false }, stretch := 50, cell := 60, idle := false }
    let stopped := restartVli { v with sending := some [0x01#8], iface := { v.iface with rx := .receiving, line := line } }
    let s : State := { inMode .run with run.vli := stopped }
    (stopped.sending = none ∧ stopped.iface.rx = .errorWait ∧ stopped.iface.line = line) ∧
      (heard s .vehicle [(false, 70)]).events.any (fun e => decide (e = .idle)) = true ∧
      (nextOf (.sofReceived .vehicle [(false, 70), (true, 120), (false, 8)]) s).run.vli.iface.rx = .receiving := by
  decide +kernel

theorem witness_LoopbackTest :
    let s (m : Mode) (t : LoopTest) (rx : RxState) : State :=
      { held m [0x31] with run.vli.test := t, run.vli.iface.rx := rx }
    InHand (s .service .off .idle) .linkTest (cmdOf .vehicle [0x31]) ∧
      (∀ rx ∈ [RxState.idle, .stuck], due (s .service .waiting rx) = false) ∧
      due (s .service .running .errorWait) = false ∧ payloadCmd [0x31] = some .linkTest ∧
      due { inMode .service with run.vli.test := .running } = false ∧
      (nextOf .linkTestBegin (s .service .waiting .idle)).run.vli.iface.line.filter =
        { count := 0, dominant := false } ∧
      (nextOf .linkTestBegin (s .service .waiting .idle)).run.vli.iface.line.stretch = 120 := by
  refine ⟨⟨rfl, rfl, rfl, rfl⟩, ?_⟩
  decide +kernel

/-- Section 8.7: the test frame at its nominal lengths is read back, bit for bit, from an idle line. -/
theorem witness_LoopbackTest_nominal :
    let sent : List Byte := [0xE7, 0xFF, 0x55, 0xAA, 0x0F, 0xF0, 0x93]
    sent = frameBytes testFrame ∧ endOfDataFault sent 0 none = none ∧ bitsBytes (bytesBits sent) = sent ∧
      readFrame false [] (hearWave (firstSamples 4000 (frameWave sent ++ [(false, 60)]))
        { line := idleLine, timer := 0, events := [] }).events = some (bytesBits sent) := by
  intro sent
  refine ⟨by decide +kernel, by decide +kernel, by decide +kernel, ?_⟩
  have short : firstSamples 4000 (frameWave sent ++ [(false, 60)]) = frameWave sent ++ [(false, 60)] := by
    decide +kernel
  rw [short, hear_whole_frame sent true (bytesBits sent).tail (by decide +kernel)]
  decide +kernel

/-- A reading that has no EOD in 4000 samples, one of stray bits, one of another byte, and one of a bad
check. -/
theorem witness_LoopbackTest_outcomes :
    let sent := frameBytes testFrame
    let other : List Byte := [0xE7, 0xFF, 0x55, 0xAA, 0x0F, 0xF1, 0xBC]
    (firstSamples 4000 [(false, 3999), (true, 9)] = [(false, 3999), (true, 1)] ∧
        endOfDataFault (bitsBytes (bytesBits sent)) 3 none = some .framing ∧
        endOfDataFault other 0 none ≠ some .framing ∧ other ≠ sent) ∧
      [loopOutcome none true, loopOutcome (some (bytesBits sent ++ [true])) true,
          loopOutcome (some (bytesBits other)) true, loopOutcome (some (bytesBits sent)) false,
          loopOutcome (some (bytesBits sent)) true] =
        [(.fail, 1), (.fail, 1), (.fail, 2), (.fail, 3), (.pass, 0)] := by
  decide +kernel

/-! ### The Management Unit's commands -/

theorem witness_ReadsAnswerWithTheirData :
    (InHand (held .startup [1]) .readStatus (cmdOf .vehicle [1]) ∧
        InHand (held .run [0x20, 162]) .readSignal (cmdOf .vehicle [0x20, 162]) ∧
        InHand (held .run [0x10, 0x30, 21]) .readEntry (cmdOf .vehicle [0x10, 0x30, 21]) ∧
        InHand { held .run [0x22, 1] with dtu := boundDtu } .readDriver (cmdOf .vehicle [0x22, 1])) ∧
      tableOf (bitField (0x30 : Byte) 7 4) = some .condition ∧ bitField (0x30 : Byte) 3 0 < TableId.condition.groups ∧
      slotDriver { held .run [0x22, 1] with dtu := boundDtu } 1 = some driver ∧
      slotDriver (held .run [0x22, 2]) 2 = none := by
  refine ⟨⟨⟨rfl, rfl, rfl, rfl⟩, ⟨rfl, rfl, rfl, rfl⟩, ⟨rfl, rfl, rfl, rfl⟩, ⟨rfl, rfl, rfl, rfl⟩⟩, ?_⟩
  decide

/-- An empty log; and two records at the wrap of the sequence, asked for the first, the second, the next
append and beyond. -/
def twoRecords : Dtu :=
  let r : LogRec :=
    { seq := 65535, kind := .cardIn, slot := some 1, activity := .rest, inferred := true, digest := 7, minute := 1 }
  { Dtu.initial with log := [r, { r with seq := 0 }], seq := 1 }

theorem twoRecords_law : LogLaw twoRecords := by
  refine ⟨by decide, by decide, by decide, ?_⟩
  intro i r h
  match i with
  | 0 => simp [twoRecords] at h; subst h; rfl
  | 1 => simp [twoRecords] at h; subst h; rfl
  | n + 2 => simp [twoRecords] at h

theorem witness_ReadLogAnswersByItsCases :
    (InHand (held .run [0x21, 0, 0]) .readLog (cmdOf .vehicle [0x21, 0, 0]) ∧ LogLaw (held .run [0x21, 0, 0]).dtu) ∧
      (∀ start ∈ [[0xFF#8, 0xFF], [0, 0], [0, 1], [0, 2], [0xFF, 0xFE]],
        InHand { held .run (0x21 :: start) with dtu := twoRecords } .readLog (cmdOf .vehicle (0x21 :: start))) ∧
      LogLaw twoRecords ∧
      ([65535, 0, 1, 2, 65534].map fun n => (n + 65536 - 65535) % 65536) = [0, 1, 2, 3, 65535] := by
  refine ⟨⟨⟨rfl, rfl, rfl, rfl⟩, by decide, by decide, by decide, fun i r h => by simp [held, inMode, State.reset, Dtu.initial] at h⟩,
    ?_, twoRecords_law, by decide⟩
  simp [InHand, held, cmdOf, inMode, payloadCmd, CmdCode.inMode]
  decide

/-- With no lamp shorted, and with one. -/
theorem witness_ClearStatusClearsItsItems :
    let s : State := { held .service [2] with
      run.tu.lamps := updAt Run.initial.tu.lamps 6 fun r => { r with load := .shorted } }
    InHand (held .run [2]) .clearStatus (cmdOf .vehicle [2]) ∧ InHand s .clearStatus (cmdOf .vehicle [2]) ∧
      (∃ r ∈ s.run.tu.lamps, r.load = .shorted) ∧ s.run.tu.lamps[6]?.map LampRec.load = some .shorted := by
  refine ⟨⟨rfl, rfl, rfl, rfl⟩, ⟨rfl, rfl, rfl, rfl⟩, by decide, rfl⟩

/-- The brake on and the road speed at 50, and at 51, which is not held. -/
def atSpeed (v : Int) : State :=
  { fitted .run with
    dtu.params := { DriveParams.defaults with roadSpeed := some 5 }
    run.signals := updAt Run.initial.signals 5 fun _ => { value := v, status := .valid }
    run.iu.inputs := updAt Run.initial.iu.inputs 3 fun d => { d with active := true }
    run.mu.phase := .executing, run.mu.cmd := some (cmdOf .display [3]) }

theorem witness_EnterServiceTakesTheInterlock :
    (InHand (atSpeed 50) .enterService (cmdOf .display [3]) ∧
        InHand (atSpeed 51) .enterService (cmdOf .display [3])) ∧
      (inputAt (atSpeed 50) 3 = some (.switch false false .parkBrake) ∧
        (debounceAt (atSpeed 50) 3).active = true ∧ usableOpt (atSpeed 50) (some 5) = some 50) ∧
      usableOpt (atSpeed 51) (some 5) = some 51 ∧ (nextOf .enterService (atSpeed 50)).mode = .service ∧
      (nextOf .enterService (atSpeed 51)).mode = .run := by
  refine ⟨⟨⟨rfl, rfl, rfl, rfl⟩, ⟨rfl, rfl, rfl, rfl⟩⟩, ?_⟩
  decide

def writing : State := held .service [0x11, 0x32, 63, 1, 2, 3, 4, 5, 6]

theorem witness_WriteEntryWritesOneGroup :
    InHand writing .writeEntry (cmdOf .vehicle [0x11, 0x32, 63, 1, 2, 3, 4, 5, 6]) ∧
      storeWf writing.store = true ∧ tableOf (bitField (0x32 : Byte) 7 4) = some .condition ∧
      bitField (0x32 : Byte) 3 0 < TableId.condition.groups ∧ bitField (0x32 : Byte) 3 0 + 1 = TableId.condition.groups := by
  refine ⟨⟨rfl, rfl, rfl, rfl⟩, ?_⟩
  decide

/-- An empty slot, a load for a bound one, and the parameters' bounds. -/
theorem witness_SetDriveTimeLoadsTheRecord :
    let pl : List Byte := [0x23, 1, 0, 200, 5, 160, 1]
    let s := { held .run pl with dtu := boundDtu }
    (InHand s .setDriveTime (cmdOf .vehicle pl) ∧ InHand (held .run pl) .setDriveTime (cmdOf .vehicle pl)) ∧
      CmdCode.setDriveTime.paramsInRange pl = true ∧
      CmdCode.setDriveTime.paramsInRange [0x23, 1, 0, 200, 5, 161, 1] = false ∧
      slotDriver s 1 = some driver ∧ slotDriver (held .run pl) 1 = none ∧
      (slotDriver (nextOf .setDriveTime s) 1).map Driver.stage = some .over := by
  refine ⟨⟨⟨rfl, rfl, rfl, rfl⟩, ⟨rfl, rfl, rfl, rfl⟩⟩, ?_⟩
  decide

theorem witness_ForcedLampsAndChime :
    (∀ a ∈ [1#8, 2, 3], ∀ n ∈ [0#8, 31], InHand (held .service [0x30, a, n, 0, 0]) .forceOutput
        (cmdOf .vehicle [0x30, a, n, 0, 0])) ∧
      ([1#8, 2, 3].map fun a => forceActionOf [0x30, a, 31, 0, 0]) =
        [some .lampOn, some .lampOff, some .lampRelease] ∧
      (∀ p ∈ [1#8, 2, 3, 4], InHand (held .service [0x30, 6, p, 0, 0]) .forceOutput
        (cmdOf .vehicle [0x30, 6, p, 0, 0])) ∧
      forceActionOf [0x30, 6, 4, 0, 0] = some .chimePattern := by
  simp [InHand, held, cmdOf, inMode, payloadCmd, CmdCode.inMode]
  decide

/-- G0 in TRACK with its position known, ordered to its span and beyond; a release with and without F9. -/
def tracking (payload : List Byte) (st : ChanState) : State :=
  { fitted .service with
    run.gu.channels := updAt Run.initial.gu.channels 0 fun c =>
      { c with state := st, known := true, pos := 100, filt := 1600, target := 100 }
    run.mu.phase := .executing, run.mu.cmd := some (cmdOf .vehicle payload) }

theorem witness_ForcedGauges :
    (∀ pl ∈ [[0x30#8, 4, 0, 0x0B, 0xB8], [0x30, 4, 0, 0x0B, 0xB9]],
        InHand (tracking pl .track) .forceOutput (cmdOf .vehicle pl) ∧
          forceActionOf pl = some .gaugePosition) ∧
      (gaugeAt (tracking [] .track) 0 = some gauge ∧ natAt [0x30, 4, 0, 0x0B, 0xB8] 3 2 = gauge.span) ∧
      InHand (tracking [0x30, 5, 0, 0, 0] .forced) .forceOutput (cmdOf .vehicle [0x30, 5, 0, 0, 0]) ∧
      forceActionOf [0x30, 5, 0, 0, 0] = some .gaugeRelease := by
  refine ⟨?_, by decide, ⟨rfl, rfl, rfl, rfl⟩, rfl⟩
  simp [InHand, tracking, cmdOf, fitted, inMode, payloadCmd, CmdCode.inMode]
  decide

/-! ### Power, ignition and inputs -/

theorem witness_KeepAliveResetFromAnyState :
    due (fitted .shutdown) = false ∧
      (nextOf (.keepAliveReset 15) (fitted .shutdown)).nodeAddress = 14 ∧
      (nextOf (.keepAliveReset 14) (fitted .run)).nodeAddress = 14 := by
  decide

/-- Counts of 0 and 79; the undecided input with agreeing and differing samples before. -/
theorem witness_IgnitionStartsFromStandby :
    let s (l : Ignition) (n : Nat) (last : Bool) : State :=
      { inMode .standby with din0 := { level := l, count := n, last := last } }
    (∀ l ∈ [Ignition.inactive, .undecided], ∀ n ∈ [0, 79], due (s l n true) = false ∧
        (s l n true).mode = .standby ∧ (s l n true).din0.count < 80) ∧
      (nextOf (.ignitionOn [true]) (s .inactive 79 true)).mode = .startup ∧
      (nextOf (.ignitionOn [true]) (s .inactive 78 true)).mode = .standby ∧
      (nextOf (.ignitionFinding [false]) (s .undecided 79 false)).din0.level = .inactive := by
  decide

theorem witness_IgnitionStartsFromShutdown :
    let s (n : Nat) : State :=
      { fitted .shutdown with din0 := { level := .inactive, count := n, last := false } }
    (∀ n ∈ [0, 79], due (s n) = false ∧ (s n).mode = .shutdown ∧ (s n).din0.count < 80 ∧
        (s n).run.cu.recs.length = 64) ∧
      (nextOf (.ignitionOn [true]) (s 79)).mode = .startup := by
  decide +kernel

theorem empty_queues_law (s : State) (hv : s.run.queues.vtq = []) (hd : s.run.queues.drq = [])
    (hu : s.run.queues.duq = []) : QueueLaw s := by
  refine ⟨?_, ?_, ?_, ?_, ?_, ?_, ?_, ?_, ?_⟩ <;> simp [hv, hd, hu, PriorityOrder, originCount]

theorem witness_IgnitionOffEntersShutdown :
    let s (m : Mode) (t : LoopTest) : State :=
      { fitted m with din0 := { level := .active, count := 79, last := true }, run.vli.test := t }
    (∀ m ∈ [Mode.startup, .run, .service], ∀ t ∈ [LoopTest.off, .waiting, .running],
        due (s m t) = false ∧ (s m t).din0.level = .active ∧ (s m t).din0.count < 80) ∧
      QueueLaw (s .run .off) ∧ (nextOf (.ignitionOff [false]) (s .run .off)).mode = .shutdown := by
  refine ⟨by decide, empty_queues_law _ rfl rfl rfl, by decide⟩

/-- Section 7.2's button, from a count of 0 and of 7; and the park brake released in SERVICE. -/
theorem witness_InputEdgesAreDebounced :
    let s (m : Mode) (role : Role) (active : Bool) (n : Nat) : State :=
      { fitted m with
        run.tables.inputs := updAt Tables.initial.inputs 3 fun _ => .enabled (.switch true false role)
        run.iu.inputs := updAt Run.initial.iu.inputs 3 fun _ => { active := active, count := n } }
    (∀ n ∈ [0, 7], due (s .run .ackButton false n) = false ∧ (s .run .ackButton false n).run.iu.sampling = true ∧
        inputAt (s .run .ackButton false n) 3 = some (.switch true false .ackButton) ∧
        3 < (s .run .ackButton false n).run.iu.inputs.length ∧
        (debounceAt (s .run .ackButton false n) 3).count < 8) ∧
      debounceAt (nextOf (.debouncedEdge 3 [false]) (s .run .ackButton false 7)) 3 =
        { active := true, count := 0 } ∧
      debounceAt (nextOf (.debouncedEdge 3 [true]) (s .run .ackButton false 3)) 3 =
        { active := false, count := 0 } ∧
      due (s .service .parkBrake true 7) = false ∧
        (debounceAt (s .service .parkBrake true 7) 3).active = true ∧
      (nextOf (.debouncedEdge 3 [true]) (s .service .parkBrake true 7)).mode = .run := by
  decide

/-- A press acknowledges the newest unacknowledged entry, and finds none in a list of acknowledged ones. -/
theorem witness_InputEdgesAreDebounced_press :
    let alert (j : Nat) (acked : Bool) : Alert :=
      { cond := j, severity := .warn, acked := acked, level := 0, timer := none }
    let s (l : List Alert) : State :=
      { fitted .run with
        run.tables.inputs := updAt Tables.initial.inputs 3 fun _ => .enabled (.switch true false .ackButton)
        run.tu.alerts := l }
    let l := [alert 9 false, alert 8 false, alert 7 true]
    (due (s l) = false ∧ (s l).run.iu.sampling = true ∧ (debounceAt (s l) 3).active = false ∧
        ∀ k, k < 64 → ∀ c, condAt (s l) k = some c → c.source ≠ .input 3) ∧
      ((nextOf (.debouncedEdge 3 (List.replicate 8 false)) (s l)).run.tu.alerts.map Alert.cond) = [9, 7] ∧
      (nextOf (.debouncedEdge 3 (List.replicate 8 false)) (s [alert 7 true])).run.tu.alerts =
        [alert 7 true] := by
  decide +kernel

/-- Section 7.5's crank: code 8, so U = 1800: the ninth and the tenth low measurement. -/
theorem witness_SupplyMeasurementIsJudged :
    let s (n : Nat) : State := { fitted .run with run.iu.low := n }
    (due (s 9) = false ∧ (s 9).mode ≠ .standby) ∧
      ([(8, 1400), (9, 1799), (9, 1800)].map fun e =>
          (nextOf (.supplyMeasurement e.2) (s e.1)).run.iu.low) = [9, 10, 0] ∧
      signalAt (nextOf (.supplyMeasurement 4001) (s 0)) 160 = { value := 4000, status := .clamped } := by
  decide

theorem witness_SupplyFlagsSetAndClear :
    let s (f9 f10 : Bool) (low lowClear high highClear : Nat) : State :=
      { fitted .run with
        run.flags.underVoltage := f9, run.flags.overVoltage := f10, run.iu.low := low
        run.iu.lowClear := lowClear, run.iu.high := high, run.iu.highClear := highClear }
    noticing (fitted .run) = true ∧
      ((nextOf .underVoltageSet (s false false 10 0 0 0)).run.flags.underVoltage = true ∧
        (nextOf .underVoltageSet (s false false 9 0 0 0)).run.flags.underVoltage = false) ∧
      (nextOf .overVoltageSet (s false false 0 0 10 0)).run.flags.overVoltage = true ∧
      (nextOf .underVoltageClear (s true false 0 10 9 0)).run.flags.underVoltage = false ∧
      (nextOf .overVoltageClear (s false true 9 0 0 10)).run.flags.overVoltage = false ∧
      (nextOf .underVoltageClear (s true false 0 10 10 0)).run.flags.overVoltage = true := by
  decide

/-! ### Routes, gauges, lamps, chime, conditions -/

theorem witness_ExpiredRoutesGoStale :
    let s := fitted .run
    (due s = false ∧ routeAt s 4 = some liveRoute ∧ liveRoute.timer.isSome = true ∧
        s.run.signals.length = 163 ∧ liveRoute.cfg.first + liveRoute.cfg.count ≤ 160) ∧
      (signalAt (nextOf (.routeFreshnessExpiry 4) s) 12).status = .stale ∧
      (nextOf (.routeFreshnessExpiry 4) s).run.flags.gatewayLost = true := by
  decide +kernel

/-- Section 3.3's speedometer, at its first expiry: P 1860 and f 30116. -/
theorem witness_GaugeUpdateMovesChannels :
    let s : State :=
      { fitted .run with
        run.signals := updAt Run.initial.signals 12 fun _ => { value := 9051, status := .valid }
        run.gu.channels := updAt Run.initial.gu.channels 0 fun c =>
          { c with state := .track, known := true, pos := 1800, filt := 28800, target := 1800 } }
    let sense := List.replicate 6 (CoilSense.current, CoilSense.current)
    (due s = false ∧ sense.length = 6) ∧
      ((channelAt (nextOf (.gaugeUpdate sense) s) 0).pos, (channelAt (nextOf (.gaugeUpdate sense) s) 0).filt) =
        (1860, 30116) := by
  decide +kernel

/-- STARTUP ends at the gauge update that brings the last sweep to 0, and SHUTDOWN at the one that brings the
last pointer to its stop. -/
theorem witness_GaugeUpdateMovesChannels_ends :
    let s (m : Mode) (st : ChanState) (pos : Int) : State :=
      { fitted m with
        phase := if m = .startup then .gaugesAndLamps else .none
        run.mc.lampCheckEnded := true
        run.gu.channels :=
          { (channelAt (inMode m) 0) with state := st, known := true, pos := pos, filt := 16 * pos } ::
            List.replicate 5 { (channelAt (inMode m) 0) with state := .atRest } }
    let t (m : Mode) (st : ChanState) (pos : Int) : State :=
      nextOf (.gaugeUpdate (List.replicate 6 (.current, .current))) (s m st pos)
    (due (s .startup .sweepDown 60) = false ∧ due (s .shutdown .ret 60) = false) ∧
      ((t .startup .sweepDown 60).mode = .run ∧ (t .startup .sweepDown 61).mode = .startup) ∧
      (t .shutdown .ret 60).mode = .standby ∧ (t .shutdown .ret 61).mode = .shutdown := by
  decide +kernel

theorem witness_HomingEndsAndCoilsFault :
    let s (m : Mode) (st : ChanState) (a : Nat) : State :=
      { fitted m with run.gu.channels := updAt Run.initial.gu.channels 0 fun c =>
          { c with state := st, openA := a } }
    (gaugeAt (s .startup .homing 0) 0 = some gauge ∧ gauge.sweep = true ∧
        (channelAt (s .startup .homing 0) 0).homing = 0 ∧
        (channelAt (nextOf (.homingComplete 0) (s .startup .homing 0)) 0).state = .sweepUp ∧
        (channelAt (nextOf (.homingComplete 0) (s .run .homing 0)) 0).state = .track ∧
        (channelAt (nextOf (.homingComplete 0) (s .shutdown .homing 0)) 0).state = .track) ∧
      (ChanState.track.energised = true ∧ (s .run .track 3).run.gu.channels[0]?.map Channel.openA = some 3 ∧
        (nextOf (.coilOpenFault 0) (s .run .track 3)).run.flags.gaugeFault = true ∧
        noticing (s .startup .homing 3) = true ∧
        (nextOf (.coilOpenFault 0) (s .startup .homing 3)).run.flags.gaugeFault = true ∧
        (nextOf (.coilOpenFault 0) (s .shutdown .ret 3)).run.flags.gaugeFault = true ∧
        (channelAt (nextOf (.coilOpenFault 0) (s .run .track 2)) 0).state = .track) := by
  decide

theorem witness_BlinkAndLampCheckEnd :
    let s : State :=
      { fitted .startup with
        phase := .gaugesAndLamps, run.tu.blink := 63, run.tu.lampCheck := some 2000
        run.mc.gaugesStarted := true }
    (due s = false ∧ s.mode ≠ .standby ∧ lampAt s 6 = some lamp ∧ s.run.tu.lampCheck.isSome = true) ∧
      (nextOf .blinkTimebaseAdvance s).run.tu.blink = 0 ∧ (nextOf .lampCheckEnd s).mode = .run ∧
      (nextOf .lampCheckEnd { s with run.mc.gaugesStarted := false }).mode = .startup := by
  decide

theorem witness_LampLoadsAreSupervised :
    let s (o : Bool) (n : Nat) : State :=
      { fitted .run with run.tu.lamps := updAt Run.initial.tu.lamps 6 fun r =>
          { r with output := o, openCount := n } }
    ((s true 2).run.tu.lamps.length = 32 ∧ due (s true 2) = false ∧ (s true 2).mode ≠ .standby ∧
        noticing (s true 2) = true) ∧
      ((nextOf (.loadCheck 0) (s true 2)).run.tu.lamps[6]?.map LampRec.openCount = some 3) ∧
      (lampRec (s true 2) 6).output = true ∧
      (lampRec (nextOf (.lampOvercurrent 6) (s true 2)) 6).load = .shorted ∧
      ((lampRec (s true 3) 6).load = .ok ∧ 3 ≤ (lampRec (s true 3) 6).openCount) ∧
      (nextOf (.lampOpen 6) (s true 3)).run.flags.lampFault = true := by
  decide

/-- Section 5.10: the ends of each tone, and the silence of REPEAT's cycle. -/
theorem witness_ChimeAndEscalation_tones :
    let s (p : Pattern) (at_ : Nat) : State :=
      { fitted .run with run.tu.chime.playing := some { pattern := p, at_ := at_ } }
    ([99, 100].map fun n => chimeOutput (s .check n)) = [true, false] ∧
      ([199, 200].map fun n => chimeOutput (s .single n)) = [true, false] ∧
      ([Pattern.triple, .rep].map fun p =>
          [149, 150, 299, 300, 449, 450, 599, 600, 749, 750].map fun n => chimeOutput (s p n)) =
        List.replicate 2 [true, false, false, true, true, false, false, true, true, false] ∧
      chimeOutput (s .rep 1999) = false ∧ chimeOutput (fitted .run) = false := by
  decide

/-- Section 5.10's worked chime: SINGLE plays and the escalation's TRIPLE takes its place. -/
theorem witness_ChimeAndEscalation :
    let s (m : Mode) (p : Pattern) (level : Nat) : State :=
      { fitted m with
        run.tu.chime := { playing := some { pattern := p, at_ := 0 }, queue := [.single] }
        run.tu.alerts :=
          [{ cond := 2, severity := .alarm, acked := false, level := level
             timer := some { left := 0, running := true } }] }
    (due (s .run .single 0) = false ∧ condAt (s .run .single 0) 2 = some condition) ∧
      AlertLaw (s .run .single 0).run.tu.alerts ∧
      (nextOf .chimePatternEnd (s .run .check 0)).run.tu.chime =
        { playing := some { pattern := .single, at_ := 0 }, queue := [] } ∧
      ((nextOf .chimePatternEnd { fitted .run with
          run.tu.chime := { playing := some { pattern := .check, at_ := 0 }, queue := [] } }).run.tu.chime =
        { playing := none, queue := [] } ∧
        ChimeOrder (s .run .check 0).run.tu.chime.queue ∧ ChimeOrder [.triple, .check]) ∧
      (nextOf .repeatCycle (s .run .rep 0)).run.tu.chime = (s .run .rep 0).run.tu.chime ∧
      ((nextOf (.escalationExpiry 2) (s .run .single 0)).run.tu.chime.playing.map Playing.pattern =
        some .triple) ∧
      ((nextOf (.escalationExpiry 2) (s .run .triple 1)).run.tu.chime.playing.map Playing.pattern =
        some .rep) := by
  refine ⟨by decide, ⟨by decide, by decide⟩, by decide, ⟨by decide, ?_, ?_⟩, by decide, by decide, by decide⟩
  · exact List.pairwise_singleton _ _
  · simp [ChimeOrder, Pattern.rank]

/-- Each state of the record under a true, a false and an open truth, and a qualifier that is not
ACTIVE. -/
theorem witness_ConditionTransitions :
    let s (v : Int) (st : SigStatus) : State :=
      { fitted .run with run.signals := updAt Run.initial.signals 12 fun _ => { value := v, status := st } }
    let r (st : CondState) : CondRec := { state := st, remembered := false, timer := none }
    let all : List CondState := [.inactive, .suspended, .pendingOn, .active, .pendingOff, .latched]
    (all.map fun st => (evalRec (s 400 .valid) condition 2 (r st)).state) =
        [.pendingOn, .pendingOn, .pendingOn, .active, .active, .active] ∧
      (all.map fun st => (evalRec (s 299 .valid) condition 2 (r st)).state) =
        [.inactive, .inactive, .inactive, .inactive, .pendingOff, .latched] ∧
      (all.map fun st => (evalRec (s 0 .never) condition 2 (r st)).state) =
        [.inactive, .inactive, .inactive, .active, .active, .latched] ∧
      (all.map fun st => (evalRec (s 400 .valid) { condition with qualifier := some 3 } 2 (r st)).state) =
        [.suspended, .suspended, .suspended, .suspended, .suspended, .latched] := by
  decide +kernel

/-- Section 5.7's five cases for a new entry: one that moves, one with room, one that evicts an acknowledged
entry, one that evicts a WARN, one that finds no place; and the three rows of a removal. -/
theorem witness_ConditionTransitions_alerts :
    let alert (j : Nat) (v : Severity) (acked : Bool) : Alert :=
      { cond := j, severity := v, acked := acked, level := 0, timer := none }
    let full (v : Severity) (acked : Bool) : List Alert :=
      alert 20 .alarm false :: alert 21 v acked :: (List.range 14).map fun k => alert (30 + k) .alarm false
    let s (l : List Alert) : State := { fitted .run with run.tu.alerts := l }
    let enters (l : List Alert) :=
      let r := telltaleChange 2 .inactive .active (s l)
      (r.1.run.tu.alerts.map Alert.cond, r.2)
    let leaves (v : Severity) (acked : Bool) :=
      (telltaleChange 2 .active .inactive (s [alert 2 v acked, alert 9 .info false])).1.run.tu.alerts.map
        Alert.cond
    (condAt (s []) 2 = some condition ∧ condition.announce = true ∧ condition.severity = .alarm ∧
        (full .warn false).length = 16) ∧
      enters [alert 2 .warn true, alert 9 .info false] = ([9, 2], none) ∧
      enters [alert 9 .info false] = ([9, 2], none) ∧
      enters (full .info true) = (20 :: (List.range 14).map (30 + ·) ++ [2], some 21) ∧
      enters (full .warn false) = (20 :: (List.range 14).map (30 + ·) ++ [2], some 21) ∧
      enters (full .info false) = (20 :: 21 :: (List.range 14).map (30 + ·), none) ∧
      leaves .alarm true = [9] ∧ leaves .warn false = [9] ∧ leaves .alarm false = [2, 9] := by
  decide +kernel

theorem witness_TimersTakeEffect :
    let s (m : Mode) (st : CondState) : State :=
      { fitted m with
        run.cu.recs := updAt Run.initial.cu.recs 2 fun _ =>
          { state := st, remembered := true, timer := some { kind := .on, left := 0 } }
        run.mismatch := some 0, shutdownTimer := some 0 }
    (due (s .run .pendingOn) = false ∧ condAt (s .run .pendingOn) 2 = some condition ∧
        condition.qualifier = none ∧ (s .run .pendingOn).run.mismatch.isSome = true ∧
        (s .run .pendingOn).run.cu.recs[2]?.map CondRec.state = some .pendingOn) ∧
      (condition.announce = true ∧ (s .run .pendingOn).run.tu.alerts = [] ∧
        (∀ k, k < 64 → ∀ c, condAt (s .run .pendingOn) k = some c → c.qualifier ≠ some 2) ∧
        (nextOf (.conditionDelayExpiry 2) (s .run .pendingOn)).run.tu.alerts.map Alert.cond = [2]) ∧
      (lampAt (s .run .pendingOn) 6 = some lamp ∧ lamp.mask.getLsbD 2 = true ∧
        (condRec (nextOf (.conditionDelayExpiry 2) (s .run .pendingOn)) 2).state = .active) ∧
      (due (s .run .pendingOff) = false ∧ hasUnacked (s .run .pendingOff) 2 = false) ∧
      due (s .shutdown .active) = false ∧ (s .shutdown .active).shutdownTimer.isSome = true ∧
      (nextOf .shutdownTimerExpiry (s .shutdown .active)).mode = .standby := by
  decide +kernel

/-! ### The minute event, activation, and the end of SERVICE -/

theorem boundDtu_law : DriverLaw boundDtu := by
  refine ⟨by decide, by decide, by decide, ?_, ?_, ?_, ?_⟩
  · intro d h; simp [boundDtu] at h; subst h; decide
  · intro d h; simp [boundDtu, Dtu.initial] at h
  · intro d _ h; simp [boundDtu, Dtu.initial] at h
  · intro r h
    simp [boundDtu] at h
    subst h
    refine ⟨by decide, by decide, by decide, by decide, ?_, ?_, ?_⟩ <;> decide

/-- Section 6.5's split break, before its first row: a DRIVING minute makes cont 251 and remaining 19. -/
theorem witness_MinuteEventCreditsEveryRecord :
    let s : State :=
      { fitted .run with
        dtu := boundDtu
        run.signals := updAt Run.initial.signals 5 fun _ => { value := 500, status := .valid } }
    (due s = false ∧ PowerLaw s ∧ noticing s = true) ∧
      DriverLaw boundDtu ∧ LogLaw boundDtu ∧
      ((slotDriver (nextOf .minuteEvent s) 1).map fun d => (d.cont, d.daily, d.pauseRun, d.splitDone, d.remaining)) =
        some (251, 401, 0, true, 19) := by
  refine ⟨⟨by decide, ⟨fun h => by simp [fitted, inMode] at h, fun _ => rfl⟩, by decide⟩, boundDtu_law,
    ⟨by decide, by decide, by decide, fun i r h => by simp [boundDtu, Dtu.initial] at h⟩, by decide⟩

/-- An activation over an erased store. -/
def validating : State :=
  { fitted .startup with phase := .validating, run.mc.validation := some 0 }

theorem witness_ValidationPutsTablesInForce :
    due validating = false ∧ validating.mode = .startup ∧ validating.phase = .validating ∧
      validating.run.mc.validation.isSome = true := by
  decide

/-- R3 and R161 on five route entries: a good one, one with the same key and a check byte that is good, one
that shares a signal with the disabled one alone, one whose check byte is bad, and an erased one. -/
theorem test_validation_of_routes :
    let image (ident first : Byte) : List Byte := [0, ident, 8, first, 2, 0]
    let put (i : Nat) (ident first : Byte) (m : List Host.Cell) : List Host.Cell :=
      writeGroup (writeGroup m .route i 0 (image ident first)) .route i 1 [0, 0, 0, 0, 0, 0]
    let m := storeWrite (put 3 0x40 40 (put 2 0x30 11 (put 1 0x20 10 (put 0 0x20 0 []))))
      (storeAddress .route 3 1) 0x41
    ((validate m).routes.take 5).map Entry.workState =
      [.enabled, .disabled, .enabled, .disabled, .unused] := by
  decide +kernel

/-- LEAVE SERVICE before, during and after its validation, over an erased store and one with a bad entry. -/
theorem witness_LeaveServiceValidatesAndRestarts :
    let s (v : Option Nat) : State := { held .service [4] with run.mc.validation := v }
    let bad : State := { s (some 0) with store := [⟨storeAddress .lamp 0 0, 0⟩] }
    InHand (s none) .leaveService (cmdOf .vehicle [4]) ∧ InHand bad .leaveService (cmdOf .vehicle [4]) ∧
      (due (s (some 0)) = false ∧ (validate (s (some 0)).store).failures = []) ∧
      (due bad = false ∧ (validate bad.store).failures = [(.lamp, 0)]) := by
  refine ⟨⟨rfl, rfl, rfl, rfl⟩, ⟨rfl, rfl, rfl, rfl⟩, ?_⟩
  decide +kernel

/-! ### The block as a whole -/

theorem witness_StepTakesTheFrontCommand :
    let s : State := { inMode .run with run.iu.low := 10 }
    (s.pending = [] ∧ due s = true) ∧ (inMode .run).pending = [] ∧ due (inMode .run) = false := by
  decide

theorem witness_CommandsAreAnswered :
    Instr.minuteEvent.wellFormed = true ∧
      (Instr.debouncedEdge 3 (List.replicate 80 true)).wellFormed = true ∧
      (Instr.debouncedEdge 3 (List.replicate 81 true)).wellFormed = false := by
  decide

/-- A write, a reset, an activation: what each of the four statements rests on changes. -/
theorem witness_OwnedStateHasOneWriter :
    (nextOf .writeEntry writing).store ≠ writing.store ∧
      (nextOf (.keepAliveReset 3) (fitted .run)).nodeAddress ≠ (fitted .run).nodeAddress ∧
      (nextOf (.validationComplete 0) validating).run.tables.gauges ≠ validating.run.tables.gauges := by
  decide +kernel

/-! In the witnesses of the invariants the queue is empty, so the premise on `step` is met as well. -/

theorem witness_step_answers (s : State) (h : s.pending = []) : ∃ t, step s = .next t :=
  ⟨idle s, by simp [step, h]⟩

theorem witness_step_answers_a_command :
    ∃ t, step { fitted .run with pending := [.sofReceived .vehicle (pulse 120)] } = .next t :=
  ⟨_, rfl⟩

theorem witness_FormIsKept :
    let s := fitted .run
    storeWf s.store = true ∧ ShapeLaw s ∧ PowerLaw s :=
  ⟨rfl, ⟨rfl, rfl, rfl, rfl, rfl⟩, fun h => absurd h (by decide), fun _ => rfl⟩

/-- A table with one enabled entry has no other. -/
theorem only_entry (n i k : Nat) (d : SigDesc) (hk : k ≠ i) :
    entryAt ((List.replicate n Entry.unused).set i (.enabled d)) k = none := by
  simp only [entryAt, List.getD_eq_getElem?_getD, List.getElem?_set_ne (Ne.symm hk), List.getElem?_replicate]
  split <;> rfl

/-- S12 VALID at 50.00 km/h and the supply at 24.00 V. -/
theorem witness_FormIsKept_signals :
    let s : State := { fitted .run with
      dtu := boundDtu
      run.tables.signals := (List.replicate 160 Entry.unused).set 12 (.enabled speed)
      run.signals := updAt (updAt Run.initial.signals 12 fun _ => { value := 5000, status := .valid }) 160
        fun _ => { value := 2400, status := .valid } }
    DriverLaw s.dtu ∧ SignalLaw s := by
  refine ⟨boundDtu_law, fun k d h => ?_, fun _ => by decide, fun _ => by decide, fun _ => by decide⟩
  by_cases hk : k = 12
  · subst hk
    obtain rfl : speed = d := Option.some.inj h
    exact ⟨by decide, by decide, fun _ => by decide⟩
  · exact absurd (h.symm.trans (only_entry 160 12 k speed hk)) (by simp)

theorem witness_DriverTableLawIsKept : DriverLaw { fitted .run with dtu := boundDtu }.dtu := boundDtu_law

/-- Slot 1 names S70 for its presence and S71 for its digest. -/
def carded (drivers : List Driver) (slot1 slot2 : Option Nat) (present : SigEntry) (digest : Int) : State :=
  { fitted .run with
    dtu := { Dtu.initial with
      params := { DriveParams.defaults with
                  presence1 := some 70, digest1 := some 71, presence2 := some 72, digest2 := some 73 }
      drivers := drivers, slot1 := slot1, slot2 := slot2 }
    run.signals := updAt (updAt Run.initial.signals 70 fun _ => present) 71 fun _ =>
      { value := digest, status := .valid } }

theorem carded_law (drivers : List Driver) (slot1 slot2 : Option Nat) (present : SigEntry) (digest : Int)
    (hp : driveOk (carded drivers slot1 slot2 present digest).dtu.params = true) (hl : drivers.length ≤ 4)
    (hn : (drivers.map Driver.digest).Nodup) (h1 : ∀ d, slot1 = some d → d ∈ drivers.map Driver.digest)
    (h2 : ∀ d, slot2 = some d → d ∈ drivers.map Driver.digest) (hd : ∀ d, slot1 = some d → slot2 ≠ some d)
    (hr : ∀ r ∈ drivers, ∃ k m, r = { driver with digest := k, lastPresent := m }) :
    DriverLaw (carded drivers slot1 slot2 present digest).dtu := by
  refine ⟨hp, hl, hn, h1, h2, hd, fun r h => ?_⟩
  obtain ⟨k, m, rfl⟩ := hr r h
  refine ⟨by simp [driver], by simp [driver], ?_⟩
  simp [AssessedLaw, carded, driver, DriveParams.defaults]

/-- Each row and case of section 6.3 for slot 1: unknown, absent with a card bound, present without a usable
digest, the same card, another, one moved from slot 2, a new one, and a new one in a full table. -/
theorem witness_DriverTableLawIsKept_cards :
    let r (k : Nat) : Driver := { driver with digest := k }
    let four : List Driver := [r 7, r 8, r 9, { r 5 with lastPresent := 16777215 }]
    let yes : SigEntry := { value := 1, status := .valid }
    let slots (s : State) := ((cardEvent 1 71 s).dtu.slot1, (cardEvent 1 71 s).dtu.slot2)
    let logged (s : State) := (cardEvent 1 71 s).dtu.log.map fun l => (l.kind, l.slot, l.digest)
    powered (carded [r 7] (some 7) none yes 7) = true ∧
      slots (carded [r 7] (some 7) none { value := 1, status := .stale } 8) = (some 7, none) ∧
      logged (carded [r 7] (some 7) none { value := 0, status := .valid } 7) = [(.cardOut, some 1, 7)] ∧
      slots (carded [r 7] (some 7) none yes 65536) = (some 7, none) ∧
      logged (carded [r 7] (some 7) none yes 7) = [] ∧
      logged (carded [r 7, r 8] (some 7) none yes 8) = [(.cardOut, some 1, 7), (.cardIn, some 1, 8)] ∧
      logged (carded [r 7, r 8] (some 7) (some 8) yes 8) =
        [(.cardOut, some 1, 7), (.cardOut, some 2, 8), (.cardIn, some 1, 8)] ∧
      slots (carded [r 7, r 8] (some 7) (some 8) yes 8) = (some 8, none) ∧
      logged (carded [r 7] none none yes 65535) = [(.cardIn, some 1, 65535)] ∧
      logged (carded four (some 7) (some 8) yes 6) =
        [(.cardOut, some 1, 7), (.recordEvicted, none, 5), (.cardIn, some 1, 6)] ∧
      signalAt (cardEvent 1 71 (carded [r 7, r 8] none none yes 8)) 161 = { value := 20, status := .valid } ∧
      (cardEvent 1 71 (carded [r 7, r 8] none none yes 8)).dtu.unsynced = false := by
  decide +kernel

/-- The full table keeps the law. -/
theorem witness_DriverTableLawIsKept_law :
    let r (k : Nat) : Driver := { driver with digest := k }
    DriverLaw (carded [r 7, r 8, r 9, { r 5 with lastPresent := 16777215 }] (some 7) (some 8)
      { value := 1, status := .valid } 6).dtu :=
  carded_law _ _ _ _ _ (by decide) (by decide) (by decide) (by simp) (by simp) (by simp)
    (by simp [driver])

theorem witness_ActivityLogLawIsKept : LogLaw { fitted .run with dtu := twoRecords }.dtu := twoRecords_law

/-- A VTQ with its head in flight and a waiting entry, and a notice in the DUQ. -/
theorem witness_QueueLawIsKept :
    QueueLaw { fitted .run with
      run.queues.vtq := [{ entry 6 .broadcast with inFlight := true }, entry 3 (.route 31)]
      run.queues.duq := [entry 0 (.notice .status)] } := by
  refine ⟨by decide, by decide, by decide, ?_, ?_, by decide, by decide, by decide, by decide⟩
  · simp [PriorityOrder, entry]
  · intro t; cases t <;> decide

theorem witness_AlertListLawIsKept :
    AlertLaw [{ cond := 2, severity := .alarm, acked := false, level := 0, timer := none }] :=
  ⟨by decide, by decide⟩

/-- C2 LATCHED with its entry unacknowledged. -/
theorem witness_AlertListLawIsKept_latched :
    let s : State := { fitted .run with
      run.cu.evaluating := true
      run.cu.recs := [CondRec.initial, CondRec.initial, { CondRec.initial with state := .latched }]
      run.tu.alerts := [{ cond := 2, severity := .alarm, acked := false, level := 0, timer := none }] }
    LatchLaw s := by
  refine ⟨fun j hj h => ?_, fun h => absurd h (by decide)⟩
  match j with
  | 0 => exact absurd h (by decide)
  | 1 => exact absurd h (by decide)
  | 2 => exact ⟨by decide, _, List.mem_singleton.mpr rfl, rfl, rfl⟩
  | j + 3 => simp [condRec, CondRec.initial] at h

/-- Route 4 STALE and F2 set. -/
theorem witness_FlagLawIsKept :
    let s : State := { fitted .run with
      run.tables.routes := updAt Tables.initial.routes 4 fun _ => .enabled { liveRoute with fresh := .stale }
      run.flags.gatewayLost := true }
    PowerLaw s ∧ FlagLaw s := by
  refine ⟨⟨fun h => by simp [fitted, inMode] at h, fun _ => rfl⟩, by decide, by decide, by decide, by decide, by decide, by decide, by decide, ?_⟩
  intro h
  exact absurd h (by decide)

/-- SERVICE at 50, which is 0.50 km/h. -/
theorem witness_InterlockLawIsKept : InterlockLaw { atSpeed 50 with mode := .service } := by
  refine ⟨?_, fun _ => ⟨by decide, ?_⟩⟩
  · intro i h
    rw [show ({ atSpeed 50 with mode := .service } : State).dtu.params.roadSpeed = some 5 from rfl] at h
    cases h
    decide
  · intro v h
    rw [show usableOpt { atSpeed 50 with mode := .service }
      ({ atSpeed 50 with mode := .service } : State).dtu.params.roadSpeed = some 50 from rfl] at h
    cases h
    decide

/-- F9 set, with G0 frozen out of TRACK. -/
theorem witness_SupplyLawIsKept :
    SupplyLaw { fitted .run with
      run.flags.underVoltage := true
      run.gu.channels := updAt Run.initial.gu.channels 0 fun c =>
        { c with state := .frozen, resume := some .track, known := true } } := by
  refine ⟨fun _ => by decide, fun h => absurd h (by decide), by decide, List.Pairwise.nil, fun _ => rfl, fun h => absurd h (by decide)⟩

/-- L6 lit by C2. -/
theorem witness_LampLawIsKept :
    LampLaw { fitted .run with
      run.tu.lamps := [{ LampRec.initial with view := 4#64, requested := true, output := true }] } := by
  intro n r h
  match n with
  | 0 =>
      simp at h
      subst h
      refine ⟨by decide, by simp [fitted, inMode, State.reset, Run.unpowered, Run.initial, Tu.initial, LampRec.initial], ?_⟩
      simp [LampLit, fitted, inMode, State.reset, Run.unpowered, Run.initial, Flags.initial, LampRec.initial]
  | n + 1 => simp at h

/-- G0 in TRACK at 100 of 3000. -/
theorem witness_PointerLawIsKept :
    PointerLaw (tracking [] .track) ∧ gaugeAt (tracking [] .track) 0 = some gauge ∧
      (channelAt (tracking [] .track) 0).known = true ∧
      (tracking [] .track).pending.head? ≠ some (.gaugeUpdate []) := by
  refine ⟨⟨by decide, ?_⟩, by decide⟩
  intro n g h
  match n with
  | 0 =>
      rw [show gaugeAt (tracking [] .track) 0 = some gauge from rfl] at h
      cases h
      refine ⟨by decide, by decide, by decide, by decide, ?_⟩
      intro p hs
      exact absurd hs (by decide)
  | 1 => exact absurd (h.symm.trans (show gaugeAt (tracking [] .track) 1 = none from rfl)) (by simp)
  | 2 => exact absurd (h.symm.trans (show gaugeAt (tracking [] .track) 2 = none from rfl)) (by simp)
  | 3 => exact absurd (h.symm.trans (show gaugeAt (tracking [] .track) 3 = none from rfl)) (by simp)
  | 4 => exact absurd (h.symm.trans (show gaugeAt (tracking [] .track) 4 = none from rfl)) (by simp)
  | 5 => exact absurd (h.symm.trans (show gaugeAt (tracking [] .track) 5 = none from rfl)) (by simp)
  | n + 6 => exact absurd (h.symm.trans (show gaugeAt (tracking [] .track) (n + 6) = none from rfl)) (by simp)

end Sys2Proof.Tests
end

section
/-! PROOFS. The Vehicle Transmit Queue (R15): where `vtqInsert` puts an entry, that the order of the
priorities is kept, and that an attempt sends the head. -/

namespace Sys2Proof.Machine

/-! ## The place of an insertion -/

/-- An entry that is in flight, or of a priority number no higher, is passed. -/
theorem vtqInsert_of_pass {e x : QEntry} {xs : List QEntry}
    (h : x.inFlight = true ∨ x.frame0.prio ≤ e.frame0.prio) :
    vtqInsert e (x :: xs) = x :: vtqInsert e xs := by
  rw [vtqInsert, if_pos h]

/-- The first waiting entry with a higher number is the one the new entry goes ahead of. -/
theorem vtqInsert_of_stop {e x : QEntry} {xs : List QEntry}
    (hx : x.inFlight = false) (h : e.frame0.prio < x.frame0.prio) :
    vtqInsert e (x :: xs) = e :: x :: xs := by
  rw [vtqInsert, if_neg (by simp [hx, h])]

/-- What `vtqInsert` decides at each entry it meets. -/
theorem pass_or_stop (e x : QEntry) :
    (x.inFlight = true ∨ x.frame0.prio ≤ e.frame0.prio) ∨
      (x.inFlight = false ∧ e.frame0.prio < x.frame0.prio) := by
  by_cases hx : x.inFlight = true
  · exact .inl (.inl hx)
  · rcases Nat.lt_or_ge e.frame0.prio x.frame0.prio with h | h
    · exact .inr ⟨by simpa using hx, h⟩
    · exact .inl (.inr h)

/-- R15: the queue is cut in two, and the new entry goes between the parts. -/
theorem vtqInsert_split (e : QEntry) (q : List QEntry) :
    ∃ ahead behind : List QEntry, q = ahead ++ behind ∧ vtqInsert e q = ahead ++ e :: behind ∧
      (∀ x ∈ ahead, x.inFlight = true ∨ x.frame0.prio ≤ e.frame0.prio) ∧
      ∀ x, behind.head? = some x → x.inFlight = false ∧ e.frame0.prio < x.frame0.prio := by
  induction q with
  | nil => exact ⟨[], [], rfl, rfl, by simp, by simp⟩
  | cons x xs ih =>
    rcases pass_or_stop e x with hpass | ⟨hx, hlt⟩
    · obtain ⟨ahead, behind, hq, hins, hahead, hbehind⟩ := ih
      refine ⟨x :: ahead, behind, by rw [hq]; rfl, ?_, List.forall_mem_cons.2 ⟨hpass, hahead⟩, hbehind⟩
      rw [vtqInsert_of_pass hpass, hins, List.cons_append]
    · refine ⟨[], x :: xs, rfl, vtqInsert_of_stop hx hlt, by simp, ?_⟩
      rintro y ⟨⟩
      exact ⟨hx, hlt⟩

/-- An insertion adds its entry and keeps the others. -/
theorem mem_vtqInsert {e y : QEntry} {q : List QEntry} : y ∈ vtqInsert e q ↔ y = e ∨ y ∈ q := by
  obtain ⟨ahead, behind, hq, hins, -, -⟩ := vtqInsert_split e q
  rw [hins, hq, List.perm_middle.mem_iff, List.mem_cons]

/-! ## The order of the priorities -/

/-- The order of a queue, read from its head: a waiting head is no less urgent than the waiting entries
behind it. -/
theorem priorityOrder_cons {x : QEntry} {xs : List QEntry} :
    PriorityOrder (x :: xs) ↔
      (x.inFlight = false → ∀ y ∈ xs, y.inFlight = false → x.frame0.prio ≤ y.frame0.prio) ∧
        PriorityOrder xs := by
  cases hx : x.inFlight <;> simp [PriorityOrder, hx]

/-- A waiting entry put at its place keeps the order; that nothing but the head is in flight is not
needed for it. -/
theorem vtqInsert_priorityOrder {e : QEntry} {q : List QEntry} (he : e.inFlight = false)
    (hq : PriorityOrder q) : PriorityOrder (vtqInsert e q) := by
  induction q with
  | nil => exact priorityOrder_cons.2 ⟨by simp, hq⟩
  | cons x xs ih =>
    obtain ⟨hhead, htail⟩ := priorityOrder_cons.1 hq
    rcases pass_or_stop e x with hpass | ⟨hx, hlt⟩
    · rw [vtqInsert_of_pass hpass, priorityOrder_cons]
      refine ⟨fun hx y hy hyf => ?_, ih htail⟩
      rcases mem_vtqInsert.1 hy with rfl | hy
      · simpa [hx] using hpass
      · exact hhead hx y hy hyf
    · rw [vtqInsert_of_stop hx hlt, priorityOrder_cons]
      refine ⟨fun _ y hy hyf => ?_, hq⟩
      rcases List.mem_cons.1 hy with rfl | hy
      · exact hlt.le
      · exact hlt.le.trans (hhead hx y hy hyf)

/-- R14, R15: a waiting entry never goes ahead of one in flight, so that still only the head can be. -/
theorem vtqInsert_tail_waiting {e : QEntry} {q : List QEntry} (he : e.inFlight = false)
    (hq : ∀ x ∈ q.tail, x.inFlight = false) : ∀ x ∈ (vtqInsert e q).tail, x.inFlight = false := by
  cases q with
  | nil => simp [vtqInsert]
  | cons x xs =>
    rcases pass_or_stop e x with hpass | ⟨hx, hlt⟩
    · rw [vtqInsert_of_pass hpass]
      intro y hy
      rcases mem_vtqInsert.1 hy with rfl | hy
      · exact he
      · exact hq y hy
    · rw [vtqInsert_of_stop hx hlt]
      exact List.forall_mem_cons.2 ⟨hx, hq⟩

/-- With nothing in flight the head of a queue in order is its most urgent frame. -/
theorem PriorityOrder.head_le {q : List QEntry} (hq : PriorityOrder q)
    (hw : ∀ x ∈ q, x.inFlight = false) {x : QEntry} (hx : q.head? = some x) :
    ∀ y ∈ q, x.frame0.prio ≤ y.frame0.prio := by
  obtain ⟨xs, rfl⟩ := List.head?_eq_some_iff.1 hx
  obtain ⟨hhead, -⟩ := priorityOrder_cons.1 hq
  obtain ⟨hxw, hxs⟩ := List.forall_mem_cons.1 hw
  exact List.forall_mem_cons.2 ⟨le_rfl, fun y hy => hhead hxw y hy (hxs y hy)⟩

/-! ## The start of an attempt -/

/-- R150: with no step due the command begins an attempt where one can begin. -/
theorem exec_transmitAttemptStart_of_not_due {s : State} (h : due s = false) :
    exec .transmitAttemptStart s = .next (if canAttempt s then beginAttempt s else s) :=
  congrArg Host.Outcome.next (after_of_not_due _ h)

/-- An attempt that changes what the VLI sends, sends the head. -/
theorem beginAttempt_sends_head {s : State}
    (h : (beginAttempt s).run.vli.sending ≠ s.run.vli.sending) :
    ∃ e, s.run.queues.vtq.head? = some e ∧
      (beginAttempt s).run.vli.sending = some (frameBytes e.current) := by
  unfold beginAttempt at h ⊢
  cases hq : s.run.queues.vtq with
  | nil => exact absurd (by rw [hq]) h
  | cons e rest => exact ⟨e, rfl, rfl⟩

/-- Settles O9: R15's place by induction on the queue, the order kept entry by entry, and the head offered
by the one branch in which an attempt begins. -/
theorem vtqPlacementByPriority : Obligations.VtqPlacementByPriority := by
  refine ⟨fun e q => ⟨vtqInsert_split e q, fun hq ht he => ?_⟩, fun s t hdue hexec hsend => ?_⟩
  · have horder := vtqInsert_priorityOrder he hq
    refine ⟨horder, vtqInsert_tail_waiting he ht, fun hw x hx => horder.head_le (fun y hy => ?_) hx⟩
    rcases mem_vtqInsert.1 hy with rfl | hy
    · exact he
    · exact hw y hy
  · rw [exec_transmitAttemptStart_of_not_due hdue] at hexec
    cases hexec
    by_cases hcan : canAttempt s = true
    · rw [if_pos hcan] at hsend ⊢
      exact beginAttempt_sends_head hsend
    · rw [if_neg hcan] at hsend
      exact absurd rfl hsend

end Sys2Proof.Machine
end

section
/-! PROOFS. Bits and numbers: what a string of bits spells, taken apart and put together, and the bits of a
payload byte by byte. -/

namespace Sys2Proof.Machine

/-! ## The number that a string of bits spells -/

@[simp] theorem bitsNat_nil : bitsNat [] = 0 := rfl

theorem boolNat_le_one (b : Bool) : boolNat b ≤ 1 := by cases b <;> decide

theorem bitsNat_concat (bits : List Bool) (b : Bool) :
    bitsNat (bits ++ [b]) = 2 * bitsNat bits + boolNat b := by
  simp [bitsNat]

theorem bitsNat_append (xs ys : List Bool) :
    bitsNat (xs ++ ys) = bitsNat xs * 2 ^ ys.length + bitsNat ys := by
  induction ys using List.reverseRecOn with
  | nil => simp
  | append_singleton ys b ih =>
    rw [← List.append_assoc, bitsNat_concat, bitsNat_concat, ih, List.length_append, List.length_singleton]
    ring

theorem bitsNat_cons (b : Bool) (bits : List Bool) :
    bitsNat (b :: bits) = boolNat b * 2 ^ bits.length + bitsNat bits := by
  simpa [bitsNat] using bitsNat_append [b] bits

theorem bitsNat_lt (bits : List Bool) : bitsNat bits < 2 ^ bits.length := by
  induction bits using List.reverseRecOn with
  | nil => simp
  | append_singleton bits b ih =>
    rw [bitsNat_concat, List.length_append, List.length_singleton, pow_succ]
    have := boolNat_le_one b
    omega

/-- Cutting the bits behind place `k` off is a shift to the right. -/
theorem bitsNat_take (bits : List Bool) (k : Nat) :
    bitsNat (bits.take k) = bitsNat bits / 2 ^ (bits.length - k) := by
  have hlt := bitsNat_lt (bits.drop k)
  conv_rhs => rw [← List.take_append_drop k bits, bitsNat_append, List.take_append_drop]
  rw [List.length_drop] at hlt ⊢
  rw [Nat.add_comm, Nat.add_mul_div_right _ _ (Nat.two_pow_pos _), Nat.div_eq_of_lt hlt, Nat.zero_add]

/-- Dropping the bits before place `k` takes the number modulo a power of 2. -/
theorem bitsNat_drop (bits : List Bool) (k : Nat) :
    bitsNat (bits.drop k) = bitsNat bits % 2 ^ (bits.length - k) := by
  have hlt := bitsNat_lt (bits.drop k)
  conv_rhs => rw [← List.take_append_drop k bits, bitsNat_append, List.take_append_drop]
  rw [List.length_drop] at hlt ⊢
  rw [Nat.mul_add_mod_self_right, Nat.mod_eq_of_lt hlt]

/-- The first bit is the most significant: it tells whether the number is in the upper half. -/
theorem two_pow_le_bitsNat_iff {bits : List Bool} (h : bits ≠ []) :
    2 ^ (bits.length - 1) ≤ bitsNat bits ↔ bits.head? = some true := by
  obtain ⟨b, rest, rfl⟩ := List.exists_cons_of_ne_nil h
  have hlt := bitsNat_lt rest
  rw [bitsNat_cons, List.length_cons, Nat.add_sub_cancel, List.head?_cons]
  cases b <;> simp [boolNat]
  exact hlt

/-! ## The bits of a payload -/

@[simp] theorem byteBits_length (b : Byte) : (byteBits b).length = 8 := by simp [byteBits]

theorem bitsNat_byteBits (b : Byte) : bitsNat (byteBits b) = b.toNat := by
  revert b; decide

theorem bytesBits_cons (b : Byte) (bs : List Byte) : bytesBits (b :: bs) = byteBits b ++ bytesBits bs := rfl

theorem bytesBits_concat (bs : List Byte) (b : Byte) : bytesBits (bs ++ [b]) = bytesBits bs ++ byteBits b := by
  simp [bytesBits]

@[simp] theorem bytesBits_length (bs : List Byte) : (bytesBits bs).length = 8 * bs.length := by
  induction bs with
  | nil => rfl
  | cons b bs ih => rw [bytesBits_cons, List.length_append, byteBits_length, ih, List.length_cons]; omega

/-- A payload's bits spell the number that its bytes spell. -/
theorem bitsNat_bytesBits (bs : List Byte) : bitsNat (bytesBits bs) = bytesNat bs := by
  induction bs using List.reverseRecOn with
  | nil => rfl
  | append_singleton bs b ih =>
    rw [bytesBits_concat, bitsNat_append, bitsNat_byteBits, ih, byteBits_length]
    simp [bytesNat, Nat.mul_comm]

theorem bytesBits_cons_drop (b : Byte) (bs : List Byte) (i : Nat) :
    (bytesBits (b :: bs)).drop (8 * (i + 1)) = (bytesBits bs).drop (8 * i) := by
  rw [bytesBits_cons, show 8 * (i + 1) = (byteBits b).length + 8 * i by rw [byteBits_length]; omega,
    List.drop_length_add_append]

/-- From the first bit of byte `i` on come its bits and then those of the bytes behind it. -/
theorem bytesBits_drop {bs : List Byte} {i : Nat} (h : i < bs.length) :
    (bytesBits bs).drop (8 * i) = byteBits (byteAt bs i) ++ (bytesBits bs).drop (8 * (i + 1)) := by
  induction bs generalizing i with
  | nil => simp at h
  | cons b bs ih =>
    cases i with
    | zero => rw [bytesBits_cons_drop]; rfl
    | succ i =>
      rw [bytesBits_cons_drop, bytesBits_cons_drop, ih (Nat.lt_of_succ_lt_succ h)]
      rfl

end Sys2Proof.Machine
end

section
/-! PROOFS. The field of a signal in its payload (R26 to R29): the bits it takes, the order that LSB_FIRST
gives their pieces, and the two readings of the number. -/

namespace Sys2Proof.Machine

/-! ## The field's bits -/

theorem fieldBits_length {d : SigDesc} {payload : List Byte} (h : d.start + d.width ≤ 8 * payload.length) :
    (fieldBits d payload).length = d.width := by
  simp only [fieldBits, List.length_take, List.length_drop, bytesBits_length]
  omega

theorem fieldBits_getElem? (d : SigDesc) (payload : List Byte) (i : Nat) :
    (fieldBits d payload)[i]? = if i < d.width then (bytesBits payload)[d.start + i]? else none := by
  rw [fieldBits, List.getElem?_take, List.getElem?_drop]

/-- R27: the field is a division and a remainder of the number that the whole payload spells. -/
theorem bitsNat_fieldBits {d : SigDesc} {payload : List Byte} (h : d.start + d.width ≤ 8 * payload.length) :
    bitsNat (fieldBits d payload) =
      bytesNat payload / 2 ^ (8 * payload.length - (d.start + d.width)) % 2 ^ d.width := by
  have hcut : fieldBits d payload = ((bytesBits payload).take (d.start + d.width)).drop d.start := by
    rw [fieldBits, List.drop_take, Nat.add_sub_cancel_left]
  rw [hcut, bitsNat_drop, bitsNat_take, List.length_take, bytesBits_length, bitsNat_bytesBits,
    Nat.min_eq_left h, Nat.add_sub_cancel_left]

/-- An aligned field of one byte. -/
theorem fieldBits_byte {d : SigDesc} {payload : List Byte} (ha : d.start % 8 = 0) (hw : d.width = 8)
    (h : d.start + d.width ≤ 8 * payload.length) :
    fieldBits d payload = byteBits (byteAt payload (d.start / 8)) := by
  have hs : d.start = 8 * (d.start / 8) := by omega
  rw [fieldBits, hw, hs, bytesBits_drop (by omega), ← hs, List.take_left' (byteBits_length _)]

/-- An aligned field of two bytes. -/
theorem fieldBits_two_bytes {d : SigDesc} {payload : List Byte} (ha : d.start % 8 = 0) (hw : d.width = 16)
    (h : d.start + d.width ≤ 8 * payload.length) :
    fieldBits d payload =
      byteBits (byteAt payload (d.start / 8)) ++ byteBits (byteAt payload (d.start / 8 + 1)) := by
  have hs : d.start = 8 * (d.start / 8) := by omega
  rw [fieldBits, hw, hs, bytesBits_drop (by omega), bytesBits_drop (by omega), ← hs, ← List.append_assoc,
    List.take_left' (by simp)]

/-! ## The pieces of LSB_FIRST (R28) -/

/-- A field of at most 16 bits is cut by the byte borders into three pieces, of which the last ones may be
empty, and LSB_FIRST takes them from the last to the first. -/
theorem lsbFirstBits_reverses_pieces (start : Nat) {field : List Bool} (h : field.length ≤ 16) :
    ∃ first second third : List Bool, field = first ++ (second ++ third) ∧
      lsbFirstBits start field = third ++ (second ++ first) ∧
      first.length = min field.length (8 - start % 8) ∧
      second.length = min 8 (field.length - first.length) ∧
      third.length = field.length - first.length - second.length := by
  refine ⟨field.take (8 - start % 8), (field.drop (8 - start % 8)).take 8, field.drop (8 - start % 8 + 8),
    ?_, ?_, ?_, ?_, ?_⟩
  · rw [← List.drop_drop, List.take_append_drop, List.take_append_drop]
  · rw [lsbFirstBits, List.append_assoc, List.take_of_length_le (by rw [List.length_drop]; omega)]
  all_goals simp only [List.length_take, List.length_drop]; omega

theorem lsbFirstBits_length (start : Nat) {field : List Bool} (h : field.length ≤ 16) :
    (lsbFirstBits start field).length = field.length := by
  obtain ⟨first, second, third, hfield, hlsb, -⟩ := lsbFirstBits_reverses_pieces start h
  rw [hlsb, hfield]
  simp only [List.length_append]
  omega

/-- In one byte the orders agree. -/
theorem lsbFirstBits_of_one_byte {start : Nat} {field : List Bool} (h : start % 8 + field.length ≤ 8) :
    lsbFirstBits start field = field := by
  have hfirst : field.take (8 - start % 8) = field := List.take_of_length_le (by omega)
  have hdrop {i : Nat} (hi : field.length ≤ i) : field.drop i = [] := List.drop_of_length_le hi
  rw [lsbFirstBits, hfirst, hdrop (by omega), hdrop (by omega)]
  rfl

/-- Under LSB_FIRST the first bit comes from the last piece that is not empty. -/
theorem lsbFirstBits_head? (start : Nat) (field : List Bool) :
    (lsbFirstBits start field).head? =
      field[8 - start % 8 + 8]?.or (field[8 - start % 8]?.or field[0]?) := by
  have hpos : 8 - start % 8 ≠ 0 := by omega
  have h8 : (8 : Nat) ≠ 0 := by decide
  rw [lsbFirstBits, List.append_assoc, List.head?_append, List.head?_append, List.head?_take,
    List.head?_take, List.head?_take, if_neg h8, if_neg h8, if_neg hpos, List.head?_drop,
    List.head?_drop, List.head?_eq_getElem?]

/-- Quotient and remainder are unique. -/
theorem digits_unique {m q r q' r' : Nat} (hr : r < m) (hr' : r' < m) (h : q * m + r = q' * m + r') :
    q = q' ∧ r = r' := by
  have hm : 0 < m := by omega
  have hread := (Nat.div_mod_unique hm).2 ⟨show r + m * q = q * m + r by ring, hr⟩
  have hread' := (Nat.div_mod_unique hm).2 ⟨show r' + m * q' = q * m + r by rw [h]; ring, hr'⟩
  exact ⟨hread.1.symm.trans hread'.1, hread.2.symm.trans hread'.2⟩

/-- R28 in numbers: the three digits of the field, in the bases of its pieces, in reversed order. -/
theorem bitsNat_lsbFirstBits {start x y z a b c : Nat} {field : List Bool} (h : field.length ≤ 16)
    (ha : a = min field.length (8 - start % 8)) (hb : b = min 8 (field.length - a))
    (hc : c = field.length - a - b) (hy : y < 2 ^ b) (hz : z < 2 ^ c)
    (hfield : bitsNat field = x * 2 ^ (b + c) + y * 2 ^ c + z) :
    bitsNat (lsbFirstBits start field) = z * 2 ^ (a + b) + y * 2 ^ a + x := by
  obtain ⟨first, second, third, rfl, hlsb, hfirst, hsecond, hthird⟩ := lsbFirstBits_reverses_pieces start h
  rw [← ha] at hfirst
  rw [hfirst, ← hb] at hsecond
  rw [hfirst, hsecond, ← hc] at hthird
  have hsecond_lt := bitsNat_lt second
  have hthird_lt := bitsNat_lt third
  rw [hsecond] at hsecond_lt
  rw [hthird] at hthird_lt
  have hdigits : (bitsNat first * 2 ^ b + bitsNat second) * 2 ^ c + bitsNat third =
      (x * 2 ^ b + y) * 2 ^ c + z := by
    rw [bitsNat_append, bitsNat_append, List.length_append, hsecond, hthird] at hfield
    linear_combination hfield
  obtain ⟨hhigh, rfl⟩ := digits_unique hthird_lt hz hdigits
  obtain ⟨rfl, rfl⟩ := digits_unique hsecond_lt hy hhigh
  rw [hlsb, bitsNat_append, bitsNat_append, List.length_append, hfirst, hsecond, Nat.add_comm b a]
  ring

/-! ## The raw value (R27 to R29) -/

/-- The field's bits, the most significant first under the descriptor's byte order. -/
def orderedBits (d : SigDesc) (payload : List Byte) : List Bool :=
  match d.order with
  | .msbFirst => fieldBits d payload
  | .lsbFirst => lsbFirstBits d.start (fieldBits d payload)

/-- The payload bit that is the sign bit of a signed field (R29). -/
def signPlace (d : SigDesc) : Nat :=
  match d.order with
  | .msbFirst => d.start
  | .lsbFirst => max d.start (8 * ((d.start + d.width - 1) / 8))

theorem rawValue_of_unsigned {d : SigDesc} (payload : List Byte) (h : d.signed = false) :
    rawValue d payload = bitsNat (orderedBits d payload) := by
  rw [rawValue, h]; rfl

theorem rawValue_of_signed {d : SigDesc} (payload : List Byte) (h : d.signed = true) :
    rawValue d payload = signedNat d.width (bitsNat (orderedBits d payload)) := by
  rw [rawValue, h]; rfl

theorem orderedBits_length {d : SigDesc} {payload : List Byte} (hw : d.width ≤ 16)
    (h : d.start + d.width ≤ 8 * payload.length) : (orderedBits d payload).length = d.width := by
  have hfield := fieldBits_length h
  cases ho : d.order with
  | msbFirst => simpa [orderedBits, ho] using hfield
  | lsbFirst => simpa [orderedBits, ho, lsbFirstBits_length d.start (hfield.trans_le hw)] using hfield

/-- The first bit of the field as ordered is the payload bit of its sign. -/
theorem orderedBits_head? {d : SigDesc} {payload : List Byte} (hpos : 1 ≤ d.width) (hw : d.width ≤ 16)
    (h : d.start + d.width ≤ 8 * payload.length) :
    (orderedBits d payload).head? = some ((bytesBits payload).getD (signPlace d) false) := by
  have hbit {i : Nat} (hi : i < d.width) :
      (fieldBits d payload)[i]? = some ((bytesBits payload).getD (d.start + i) false) := by
    have hlt : d.start + i < (bytesBits payload).length := by rw [bytesBits_length]; omega
    rw [fieldBits_getElem?, if_pos hi, List.getElem?_eq_getElem hlt, List.getD_eq_getElem _ _ hlt]
  have hnone {i : Nat} (hi : d.width ≤ i) : (fieldBits d payload)[i]? = none := by
    rw [fieldBits_getElem?, if_neg (by omega)]
  cases ho : d.order with
  | msbFirst => simpa [orderedBits, signPlace, ho, List.head?_eq_getElem?] using hbit hpos
  | lsbFirst =>
    simp only [orderedBits, signPlace, ho, lsbFirstBits_head?]
    rcases Nat.lt_or_ge (8 - d.start % 8 + 8) d.width with hthird | hthird
    · rw [hbit hthird, Option.some_or]
      congr 2; omega
    · rw [hnone hthird, Option.none_or]
      rcases Nat.lt_or_ge (8 - d.start % 8) d.width with hsecond | hsecond
      · rw [hbit hsecond, Option.some_or]
        congr 2; omega
      · rw [hnone hsecond, Option.none_or, hbit hpos]
        congr 2; omega

/-! ## Two's complement (R29) -/

theorem signedNat_of_lt {width n : Nat} (h : n < 2 ^ (width - 1)) : signedNat width n = n := if_pos h

theorem signedNat_of_le {width n : Nat} (h : 2 ^ (width - 1) ≤ n) :
    signedNat width n = (n : Int) - 2 ^ width := if_neg h.not_gt

theorem signedNat_range {width n : Nat} (hw : 1 ≤ width) (hn : n < 2 ^ width) :
    -(2 ^ (width - 1) : Int) ≤ signedNat width n ∧ signedNat width n < 2 ^ (width - 1) := by
  obtain ⟨k, rfl⟩ := Nat.exists_eq_add_of_le' hw
  rw [signedNat, Nat.add_sub_cancel, pow_succ]
  rw [pow_succ] at hn
  split <;> zify at * <;> omega

theorem signedNat_neg_iff {width n : Nat} (hn : n < 2 ^ width) :
    signedNat width n < 0 ↔ 2 ^ (width - 1) ≤ n := by
  rw [signedNat]
  split <;> zify at * <;> omega

/-! ## The statements of R27, R28 and R29 -/

/-- Settles O1: the field cut out of the payload's bits is a division and a remainder of its number. -/
theorem msbFirstFieldIsItsBits : Obligations.MsbFirstFieldIsItsBits := by
  intro d payload ho hu hfit
  have hordered : orderedBits d payload = fieldBits d payload := by rw [orderedBits, ho]
  rw [rawValue_of_unsigned payload hu, hordered, bitsNat_fieldBits hfit]

/-- Settles O2: the digits of the three pieces are unique, and the aligned forms are cases of the pieces. -/
theorem lsbFirstFieldReversesItsPieces : Obligations.LsbFirstFieldReversesItsPieces := by
  intro d payload hu hpos hw hfit msb lsb a b c
  have hmsb : msb = (bitsNat (fieldBits d payload) : Int) := rawValue_of_unsigned payload hu
  have hlsb : lsb = (bitsNat (lsbFirstBits d.start (fieldBits d payload)) : Int) :=
    rawValue_of_unsigned payload hu
  have hlen := fieldBits_length hfit
  have hreversed {x y z : Nat} (hy : y < 2 ^ b) (hz : z < 2 ^ c)
      (h : bitsNat (fieldBits d payload) = x * 2 ^ (b + c) + y * 2 ^ c + z) :
      lsb = ((z * 2 ^ (a + b) + y * 2 ^ a + x : Nat) : Int) := by
    rw [hlsb, bitsNat_lsbFirstBits (hlen.trans_le hw) (by rw [hlen]) (by rw [hlen]) (by rw [hlen]) hy hz h]
  have hone_byte (h : d.start % 8 + d.width ≤ 8) : lsb = msb := by
    rw [hlsb, hmsb, lsbFirstBits_of_one_byte (by rwa [hlen])]
  refine ⟨fun x y z _ hy hz h => hreversed hy hz ?_, fun ha h8 => ?_, fun ha h16 => ?_, hone_byte⟩
  · rw [hmsb] at h
    exact_mod_cast h
  · rw [hone_byte (by omega), hmsb, fieldBits_byte ha h8 hfit, bitsNat_byteBits]
  · have ha8 : a = 8 := by omega
    have hb8 : b = 8 := by omega
    have hc0 : c = 0 := by omega
    have hpieces := hreversed (x := (byteAt payload (d.start / 8)).toNat)
      (y := (byteAt payload (d.start / 8 + 1)).toNat) (z := 0)
      (by rw [hb8]; exact BitVec.isLt _) (Nat.two_pow_pos _) (by
        rw [fieldBits_two_bytes ha h16 hfit, bitsNat_append, bitsNat_byteBits, bitsNat_byteBits,
          byteBits_length, hb8, hc0]
        omega)
    rw [hpieces, ha8]
    congr 1; omega

/-- Settles O3: both readings are of one number below 2^width, whose first bit is the sign bit. -/
theorem signedFieldIsTwosComplement : Obligations.SignedFieldIsTwosComplement := by
  intro d payload hpos hw hfit u v
  have hlen := orderedBits_length hw hfit
  have hlt := bitsNat_lt (orderedBits d payload)
  have hsign := two_pow_le_bitsNat_iff (bits := orderedBits d payload) (by
    rw [← List.length_pos_iff, hlen]; exact hpos)
  have hu : u = (bitsNat (orderedBits d payload) : Int) := rawValue_of_unsigned payload rfl
  have hv : v = signedNat d.width (bitsNat (orderedBits d payload)) := rawValue_of_signed payload rfl
  rw [orderedBits_head? hpos hw hfit, Option.some_inj] at hsign
  rw [hlen] at hlt hsign
  generalize bitsNat (orderedBits d payload) = n at *
  have hneg := (signedNat_neg_iff hlt).trans hsign
  obtain ⟨hlow, hhigh⟩ := signedNat_range hpos hlt
  have hmax : 2 ^ d.width ≤ 2 ^ 16 := Nat.pow_le_pow_right (by decide) hw
  have hhalf : 2 ^ (d.width - 1) ≤ 2 ^ 15 := Nat.pow_le_pow_right (by decide) (by omega)
  zify at hlt hmax hhalf
  refine ⟨by omega, by omega, by omega, fun h => ?_, fun h => ?_, by omega, by omega, by omega, by omega,
    fun h1 => ?_, by rw [hv]; exact hneg⟩
  · rw [hv, hu, signedNat_of_lt (by rw [hu] at h; exact_mod_cast h)]
  · rw [hv, hu, signedNat_of_le (by rw [hu] at h; exact_mod_cast h)]
  · rw [← hv, h1] at hlow hhigh
    omega

end Sys2Proof.Machine
end

section
/-! PROOFS. From the raw value to the entry (R25, R26, R30 to R33): the division rounded half up with its
ranges, and what one signal's extraction writes. -/

namespace Sys2Proof.Machine

/-! ## Scaling (R31, R32) -/

theorem scaleRound_zero (p : Int) : scaleRound p 0 = p := rfl

theorem scaleRound_of_pos (p : Int) {shift : Nat} (h : 1 ≤ shift) :
    scaleRound p shift = (p + 2 ^ (shift - 1)) / 2 ^ shift := if_neg (by omega)

theorem two_pow_eq_half_mul_two {shift : Nat} (h : 1 ≤ shift) : (2 : Int) ^ shift = 2 ^ (shift - 1) * 2 :=
  (pow_sub_one_mul (by omega) 2).symm

/-- R31: the quotient is the nearest integer, and of two equally near ones the larger. -/
theorem scaleRound_nearest (p : Int) {shift : Nat} (h : 1 ≤ shift) :
    2 ^ shift * scaleRound p shift ≤ p + 2 ^ (shift - 1) ∧
      p - 2 ^ (shift - 1) < 2 ^ shift * scaleRound p shift := by
  have hpos : (0 : Int) < 2 ^ shift := by positivity
  have htwice := two_pow_eq_half_mul_two h
  have hdiv := Int.mul_ediv_add_emod (p + 2 ^ (shift - 1)) (2 ^ shift)
  have hlow := Int.emod_nonneg (p + 2 ^ (shift - 1)) hpos.ne'
  have hhigh := Int.emod_lt_of_pos (p + 2 ^ (shift - 1)) hpos
  rw [scaleRound_of_pos p h]
  constructor <;> linarith

/-- A quotient lies within any limits around 0 that hold its product. -/
theorem scaleRound_range {p bound : Int} (shift : Nat) (hlow : -bound ≤ p) (hhigh : p < bound) :
    -bound ≤ scaleRound p shift ∧ scaleRound p shift < bound := by
  rcases Nat.eq_zero_or_pos shift with rfl | h
  · exact ⟨hlow, hhigh⟩
  · obtain ⟨hle, hlt⟩ := scaleRound_nearest p h
    have hhalf : (0 : Int) < 2 ^ (shift - 1) := by positivity
    rw [two_pow_eq_half_mul_two h] at hle hlt
    constructor <;> nlinarith

/-- R31: the range of the product. -/
theorem raw_mul_factor_range {raw factor : Int} (hraw : -32768 ≤ raw) (hraw' : raw ≤ 65535)
    (hfactor : -32768 ≤ factor) (hfactor' : factor ≤ 32767) :
    -2147450880 ≤ raw * factor ∧ raw * factor ≤ 2147385345 := by
  constructor <;> nlinarith

/-! ## Extraction (R25, R26, R30, R33) -/

theorem fieldFits_iff (d : SigDesc) (payload : List Byte) :
    fieldFits d payload = true ↔ d.start + d.width ≤ 8 * payload.length := decide_eq_true_iff

theorem clampValue_of_lt_min {d : SigDesc} {v : Int} (h : v < d.min) :
    clampValue d v = { value := d.min, status := .clamped } := if_pos h

theorem clampValue_of_max_lt {d : SigDesc} {v : Int} (hd : d.min ≤ d.max) (h : d.max < v) :
    clampValue d v = { value := d.max, status := .clamped } := by
  rw [clampValue, if_neg (hd.trans_lt h).not_gt, if_pos h]

theorem clampValue_of_mem {d : SigDesc} {v : Int} (hlow : d.min ≤ v) (hhigh : v ≤ d.max) :
    clampValue d v = { value := v, status := .valid } := by
  rw [clampValue, if_neg hlow.not_gt, if_neg hhigh.not_gt]

section

variable {d : SigDesc} {payload : List Byte} (held : SigEntry)

theorem extractSignal_of_short (h : 8 * payload.length < d.start + d.width) :
    extractSignal d payload held = { value := held.value, status := .notAvailable } :=
  if_neg (by rw [fieldFits_iff]; omega)

/-- R25: with the field in the payload the codes are tested before anything is computed. -/
theorem extractSignal_of_fits (h : d.start + d.width ≤ 8 * payload.length) :
    extractSignal d payload held =
      if d.naCode = some (rawValue d payload) then { value := held.value, status := .notAvailable }
      else if d.errCode = some (rawValue d payload) then { value := held.value, status := .errorCode }
      else clampValue d (scaledValue d (rawValue d payload)) :=
  if_pos ((fieldFits_iff d payload).2 h)

theorem extractSignal_of_naCode (h : d.start + d.width ≤ 8 * payload.length)
    (hna : d.naCode = some (rawValue d payload)) :
    extractSignal d payload held = { value := held.value, status := .notAvailable } := by
  rw [extractSignal_of_fits held h, if_pos hna]

theorem extractSignal_of_errCode (h : d.start + d.width ≤ 8 * payload.length)
    (hna : d.naCode ≠ some (rawValue d payload)) (herr : d.errCode = some (rawValue d payload)) :
    extractSignal d payload held = { value := held.value, status := .errorCode } := by
  rw [extractSignal_of_fits held h, if_neg hna, if_pos herr]

theorem extractSignal_of_number (h : d.start + d.width ≤ 8 * payload.length)
    (hna : d.naCode ≠ some (rawValue d payload)) (herr : d.errCode ≠ some (rawValue d payload)) :
    extractSignal d payload held = clampValue d (scaledValue d (rawValue d payload)) := by
  rw [extractSignal_of_fits held h, if_neg hna, if_neg herr]

end

/-! ## The statement of R31 and R32 -/

/-- Settles O4: the quotient is nearest and in the range of its product, and the entry is read off the
branches of the extraction. -/
theorem scalingIsExactAndRoundsHalfUp : Obligations.ScalingIsExactAndRoundsHalfUp := by
  refine ⟨fun d raw hraw hraw' hfactor hfactor' _ hoffset hoffset' => ?_, fun d payload held hd => ?_,
    by decide, by decide, by decide⟩
  · intro p
    obtain ⟨hlow, hhigh⟩ := raw_mul_factor_range hraw hraw' hfactor hfactor'
    obtain ⟨hqlow, hqhigh⟩ := scaleRound_range (p := p) (bound := 2147483648) d.shift (by omega) (by omega)
    have hv : scaledValue d raw = scaleRound p d.shift + d.offset := rfl
    refine ⟨scaleRound p d.shift, hv, hlow, hhigh, fun h => by rw [h, scaleRound_zero],
      fun h => ⟨scaleRound_of_pos p h, scaleRound_nearest p h⟩, ?_⟩
    omega
  · intro e raw v
    refine ⟨extractSignal_of_short held, fun h => ⟨extractSignal_of_naCode held h,
      extractSignal_of_errCode held h, fun hna herr => ?_⟩⟩
    have he : e = clampValue d v := extractSignal_of_number held h hna herr
    rw [he]
    exact ⟨clampValue_of_lt_min, clampValue_of_max_lt hd, clampValue_of_mem⟩

end Sys2Proof.Machine
end

section
/-! PROOFS. The curve of a gauge channel (R45): the quotient rounded half up, the three branches of
`curveTarget`, and what a curve's rising x values give. -/

namespace Sys2Proof.Machine

/-! ## A quotient rounded half up -/

/-- N ÷ D rounded to the nearer integer, a half going up. -/
def roundHalfUp (n m : Int) : Int := (2 * n + m) / (2 * m)

/-- The rounded quotient is at most a half above the quotient, and less than a half below it. -/
theorem roundHalfUp_nearest (n : Int) {m : Int} (hm : 1 ≤ m) :
    2 * m * roundHalfUp n m ≤ 2 * n + m ∧ 2 * n - m < 2 * m * roundHalfUp n m := by
  have hdiv := Int.mul_ediv_add_emod (2 * n + m) (2 * m)
  have hlow := Int.emod_nonneg (2 * n + m) (show 2 * m ≠ 0 by omega)
  have hhigh := Int.emod_lt_of_pos (2 * n + m) (show 0 < 2 * m by omega)
  constructor <;> rw [roundHalfUp] <;> linarith

/-- A quotient between two integers stays between them. -/
theorem roundHalfUp_mem {n m low high : Int} (hm : 1 ≤ m) (hlow : low * m ≤ n) (hhigh : n ≤ high * m) :
    low ≤ roundHalfUp n m ∧ roundHalfUp n m ≤ high := by
  have hpos : 0 < 2 * m := by omega
  refine ⟨Int.le_ediv_of_mul_le hpos (by linarith), Int.lt_add_one_iff.1 ?_⟩
  exact Int.ediv_lt_of_lt_mul hpos (by linarith)

theorem roundHalfUp_zero {m : Int} (hm : 1 ≤ m) : roundHalfUp 0 m = 0 := by
  obtain ⟨hlow, hhigh⟩ := roundHalfUp_mem (n := 0) (low := 0) (high := 0) hm (by simp) (by simp)
  exact le_antisymm hhigh hlow

/-! ## One segment of the curve -/

/-- R45's formula between the breakpoints p and q. -/
def segmentTarget (p q : Int × Nat) (v : Int) : Int :=
  p.2 + roundHalfUp ((v - p.1) * ((q.2 : Int) - p.2)) (q.1 - p.1)

theorem segmentTarget_start {p q : Int × Nat} (hpq : p.1 < q.1) : segmentTarget p q p.1 = p.2 := by
  rw [segmentTarget, sub_self, zero_mul, roundHalfUp_zero (by omega), add_zero]

section

variable {p q : Int × Nat} {v : Int}

/-- The numerator N lies between 0 and the segment's whole rise or fall, times D. -/
theorem segment_numerator_mem (hp : p.1 ≤ v) (hq : v < q.1) :
    min 0 ((q.2 : Int) - p.2) * (q.1 - p.1) ≤ (v - p.1) * ((q.2 : Int) - p.2) ∧
      (v - p.1) * ((q.2 : Int) - p.2) ≤ max 0 ((q.2 : Int) - p.2) * (q.1 - p.1) := by
  rcases le_total 0 ((q.2 : Int) - p.2) with hrise | hfall
  · rw [min_eq_left hrise, max_eq_right hrise]
    constructor <;> nlinarith
  · rw [min_eq_right hfall, max_eq_left hfall]
    constructor <;> nlinarith

theorem segmentTarget_mem (hp : p.1 ≤ v) (hq : v < q.1) :
    min (p.2 : Int) q.2 ≤ segmentTarget p q v ∧ segmentTarget p q v ≤ max (p.2 : Int) q.2 := by
  obtain ⟨hlow, hhigh⟩ := segment_numerator_mem hp hq
  obtain ⟨hlow, hhigh⟩ := roundHalfUp_mem (by omega) hlow hhigh
  rw [segmentTarget]
  omega

end

/-! ## The branches of the curve -/

theorem xsRise_cons_cons {p q : Int × Nat} {rest : List (Int × Nat)} :
    xsRise (p :: q :: rest) = true ↔ p.1 < q.1 ∧ xsRise (q :: rest) = true := by
  simp [xsRise]

/-- No breakpoint stands to the left of the first. -/
theorem first_le_of_xsRise {p q : Int × Nat} {rest : List (Int × Nat)} (h : xsRise (p :: rest) = true)
    (hq : q ∈ p :: rest) : p.1 ≤ q.1 := by
  induction rest generalizing p with
  | nil => rw [List.mem_singleton.1 hq]
  | cons r rest ih =>
    obtain ⟨hpr, hrest⟩ := xsRise_cons_cons.1 h
    rcases List.mem_cons.1 hq with rfl | hq
    · exact le_rfl
    · exact hpr.le.trans (ih hrest hq)

theorem curveTarget_singleton (p : Int × Nat) (v : Int) : curveTarget [p] v = p.2 := rfl

/-- R45: at or below the first x the target is the first y. -/
theorem curveTarget_of_le_first {p : Int × Nat} {v : Int} (rest : List (Int × Nat)) (h : v ≤ p.1) :
    curveTarget (p :: rest) v = p.2 := by
  cases rest with
  | nil => rfl
  | cons q rest => exact if_pos h

section

variable {p q : Int × Nat} {v : Int} (rest : List (Int × Nat)) (hpq : p.1 < q.1)
include hpq

theorem curveTarget_of_first_segment (hp : p.1 ≤ v) (hq : v < q.1) :
    curveTarget (p :: q :: rest) v = segmentTarget p q v := by
  rcases hp.eq_or_lt with rfl | hp
  · rw [curveTarget_of_le_first _ le_rfl, segmentTarget_start hpq]
  · rw [curveTarget, if_neg hp.not_ge, if_pos hq]
    rfl

theorem curveTarget_of_second_le (hq : q.1 ≤ v) :
    curveTarget (p :: q :: rest) v = curveTarget (q :: rest) v := by
  rw [curveTarget, if_neg (hpq.trans_le hq).not_ge, if_neg hq.not_gt]

end

/-! ## The whole curve -/

/-- R45: at or above the last x the target is the last y. -/
theorem curveTarget_of_last_le {pts : List (Int × Nat)} {p : Int × Nat} {v : Int} (hx : xsRise pts = true)
    (hp : pts.getLast? = some p) (hv : p.1 ≤ v) : curveTarget pts v = p.2 := by
  induction pts with
  | nil => simp at hp
  | cons a pts ih =>
    cases pts with
    | nil =>
      rw [List.getLast?_singleton, Option.some_inj] at hp
      rw [curveTarget_singleton, hp]
    | cons b rest =>
      rw [List.getLast?_cons_cons] at hp
      obtain ⟨hab, hrest⟩ := xsRise_cons_cons.1 hx
      have hb : b.1 ≤ p.1 := first_le_of_xsRise hrest (List.mem_of_getLast? hp)
      rw [curveTarget_of_second_le rest hab (hb.trans hv), ih hrest hp]

/-- R45: between breakpoint i and the next the target is the segment's. -/
theorem curveTarget_of_segment {pts : List (Int × Nat)} {i : Nat} {p q : Int × Nat} {v : Int}
    (hx : xsRise pts = true) (hp : pts[i]? = some p) (hq : pts[i + 1]? = some q) (hpv : p.1 ≤ v)
    (hvq : v < q.1) : p.1 < q.1 ∧ curveTarget pts v = segmentTarget p q v := by
  refine ⟨hpv.trans_lt hvq, ?_⟩
  induction i generalizing pts with
  | zero =>
    match pts with
    | [] => simp at hp
    | [_] => simp at hq
    | a :: b :: rest =>
      obtain rfl : a = p := by simpa using hp
      obtain rfl : b = q := by simpa using hq
      exact curveTarget_of_first_segment rest (hpv.trans_lt hvq) hpv hvq
  | succ i ih =>
    match pts with
    | [] => simp at hp
    | [_] => simp at hp
    | a :: b :: rest =>
      rw [List.getElem?_cons_succ] at hp hq
      obtain ⟨hab, hrest⟩ := xsRise_cons_cons.1 hx
      have hb : b.1 ≤ p.1 := first_le_of_xsRise hrest (List.mem_of_getElem? hp)
      rw [curveTarget_of_second_le rest hab (hb.trans hpv), ih hrest hp hq]

/-- R45: the target lies in 0 to the span. -/
theorem curveTarget_mem {pts : List (Int × Nat)} {span : Nat} (v : Int) (hx : xsRise pts = true)
    (hy : ∀ p ∈ pts, p.2 ≤ span) : 0 ≤ curveTarget pts v ∧ curveTarget pts v ≤ span := by
  induction pts with
  | nil => simp [curveTarget]
  | cons p pts ih =>
    obtain ⟨hp, hys⟩ := List.forall_mem_cons.1 hy
    rcases le_or_gt v p.1 with hv | hv
    · rw [curveTarget_of_le_first _ hv]
      omega
    · cases pts with
      | nil =>
        rw [curveTarget_singleton]
        omega
      | cons q rest =>
        obtain ⟨hpq, hrest⟩ := xsRise_cons_cons.1 hx
        obtain ⟨hq, -⟩ := List.forall_mem_cons.1 hys
        rcases le_or_gt q.1 v with hqv | hvq
        · rw [curveTarget_of_second_le rest hpq hqv]
          exact ih hrest hys
        · obtain ⟨hlow, hhigh⟩ := segmentTarget_mem hv.le hvq
          rw [curveTarget_of_first_segment rest hpq hv.le hvq]
          omega

/-! ## The statement of R45 -/

/-- Settles O5: the three branches of the curve, and the segment's rounding. -/
theorem curveInterpolatesAndHoldsItsEnds : Obligations.CurveInterpolatesAndHoldsItsEnds := by
  refine ⟨fun pts span v hx _ hy => ⟨fun p hp hv => ?_, fun p hp hv => curveTarget_of_last_le hx hp hv,
    fun i p q hp hq hpv hvq => ?_, curveTarget_mem v hx hy⟩, by decide⟩
  · obtain ⟨rest, rfl⟩ := List.head?_eq_some_iff.1 hp
    exact curveTarget_of_le_first rest hv
  · intro n m
    obtain ⟨hpq, htarget⟩ := curveTarget_of_segment hx hp hq hpv hvq
    have hm : 1 ≤ m := by omega
    have hround : segmentTarget p q v - p.2 = roundHalfUp n m := by rw [segmentTarget]; ring
    obtain ⟨hle, hlt⟩ := roundHalfUp_nearest n hm
    obtain ⟨hlow, hhigh⟩ := segmentTarget_mem hpv hvq
    rw [htarget, hround]
    refine ⟨rfl, hle, hlt, hlow, hhigh, hm, fun hfirst hlast hspan => ?_⟩
    obtain ⟨hnlow, hnhigh⟩ := segment_numerator_mem hpv hvq
    have hp2 := hy p (List.mem_of_getElem? hp)
    have hq2 := hy q (List.mem_of_getElem? hq)
    have hwide : m ≤ 16777215 := by omega
    have hfall : -4095 ≤ min 0 ((q.2 : Int) - p.2) := by omega
    have hrise : max 0 ((q.2 : Int) - p.2) ≤ 4095 := by omega
    exact ⟨hwide, by nlinarith, by nlinarith⟩

end Sys2Proof.Machine
end

section
/-! PROOFS. The filter and the commanded position of a gauge channel (R46, R47): the move toward a target,
its bounds, and where a run of moves leads. -/

namespace Sys2Proof.Machine

/-! ## A part of a distance, truncated toward zero -/

/-- The k sixteenths of a distance, k at most 16, truncated, are no longer than it and point its way. -/
theorem tdiv_sixteenths_mem (d : Int) {k : Nat} (hk : k ≤ 16) :
    min 0 d ≤ (d * k).tdiv 16 ∧ (d * k).tdiv 16 ≤ max 0 d := by
  rcases le_total 0 d with hd | hd
  · have hprod : 0 ≤ d * k ∧ d * k ≤ d * 16 := 
      ⟨by positivity, mul_le_mul_of_nonneg_left (by exact_mod_cast hk) hd⟩
    rw [Int.tdiv_eq_ediv_of_nonneg hprod.1]
    omega
  · obtain ⟨e, rfl⟩ : ∃ e, d = -e := ⟨-d, (neg_neg d).symm⟩
    have hprod : 0 ≤ e * k ∧ e * k ≤ e * 16 :=
      ⟨mul_nonneg (by omega) (by omega), mul_le_mul_of_nonneg_left (by exact_mod_cast hk) (by omega)⟩
    rw [neg_mul, Int.neg_tdiv, Int.tdiv_eq_ediv_of_nonneg hprod.1]
    omega

/-! ## One move of the filter (R46) -/

section

variable {f target : Int} {k : Nat}

theorem filterMove_of_part (h : ((16 * target - f) * k).tdiv 16 ≠ 0) :
    filterMove f target k = f + ((16 * target - f) * k).tdiv 16 := by
  rw [filterMove, if_neg fun c => h c.1, if_neg fun c => h c.1]

theorem filterMove_of_no_part_above (h : ((16 * target - f) * k).tdiv 16 = 0) (hd : 0 < 16 * target - f) :
    filterMove f target k = f + 1 := by
  rw [filterMove, if_pos ⟨h, hd⟩]

theorem filterMove_of_no_part_below (h : ((16 * target - f) * k).tdiv 16 = 0) (hd : 16 * target - f < 0) :
    filterMove f target k = f - 1 := by
  rw [filterMove, if_neg fun c => hd.not_gt c.2, if_pos ⟨h, hd⟩, sub_eq_add_neg]

theorem filterMove_of_reached (h : 16 * target - f = 0) : filterMove f target k = f := by
  simp [filterMove, h]

/-- With k = 16 there is no damping. -/
theorem filterMove_sixteen (f target : Int) : filterMove f target 16 = 16 * target := by
  have hall : ((16 * target - f) * (16 : Nat)).tdiv 16 = 16 * target - f :=
    Int.mul_tdiv_cancel _ (by decide)
  rcases eq_or_ne (16 * target - f) 0 with hd | hd
  · rw [filterMove_of_reached hd]
    omega
  · rw [filterMove_of_part (by rwa [hall]), hall]
    omega

/-- R46: the move leads toward 16 × T and not past it. -/
theorem filterMove_mem (f target : Int) (hk : k ≤ 16) :
    min f (16 * target) ≤ filterMove f target k ∧ filterMove f target k ≤ max f (16 * target) := by
  obtain ⟨hlow, hhigh⟩ := tdiv_sixteenths_mem (16 * target - f) hk
  rcases eq_or_ne (((16 * target - f) * k).tdiv 16) 0 with hs | hs
  · rcases lt_trichotomy (16 * target - f) 0 with hd | hd | hd
    · rw [filterMove_of_no_part_below hs hd]
      omega
    · rw [filterMove_of_reached hd]
      omega
    · rw [filterMove_of_no_part_above hs hd]
      omega
  · rw [filterMove_of_part hs]
    omega

theorem filterMove_ne (h : 16 * target - f ≠ 0) : filterMove f target k ≠ f := by
  rcases eq_or_ne (((16 * target - f) * k).tdiv 16) 0 with hs | hs
  · rcases h.lt_or_gt with hd | hd
    · rw [filterMove_of_no_part_below hs hd]
      omega
    · rw [filterMove_of_no_part_above hs hd]
      omega
  · rw [filterMove_of_part hs]
    omega

/-- A filter and a target within the span keep the filter within it. -/
theorem filterMove_mem_span {span : Nat} (hk : k ≤ 16) (hf : 0 ≤ f) (hf' : f ≤ 16 * span)
    (ht : 0 ≤ target) (ht' : target ≤ span) :
    0 ≤ filterMove f target k ∧ filterMove f target k ≤ 16 * span := by
  have hmem := filterMove_mem f target hk
  omega

/-- Every move short of 16 × T shortens what is left. -/
theorem filterMove_shortens (hk : k ≤ 16) (h : 16 * target - f ≠ 0) :
    (16 * target - filterMove f target k).natAbs < (16 * target - f).natAbs := by
  have hmem := filterMove_mem f target hk
  have hne := filterMove_ne (k := k) h
  omega

/-- R46: a run of moves reaches 16 × T and stays there. -/
theorem filterMove_reaches (f target : Int) (hk : k ≤ 16) :
    ∃ n : Nat, ∀ m : Nat, n ≤ m → (fun x => filterMove x target k)^[m] f = 16 * target := by
  induction hleft : (16 * target - f).natAbs using Nat.strong_induction_on generalizing f with
  | _ left ih =>
    by_cases hd : 16 * target - f = 0
    · refine ⟨0, fun m _ => ?_⟩
      rw [Function.iterate_fixed (filterMove_of_reached hd)]
      omega
    · obtain ⟨n, hn⟩ := ih _ (hleft ▸ filterMove_shortens hk hd) (filterMove f target k) rfl
      refine ⟨n + 1, fun m hm => ?_⟩
      obtain ⟨m, rfl⟩ := Nat.exists_eq_add_of_le' (Nat.one_le_of_lt hm)
      exact hn m (by omega)

end

/-- Settles O6: the branches of the move, that it never passes 16 × T, and that it shortens what is left. -/
theorem filterReachesItsTarget : Obligations.FilterReachesItsTarget := by
  refine ⟨fun f target k _ hk => ?_, by decide⟩
  intro d s
  obtain ⟨hlow, hhigh⟩ := filterMove_mem f target hk
  exact ⟨filterMove_of_part, filterMove_of_no_part_above, filterMove_of_no_part_below, filterMove_of_reached,
    fun h => by rw [h, filterMove_sixteen], hlow, hhigh,
    fun _ hf hf' ht ht' => filterMove_mem_span hk hf hf' ht ht', filterMove_reaches f target hk⟩

/-! ## Stage 7 (R47) -/

/-- A limited change keeps to the limit. -/
theorem limited_abs_le (rate : Nat) (d : Int) : |limited rate d| ≤ rate := by
  rw [limited, abs_le]
  omega

/-- A limited change goes toward its end and not past it. -/
theorem add_limited_mem (pos goal : Int) (rate : Nat) :
    min pos goal ≤ pos + limited rate (goal - pos) ∧ pos + limited rate (goal - pos) ≤ max pos goal := by
  rw [limited]
  omega

/-- A filter within the span, rounded half up, is a position within it. -/
theorem rounded_filter_mem {filt : Int} {span : Nat} (hf : 0 ≤ filt) (hf' : filt ≤ 16 * span) :
    0 ≤ (filt + 8) / 16 ∧ (filt + 8) / 16 ≤ span := by
  omega

end Sys2Proof.Machine
end

section
/-! PROOFS. One gauge channel under its descriptor (R40, R41, R47): the law that a channel keeps, what the
events between two gauge updates make of a channel, and what a gauge update makes of it. -/

namespace Sys2Proof.Machine

/-! ## The law of one channel -/

/-- `PointerLaw` for one channel, with the descriptor of its place. -/
def LawfulChannel (o : Option Gauge) (c : Channel) : Prop :=
  ((c.known = true → 0 ≤ c.pos) ∧ (c.state = .homing ∨ c.state = .fault → c.known = false)) ∧
    ∀ g, o = some g → gaugeOk g = true ∧ ChannelLaw g c

theorem Channel.positioned_of_filtering {c : Channel} (h : c.filtering = true) :
    c.state.positioned = true := by
  unfold Channel.filtering at h
  split at h <;> simp_all [ChanState.positioned]

namespace LawfulChannel

variable {o : Option Gauge} {g : Gauge} {c : Channel}

/-- In a state that needs no position the law asks nothing of filter and targets. -/
theorem of_not_positioned (hs : c.state.positioned = false) (hpos : c.known = true → 0 ≤ c.pos)
    (hknown : c.state = .homing ∨ c.state = .fault → c.known = false)
    (hg : ∀ g, o = some g → gaugeOk g = true ∧ (c.known = true → c.pos ≤ g.span)) : LawfulChannel o c := by
  refine ⟨⟨hpos, hknown⟩, fun g h => ?_⟩
  obtain ⟨hok, hspan⟩ := hg g h
  refine ⟨hok, by simp [hs], hspan, fun hf => ?_, fun p hp => ?_⟩
  · rw [Channel.positioned_of_filtering hf] at hs
    exact absurd hs (by decide)
  · rw [hp] at hs
    exact absurd hs (by decide)

/-- A channel whose position is lost keeps the law. -/
theorem of_unknown (hs : c.state.positioned = false) (hk : c.known = false)
    (hg : ∀ g, o = some g → gaugeOk g = true) : LawfulChannel o c :=
  of_not_positioned hs (by simp [hk]) (fun _ => hk) fun g h => ⟨hg g h, by simp [hk]⟩

/-- A state with a position, other than FORCED: the filter and the target stand in the span while they are
in use. -/
theorem of_positioned (hs : c.state.positioned = true) (hforced : c.state ≠ .forced)
    (hpos : c.known = true → 0 ≤ c.pos)
    (hg : ∀ g, o = some g → gaugeOk g = true ∧ c.known = true ∧ c.pos ≤ g.span ∧
      (c.filtering = true → 0 ≤ c.filt ∧ c.filt ≤ 16 * g.span ∧ 0 ≤ c.target ∧ c.target ≤ g.span)) :
    LawfulChannel o c := by
  refine ⟨⟨hpos, ?_⟩, fun g h => ?_⟩
  · rintro (h | h) <;> rw [h] at hs <;> exact absurd hs (by decide)
  · obtain ⟨hok, hk, hspan, hfilter⟩ := hg g h
    exact ⟨hok, fun _ => hk, fun _ => hspan, hfilter, fun p h => absurd h hforced⟩

theorem nonneg (h : LawfulChannel o c) (hk : c.known = true) : 0 ≤ c.pos := h.1.1 hk

theorem descriptor (h : LawfulChannel (some g) c) : gaugeOk g = true := (h.2 g rfl).1

theorem law (h : LawfulChannel (some g) c) : ChannelLaw g c := (h.2 g rfl).2

theorem pos_le (h : LawfulChannel (some g) c) (hk : c.known = true) : c.pos ≤ g.span := by
  obtain ⟨-, hspan, -⟩ := h.law
  exact hspan hk

theorem known (h : LawfulChannel (some g) c) (hs : c.state.positioned = true) : c.known = true := by
  obtain ⟨hknown, -⟩ := h.law
  exact hknown hs

theorem filter_mem (h : LawfulChannel (some g) c) (hf : c.filtering = true) :
    0 ≤ c.filt ∧ c.filt ≤ 16 * g.span ∧ 0 ≤ c.target ∧ c.target ≤ g.span := by
  obtain ⟨-, -, hfilter, -⟩ := h.law
  exact hfilter hf

theorem forced_le (h : LawfulChannel (some g) c) (hs : c.state = .forced) {p : Nat}
    (hp : c.forced = some p) : p ≤ g.span := by
  obtain ⟨-, -, -, hforced⟩ := h.law
  exact hforced p hs hp

end LawfulChannel

/-! ## Between two gauge updates -/

/-- R49: a homing whose steps have all been driven, so that its end is due. -/
def Channel.Driven (c : Channel) : Prop := c.state = .homing ∧ c.homing = 0

/-- From `c` to `c'` nothing moves: a position known in `c'` is the one of `c`, or the 0 of a homing that was
due in `c`; and no homing becomes due. -/
def Channel.Rests (c c' : Channel) : Prop :=
  (c'.known = true → c.known = true ∧ c'.pos = c.pos ∨ c.Driven) ∧ (c'.Driven → c.Driven)

namespace Channel.Rests

theorem refl (c : Channel) : c.Rests c := ⟨fun h => .inl ⟨h, rfl⟩, id⟩

theorem trans {a b c : Channel} (h : a.Rests b) (h' : b.Rests c) : a.Rests c := by
  obtain ⟨hpos, hdriven⟩ := h
  obtain ⟨hpos', hdriven'⟩ := h'
  refine ⟨fun hc => ?_, fun hc => hdriven (hdriven' hc)⟩
  rcases hpos' hc with ⟨hb, heq⟩ | hb
  · rw [heq]
    exact hpos hb
  · exact .inr (hdriven hb)

theorem of_kept {c c' : Channel} (hk : c'.known = c.known) (hp : c'.pos = c.pos)
    (hs : c'.state ≠ .homing) : c.Rests c' :=
  ⟨fun h => .inl ⟨hk ▸ h, hp⟩, fun h => absurd h.1 hs⟩

theorem of_lost {c c' : Channel} (hk : c'.known = false) (hd : ¬ c'.Driven) : c.Rests c' :=
  ⟨fun h => absurd h (by simp [hk]), fun h => absurd h hd⟩

end Channel.Rests

/-- `c'` comes after `c` without a movement, and is lawful if `c` is. -/
structure Channel.Keeps (o : Option Gauge) (c c' : Channel) : Prop where
  rests : c.Rests c'
  lawful : LawfulChannel o c → LawfulChannel o c'

theorem Channel.Keeps.refl (o : Option Gauge) (c : Channel) : c.Keeps o c := ⟨.refl c, id⟩

theorem enterMoving_positioned (supply : Bool) (r : Resume) (c : Channel) :
    (enterMoving supply r c).state.positioned = true ∧ (enterMoving supply r c).state ≠ .forced ∧
      (enterMoving supply r c).state ≠ .homing := by
  cases supply <;> cases r <;> simp [enterMoving, Resume.state, ChanState.positioned]

theorem enterMoving_known (supply : Bool) (r : Resume) (c : Channel) :
    (enterMoving supply r c).known = c.known := by
  cases supply <;> rfl

theorem enterMoving_pos (supply : Bool) (r : Resume) (c : Channel) :
    (enterMoving supply r c).pos = c.pos := by
  cases supply <;> rfl

theorem enterMoving_filt (supply : Bool) (r : Resume) (c : Channel) :
    (enterMoving supply r c).filt = c.filt ∧ (enterMoving supply r c).target = c.target := by
  cases supply <;> exact ⟨rfl, rfl⟩

theorem enterMoving_sweepUp_filtering (supply : Bool) (c : Channel) :
    (enterMoving supply .sweepUp c).filtering = false := by
  cases supply <;> simp [enterMoving, Channel.filtering, Resume.state]

/-- Entering TRACK is lawful where the filter and the target stand at the position. -/
theorem enterMoving_track_lawful {o : Option Gauge} {c : Channel} (supply : Bool)
    (hpos : c.known = true → 0 ≤ c.pos) (hfilt : c.filt = 16 * c.pos) (htarget : c.target = c.pos)
    (hg : ∀ g, o = some g → gaugeOk g = true ∧ c.known = true ∧ c.pos ≤ g.span) :
    LawfulChannel o (enterMoving supply .track c) := by
  obtain ⟨hs, hforced, -⟩ := enterMoving_positioned supply .track c
  obtain ⟨hf, ht⟩ := enterMoving_filt supply .track c
  have hk := enterMoving_known supply .track c
  have hp := enterMoving_pos supply .track c
  refine .of_positioned hs hforced (by rwa [hk, hp]) fun g h => ?_
  obtain ⟨hok, hknown, hspan⟩ := hg g h
  have := hpos hknown
  rw [hk, hp, hf, ht]
  exact ⟨hok, hknown, hspan, fun _ => by omega⟩

theorem enterMoving_sweepUp_lawful {o : Option Gauge} {c : Channel} (supply : Bool)
    (hpos : c.known = true → 0 ≤ c.pos)
    (hg : ∀ g, o = some g → gaugeOk g = true ∧ c.known = true ∧ c.pos ≤ g.span) :
    LawfulChannel o (enterMoving supply .sweepUp c) := by
  obtain ⟨hs, hforced, -⟩ := enterMoving_positioned supply .sweepUp c
  have hk := enterMoving_known supply .sweepUp c
  have hp := enterMoving_pos supply .sweepUp c
  refine .of_positioned hs hforced (by rwa [hk, hp]) fun g h => ?_
  obtain ⟨hok, hknown, hspan⟩ := hg g h
  rw [hk, hp, enterMoving_sweepUp_filtering]
  exact ⟨hok, hknown, hspan, by simp⟩

/-- R58: the release of a forcing. -/
theorem releaseChannel_keeps (o : Option Gauge) (supply : Bool) (c : Channel) :
    c.Keeps o (releaseChannel supply c) := by
  unfold releaseChannel
  split
  · next hs =>
    have hpositioned : c.state.positioned = true := by rw [hs]; rfl
    refine ⟨?_, fun h => ?_⟩
    · exact .of_kept (enterMoving_known supply _ _) (enterMoving_pos supply _ _)
        (enterMoving_positioned supply _ _).2.2
    · refine enterMoving_track_lawful supply h.nonneg rfl rfl fun g hg => ?_
      subst hg
      exact ⟨h.descriptor, h.known hpositioned, h.pos_le (h.known hpositioned)⟩
  · exact .refl o c

/-- A state that R56 freezes, or that a FROZEN channel returns to, has a position. -/
theorem Resume.state_positioned (r : Resume) : r.state.positioned = true := by cases r <;> rfl

/-- A channel freezes, or returns from FROZEN: its filter is in use afterwards only if it was. -/
theorem keeps_of_refrozen {o : Option Gauge} {c c' : Channel} (hs : c.state.positioned = true)
    (hs' : c'.state.positioned = true) (hforced : c'.state ≠ .forced)
    (hsame : (c'.known, c'.pos, c'.filt, c'.target) = (c.known, c.pos, c.filt, c.target))
    (hfiltering : c'.filtering = true → c.filtering = true) : c.Keeps o c' := by
  simp only [Prod.mk.injEq] at hsame
  obtain ⟨hk, hp, hf, ht⟩ := hsame
  refine ⟨.of_kept hk hp fun h => by rw [h] at hs'; exact absurd hs' (by decide), fun h => ?_⟩
  refine .of_positioned hs' hforced (by rw [hk, hp]; exact h.nonneg) fun g hg => ?_
  subst hg
  rw [hk, hp, hf, ht]
  exact ⟨h.descriptor, h.known hs, h.pos_le (h.known hs), fun h' => h.filter_mem (hfiltering h')⟩

/-- R56: the freezing of a moving channel. -/
theorem freezeChannel_keeps (o : Option Gauge) (c : Channel) : c.Keeps o (freezeChannel c) := by
  unfold freezeChannel
  split
  · next r hr =>
    have hstate : c.state = r.state := by
      cases hs : c.state <;> rw [hs] at hr <;> cases hr <;> rfl
    refine keeps_of_refrozen (hstate ▸ r.state_positioned) rfl (by simp) rfl fun h => ?_
    cases r <;> simp_all [Channel.filtering, Resume.state]
  · exact .refl o c

/-- R56: the return of a FROZEN channel. -/
theorem resumeChannel_keeps (o : Option Gauge) (c : Channel) : c.Keeps o (resumeChannel c) := by
  unfold resumeChannel
  split
  · next r hs hr =>
    refine keeps_of_refrozen (by rw [hs]; rfl) r.state_positioned (by cases r <;> simp [Resume.state]) rfl
      fun h => ?_
    cases r <;> simp_all [Channel.filtering, Resume.state]
  · exact .refl o c

/-- R52: what SHUTDOWN entry does to a channel. -/
theorem shutdownChannel_keeps (o : Option Gauge) (c : Channel) : c.Keeps o (shutdownChannel c) := by
  have hreturn (c' : Channel) (hs : c.state.positioned = true) (hs' : c'.state = .ret)
      (hk : c'.known = c.known) (hp : c'.pos = c.pos) : c.Keeps o c' := by
    refine ⟨.of_kept hk hp (by simp [hs']), fun h => ?_⟩
    refine .of_positioned (by rw [hs']; rfl) (by simp [hs']) (by rw [hk, hp]; exact h.nonneg) fun g hg => ?_
    subst hg
    rw [hk, hp]
    exact ⟨h.descriptor, h.known hs, h.pos_le (h.known hs), by simp [Channel.filtering, hs']⟩
  cases hs : c.state <;> simp only [shutdownChannel, hs]
  case homing =>
    refine ⟨.of_kept rfl rfl (by simp), fun h => ?_⟩
    exact .of_unknown rfl (h.1.2 (.inl hs)) fun g hg => (h.2 g hg).1
  case unhomed | atRest | fault | ret => exact .refl o c
  all_goals exact hreturn _ (by rw [hs]; rfl) rfl rfl rfl

/-- R55: a channel enters FAULT. -/
theorem faultChannel_keeps (o : Option Gauge) (c : Channel) : c.Keeps o (faultChannel c) :=
  ⟨.of_lost rfl (by simp [Channel.Driven, faultChannel]), fun h =>
    .of_unknown rfl rfl fun g hg => (h.2 g hg).1⟩

/-- R49: a due homing completes, at position 0. -/
theorem homedChannel_keeps {o : Option Gauge} {c : Channel} (startup supply : Bool) (g : Gauge)
    (hd : c.Driven) : c.Keeps o (homedChannel startup supply g c) := by
  unfold homedChannel
  refine ⟨⟨fun _ => .inr hd, fun _ => hd⟩, fun h => ?_⟩
  have hg (g : Gauge) (hg : o = some g) : gaugeOk g = true ∧ true = true ∧ (0 : Int) ≤ g.span :=
    ⟨(h.2 g hg).1, rfl, by omega⟩
  by_cases hsweep : (startup && g.sweep) = true
  · simp only [hsweep, if_true]
    exact enterMoving_sweepUp_lawful supply (fun _ => le_rfl) hg
  · simp only [hsweep]
    exact enterMoving_track_lawful supply (fun _ => le_rfl) rfl rfl hg

/-- R57: a forcing that is taken. -/
theorem forceChannel_keeps {o : Option Gauge} {c : Channel} {position : Nat}
    (hcan : canForce o position c = true) : c.Keeps o (forceChannel position c) := by
  refine ⟨.of_kept rfl rfl (by simp [forceChannel]), fun h => ⟨⟨h.nonneg, by simp [forceChannel]⟩, ?_⟩⟩
  rintro g rfl
  simp only [canForce, Bool.and_eq_true, decide_eq_true_eq] at hcan
  obtain ⟨⟨hk, hp⟩, -⟩ := hcan
  refine ⟨h.descriptor, fun _ => hk, h.pos_le, by simp [Channel.filtering, forceChannel], ?_⟩
  rintro p - ⟨⟩
  exact hp

/-! ## Placement under new descriptors (R48, R59) -/

/-- What every placement makes of a channel that kept the law under the descriptors before: it rests, and
keeps the law under the new descriptor. -/
structure Channel.Placed (o : Option Gauge) (c c' : Channel) : Prop where
  rests : c.Rests c'
  lawful : (∀ g, o = some g → gaugeOk g = true) → LawfulChannel none c → LawfulChannel o c'

/-- R39: a channel without a descriptor is idle. -/
theorem idleChannel_placed (c : Channel) : c.Placed none (idleChannel c) :=
  ⟨.of_lost rfl (by simp [Channel.Driven, idleChannel]), fun h _ => .of_unknown rfl rfl h⟩

/-- A homing that starts has steps to drive. -/
theorem homeChannel_placed (g : Gauge) {c c' : Channel} : c.Placed (some g) (homeChannel g c') :=
  ⟨.of_lost rfl (by simp [Channel.Driven, homeChannel]), fun h _ => .of_unknown rfl rfl h⟩

theorem energise_same (c : Channel) : (energise c).known = c.known ∧ (energise c).pos = c.pos := by
  unfold energise
  split <;> exact ⟨rfl, rfl⟩

/-- R48: the placement at the start of the gauges-and-lamps phase. -/
theorem placeChannel_placed (s : State) (n : Nat) (c : Channel) :
    c.Placed (gaugeAt s n) (placeChannel s n c) := by
  unfold placeChannel
  obtain ⟨hk, hp⟩ := energise_same c
  split
  · next hg => exact hg ▸ idleChannel_placed c
  · next g hg =>
    rw [hg]
    split
    · next hfault =>
      refine ⟨.refl c, fun h hc => ?_⟩
      exact .of_unknown (by rw [hfault]; rfl) (hc.1.2 (.inr hfault)) h
    · split
      · next hknown =>
        obtain ⟨hknown, hspan⟩ := hknown
        have hin (h : ∀ g', some g = some g' → gaugeOk g' = true) (g' : Gauge) (h' : some g = some g') :
            gaugeOk g' = true ∧ (energise c).known = true ∧ (energise c).pos ≤ g'.span := by
          cases h'
          exact ⟨h g rfl, hk.trans hknown, hp ▸ hspan⟩
        split
        · refine ⟨.of_kept ((enterMoving_known _ _ _).trans hk) ((enterMoving_pos _ _ _).trans hp)
            (enterMoving_positioned _ _ _).2.2, fun h hc => ?_⟩
          exact enterMoving_sweepUp_lawful _ (fun _ => hp ▸ hc.nonneg hknown) (hin h)
        · refine ⟨.of_kept ((enterMoving_known _ _ _).trans hk) ((enterMoving_pos _ _ _).trans hp)
            (enterMoving_positioned _ _ _).2.2, fun h hc => ?_⟩
          exact enterMoving_track_lawful _ (fun _ => hp ▸ hc.nonneg hknown) (by simp [hp]) hp.symm (hin h)
      · exact homeChannel_placed g

/-- R59: the placement at the restart. -/
theorem restartChannel_placed (s : State) (n : Nat) (c : Channel) :
    c.Placed (gaugeAt s n) (restartChannel s n c) := by
  unfold restartChannel
  split
  · next hg => exact hg ▸ idleChannel_placed c
  · next g hg =>
    rw [hg]
    split
    · next hknown =>
      obtain ⟨hknown, hspan⟩ := hknown
      refine ⟨.of_kept rfl rfl (by simp), fun h hc => ?_⟩
      have hpos := hc.nonneg hknown
      refine .of_positioned rfl (by simp) (fun _ => hpos) ?_
      rintro g' ⟨⟩
      exact ⟨h g rfl, hknown, hspan, fun _ => by simp only; omega⟩
    · exact homeChannel_placed g

/-! ## The movement at a gauge update (R42 to R53, R57) -/

/-- What a gauge update makes of a lawful channel: it moves by the rate limit at most, and stays lawful. -/
structure Channel.Moves (g : Gauge) (c c' : Channel) : Prop where
  known : c'.known = c.known
  rate : c.known = true → |c'.pos - c.pos| ≤ g.rate
  lawful : LawfulChannel (some g) c'

theorem Channel.Moves.of_still {g : Gauge} {c c' : Channel} (hk : c'.known = c.known) (hp : c'.pos = c.pos)
    (h : LawfulChannel (some g) c') : c.Moves g c' :=
  ⟨hk, fun _ => by simp [hp], h⟩

section

variable {g : Gauge} {c : Channel} (h : LawfulChannel (some g) c)
include h

/-- R49: the steps toward the stop move no known position. -/
theorem homingMove_moves (hs : c.state = .homing) : c.Moves g (homingMove c) :=
  .of_still rfl rfl (.of_unknown (by rw [homingMove, hs]; rfl) (h.1.2 (.inl hs)) fun _ hg => (h.2 _ hg).1)

/-- A move within the span and within the rate limit, out of a state with a position. -/
theorem moves_of_positioned {c' : Channel} (hs : c.state.positioned = true)
    (hs' : c'.state ≠ .homing ∧ c'.state ≠ .fault) (hk : c'.known = c.known)
    (hrate : |c'.pos - c.pos| ≤ g.rate) (hmem : 0 ≤ c'.pos ∧ c'.pos ≤ g.span)
    (hfilter : c'.filtering = true →
      0 ≤ c'.filt ∧ c'.filt ≤ 16 * g.span ∧ 0 ≤ c'.target ∧ c'.target ≤ g.span)
    (hforced : ∀ p, c'.state = .forced → c'.forced = some p → p ≤ g.span) : c.Moves g c' := by
  refine ⟨hk, fun _ => hrate, ⟨fun _ => hmem.1, ?_⟩, ?_⟩
  · rintro (h | h)
    · exact absurd h hs'.1
    · exact absurd h hs'.2
  · rintro g' ⟨⟩
    exact ⟨h.descriptor, fun _ => hk.trans (h.known hs), fun _ => hmem.2, hfilter, hforced⟩

theorem pos_mem_of_positioned (hs : c.state.positioned = true) : 0 ≤ c.pos ∧ c.pos ≤ g.span :=
  ⟨h.nonneg (h.known hs), h.pos_le (h.known hs)⟩

/-- A move that stays in its state, while the filter is not in use. -/
theorem setPos_moves {pos : Int} (hs : c.state.positioned = true) (hf : c.filtering = false)
    (hrate : |pos - c.pos| ≤ g.rate) (hmem : 0 ≤ pos ∧ pos ≤ g.span) : c.Moves g (setPos pos c) := by
  refine moves_of_positioned h hs ⟨?_, ?_⟩ rfl hrate hmem (fun hfiltering => ?_) fun p hforced hp =>
    h.forced_le hforced hp
  · rintro (hs' : c.state = _)
    simp [hs', ChanState.positioned] at hs
  · rintro (hs' : c.state = _)
    simp [hs', ChanState.positioned] at hs
  · exact absurd hfiltering (by rw [show (setPos pos c).filtering = c.filtering from rfl, hf]; decide)

/-- R50: the sweep up, with its turn at the span. -/
theorem sweepUpMove_moves (hs : c.state = .sweepUp) : c.Moves g (sweepUpMove g c) := by
  have hpositioned : c.state.positioned = true := by rw [hs]; rfl
  have hpos := pos_mem_of_positioned h hpositioned
  have hrate : |c.pos + min (g.rate : Int) (g.span - c.pos) - c.pos| ≤ g.rate := by rw [abs_le]; omega
  have hmem : 0 ≤ c.pos + min (g.rate : Int) (g.span - c.pos) ∧
      c.pos + min (g.rate : Int) (g.span - c.pos) ≤ g.span := by omega
  unfold sweepUpMove
  dsimp only
  split
  · exact moves_of_positioned h hpositioned (by simp) rfl hrate hmem (by simp [Channel.filtering]) (by simp)
  · exact setPos_moves h hpositioned (by simp [Channel.filtering, hs]) hrate hmem

/-- A move down at the rate limit. -/
theorem down_mem (hs : c.state.positioned = true) :
    |c.pos - min (g.rate : Int) c.pos - c.pos| ≤ g.rate ∧
      0 ≤ c.pos - min (g.rate : Int) c.pos ∧ c.pos - min (g.rate : Int) c.pos ≤ g.span := by
  have hpos := pos_mem_of_positioned h hs
  rw [abs_le]
  omega

/-- R50: the sweep down; at 0 the channel tracks, its filter and target at 0. -/
theorem sweepDownMove_moves (hs : c.state = .sweepDown) : c.Moves g (sweepDownMove g c) := by
  have hpositioned : c.state.positioned = true := by rw [hs]; rfl
  obtain ⟨hrate, hmem⟩ := down_mem h hpositioned
  unfold sweepDownMove
  dsimp only
  split
  · next hend =>
    exact moves_of_positioned h hpositioned (by simp) rfl hrate hmem
      (fun _ => by simp only [setPos, hend]; omega) (by simp)
  · exact setPos_moves h hpositioned (by simp [Channel.filtering, hs]) hrate hmem

/-- R53: the return to the stop. -/
theorem returnMove_moves (hs : c.state = .ret) : c.Moves g (returnMove g c) := by
  have hpositioned : c.state.positioned = true := by rw [hs]; rfl
  obtain ⟨hrate, hmem⟩ := down_mem h hpositioned
  unfold returnMove
  dsimp only
  split
  · exact moves_of_positioned h hpositioned (by simp) rfl hrate hmem (by simp [Channel.filtering]) (by simp)
  · exact setPos_moves h hpositioned (by simp [Channel.filtering, hs]) hrate hmem

/-- R57: the move toward the forced target. -/
theorem forcedMove_moves (hs : c.state = .forced) : c.Moves g (forcedMove g c) := by
  have hpositioned : c.state.positioned = true := by rw [hs]; rfl
  have hpos := pos_mem_of_positioned h hpositioned
  unfold forcedMove
  split
  · next goal hgoal =>
    have hgoal_le := h.forced_le hs hgoal
    have hmem := add_limited_mem c.pos goal g.rate
    refine setPos_moves h hpositioned (by simp [Channel.filtering, hs]) ?_ (by omega)
    rw [add_sub_cancel_left]
    exact limited_abs_le g.rate _
  · exact .of_still rfl rfl h

/-- Stages 6 and 7 on a target within the span (R46, R47). -/
theorem followTarget_moves {target : Int} {st : ChanState} (hs : c.filtering = true)
    (hst : st = .track ∨ st = .sourceless) (ht : 0 ≤ target) (ht' : target ≤ g.span) :
    c.Moves g (followTarget g target { c with state := st }) := by
  have hpositioned := Channel.positioned_of_filtering hs
  have hpos := pos_mem_of_positioned h hpositioned
  obtain ⟨hf, hf', -⟩ := h.filter_mem hs
  have hok := h.descriptor
  simp only [gaugeOk, Bool.and_eq_true, decide_eq_true_eq] at hok
  have hgain : g.gain ≤ 16 := by tauto
  have hfilt := filterMove_mem_span hgain hf hf' ht ht'
  have hround := rounded_filter_mem hfilt.1 hfilt.2
  have hmem := add_limited_mem c.pos ((filterMove c.filt target g.gain + 8) / 16) g.rate
  have hrate := limited_abs_le g.rate ((filterMove c.filt target g.gain + 8) / 16 - c.pos)
  refine moves_of_positioned h hpositioned ?_ rfl ?_ ?_ (fun _ => ⟨hfilt.1, hfilt.2, ht, ht'⟩) ?_
  · rcases hst with rfl | rfl <;> simp [followTarget]
  · simpa only [followTarget, commandMove, add_sub_cancel_left] using hrate
  · simp only [followTarget, commandMove]
    omega
  · rcases hst with rfl | rfl <;> simp [followTarget]

end

/-- What R39 says of a descriptor's curve, and of the position it parks at. -/
theorem curve_of_gaugeOk {g : Gauge} (h : gaugeOk g = true) :
    xsRise g.curve = true ∧ (∀ p ∈ g.curve, p.2 ≤ g.span) ∧ ∀ p, g.policy = .park p → p ≤ g.span := by
  simp only [gaugeOk, Bool.and_eq_true, List.all_eq_true, decide_eq_true_eq] at h
  obtain ⟨⟨⟨⟨⟨⟨⟨-, hx⟩, hy⟩, -⟩, -⟩, -⟩, -⟩, hpolicy⟩ := h
  refine ⟨hx, hy, fun p hp => ?_⟩
  simpa [hp] using hpolicy

/-- R43, R44: with a usable value or without, the target lies within the span. -/
theorem trackMove_moves {g : Gauge} {c : Channel} (s : State) (h : LawfulChannel (some g) c)
    (hs : c.filtering = true) : c.Moves g (trackMove s g c) := by
  obtain ⟨hx, hy, hpark⟩ := curve_of_gaugeOk h.descriptor
  obtain ⟨-, -, ht, ht'⟩ := h.filter_mem hs
  unfold trackMove
  split
  · next v _ =>
    obtain ⟨hlow, hhigh⟩ := curveTarget_mem v hx hy
    exact followTarget_moves h hs (.inl rfl) hlow hhigh
  · have hpolicy : 0 ≤ policyTarget g c ∧ policyTarget g c ≤ g.span := by
      unfold policyTarget
      split
      · exact ⟨ht, ht'⟩
      · next p hp =>
        have := hpark p hp
        omega
    exact followTarget_moves h hs (.inr rfl) hpolicy.1 hpolicy.2

/-- R41: the movement of a channel by its state. -/
theorem moveChannel_moves {g : Gauge} {c : Channel} (s : State) (h : LawfulChannel (some g) c) :
    c.Moves g (moveChannel s g c) := by
  cases hs : c.state <;> simp only [moveChannel, hs]
  case homing => exact homingMove_moves h hs
  case sweepUp => exact sweepUpMove_moves h hs
  case sweepDown => exact sweepDownMove_moves h hs
  case track | sourceless => exact trackMove_moves s h (by simp [Channel.filtering, hs])
  case ret => exact returnMove_moves h hs
  case forced => exact forcedMove_moves h hs
  case unhomed | frozen | fault | atRest => exact .of_still rfl rfl h

/-- R54: the check changes the open counts alone. -/
theorem coilCheck_same (sense : CoilSense × CoilSense) (c : Channel) :
    (coilCheck sense c).known = c.known ∧ (coilCheck sense c).pos = c.pos ∧
      ∀ o, LawfulChannel o c → LawfulChannel o (coilCheck sense c) := by
  unfold coilCheck
  split <;> exact ⟨rfl, rfl, fun _ h => h⟩

/-- R42: a channel at a gauge update event. -/
theorem updateChannel_moves {s : State} {n : Nat} {g : Gauge} {c : Channel}
    (sense : List (CoilSense × CoilSense)) (hg : gaugeAt s n = some g) (h : LawfulChannel (some g) c) :
    c.Moves g (updateChannel s sense n c) := by
  obtain ⟨hk, hp, hlawful⟩ := coilCheck_same (sense.getD n (.undriven, .undriven)) c
  unfold updateChannel
  simp only [hg]
  split
  · exact .of_still hk hp (hlawful _ h)
  · obtain ⟨hk', hrate, hlaw⟩ := moveChannel_moves s (hlawful _ h)
    exact ⟨hk'.trans hk, by rwa [hk, hp] at hrate, hlaw⟩

/-- R42: a channel without a descriptor is idle. -/
theorem updateChannel_of_idle {s : State} {n : Nat} (sense : List (CoilSense × CoilSense)) (c : Channel)
    (hg : gaugeAt s n = none) : updateChannel s sense n c = c := by
  simp only [updateChannel, hg]

end Sys2Proof.Machine
end

section
/-! PROOFS. What leaves the gauges alone: the operations that write neither the channels nor the Gauge
Table. -/

namespace Sys2Proof.Machine

/-- The channels and the Gauge Table are as they were. -/
def SameGauges (s t : State) : Prop :=
  t.run.gu.channels = s.run.gu.channels ∧ t.run.tables.gauges = s.run.tables.gauges

namespace SameGauges

theorem refl (s : State) : SameGauges s s := ⟨rfl, rfl⟩

theorem trans {s t u : State} (h : SameGauges s t) (h' : SameGauges t u) : SameGauges s u :=
  ⟨h'.1.trans h.1, h'.2.trans h.2⟩

theorem channelAt {s t : State} (h : SameGauges s t) (n : Nat) : channelAt t n = channelAt s n := by
  rw [Machine.channelAt, h.1, ← Machine.channelAt]

theorem gaugeAt {s t : State} (h : SameGauges s t) (n : Nat) : gaugeAt t n = gaugeAt s n := by
  rw [Machine.gaugeAt, h.2, ← Machine.gaugeAt]

/-- A step that is taken or not. -/
theorem ite {s t : State} {p : Prop} [Decidable p] (h : SameGauges s t) :
    SameGauges s (if p then t else s) := by
  split
  · exact h
  · exact .refl s

theorem foldl {α : Type} {f : State → α → State} (h : ∀ s a, SameGauges s (f s a)) (l : List α)
    (s : State) : SameGauges s (l.foldl f s) := by
  induction l generalizing s with
  | nil => exact .refl s
  | cons a l ih => exact (h s a).trans (ih _)

end SameGauges

/-- The warnings path holds nothing of the gauges. -/
theorem WarningsOnly.sameGauges {s t : State} (h : WarningsOnly s t) : SameGauges s t :=
  ⟨congrArg Gu.channels h.gu, congrArg Tables.gauges h.tables⟩

/-! ## The warnings path -/

theorem noticeIfOn_gauges (k : NoticeType) (s : State) : SameGauges s (noticeIfOn k s) :=
  (noticeIfOn_frame k s).sameGauges

theorem runTasks_gauges (ts : List Task) (s : State) : SameGauges s (runTasks ts s) :=
  (runTasks_frame ts s).sameGauges

theorem chimeRequest_gauges (p : Pattern) (s : State) : SameGauges s (chimeRequest p s) :=
  (chimeRequest_frame p s).sameGauges

theorem acknowledge_gauges (f : Option Nat) (s : State) : SameGauges s (acknowledge f s) :=
  (acknowledge_frame f s).sameGauges

theorem stageChange_gauges (slot : Nat) (b : Stage) (s : State) : SameGauges s (stageChange slot b s) :=
  (stageChange_frame slot b s).sameGauges

theorem putFlag_gauges (f : FlagId) (v : Bool) (s : State) : SameGauges s (putFlag s f v) := by
  cases f <;> exact ⟨rfl, rfl⟩

theorem flagChange_gauges (f : FlagId) (v : Bool) (s : State) : SameGauges s (flagChange f v s) :=
  (putFlag_gauges f v s).trans (flagChange_frame f v s).sameGauges

theorem changeCondition_gauges (j : Nat) (r : CondRec) (s : State) : SameGauges s (changeCondition j r s) :=
  (changeCondition_frame j r s).sameGauges

theorem abandonCondition_gauges (s : State) (j : Nat) : SameGauges s (abandonCondition s j) := by
  unfold abandonCondition
  dsimp only
  split
  · exact ⟨rfl, rfl⟩
  · exact .trans (t := putCondRec s j _) ⟨rfl, rfl⟩ (telltaleChange_frame j _ _ _).sameGauges

theorem abandonConditions_gauges (s : State) : SameGauges s (abandonConditions s) := by
  unfold abandonConditions
  generalize List.range 64 = js
  refine .trans ?_ ⟨rfl, rfl⟩
  exact .trans ⟨rfl, rfl⟩ (.foldl abandonCondition_gauges js _)

theorem firstEvaluation_gauges (s : State) : SameGauges s (firstEvaluation s) :=
  .trans ⟨rfl, rfl⟩ (runTasks_gauges _ _)

/-! ## Frames and answers -/

theorem replyLeft_gauges (o : Origin) (s : State) : SameGauges s (replyLeft o s) := by
  cases o
  case resultReply => exact .ite ⟨rfl, rfl⟩
  all_goals exact ⟨rfl, rfl⟩

theorem overflow_gauges (o : Origin) (s : State) : SameGauges s (overflow o s) :=
  (flagChange_gauges _ _ s).trans (replyLeft_gauges o _)

theorem placeVtq_gauges (e : QEntry) (replaces : Bool) (s : State) : SameGauges s (placeVtq e replaces s) := by
  unfold placeVtq
  split
  · exact replyLeft_gauges _ s
  · split
    · exact ⟨rfl, rfl⟩
    · exact overflow_gauges _ s

theorem placeDrq_gauges (e : QEntry) (replaces : Bool) (s : State) : SameGauges s (placeDrq e replaces s) := by
  unfold placeDrq
  split
  · exact .refl s
  · split
    · exact ⟨rfl, rfl⟩
    · exact overflow_gauges _ s

theorem relayFrame_gauges (link : Link) (n : Nat) (relay : Relay) (body : List Byte) (s : State) :
    SameGauges s (relayFrame link n relay body s) := by
  cases relay
  case none => exact .refl s
  all_goals cases link
  case all.vehicle | latest.vehicle => exact placeDrq_gauges _ _ s
  case all.display | latest.display => exact placeVtq_gauges _ _ s

theorem sendResult_gauges (frames : Command → NoticeFrames) (s : State) :
    SameGauges s (sendResult frames s) := by
  unfold sendResult
  split
  · exact .refl s
  · dsimp only
    split
    · exact .trans ⟨rfl, rfl⟩ (placeVtq_gauges _ _ _)
    · exact ⟨rfl, rfl⟩

theorem answer_gauges (code : Code) (data : List Byte) (s : State) : SameGauges s (answer code data s) :=
  sendResult_gauges _ s

theorem placeBroadcast_gauges (s : State) : SameGauges s (placeBroadcast s) := by
  unfold placeBroadcast
  split
  · exact .refl s
  · exact placeVtq_gauges _ _ s

/-! ## Signals and the Drive-Time Unit -/

theorem writeInternal_gauges (i : Nat) (e : SigEntry) (s : State) : SameGauges s (writeInternal i e s) :=
  .trans ⟨rfl, rfl⟩ (runTasks_gauges _ _)

theorem writeSlotSignal_gauges (slot : Nat) (s : State) : SameGauges s (writeSlotSignal slot s) :=
  .ite (writeInternal_gauges _ _ s)

theorem writeSlotSignals_gauges (s : State) : SameGauges s (writeSlotSignals s) :=
  (writeSlotSignal_gauges 1 s).trans (writeSlotSignal_gauges 2 _)

theorem refreshUnsynced_gauges (s : State) : SameGauges s (refreshUnsynced s) := flagChange_gauges _ _ s

theorem bindingOutputs_gauges (slot : Nat) (before : Stage) (s : State) :
    SameGauges s (bindingOutputs slot before s) := by
  have hstage := (writeSlotSignal_gauges slot s).trans (stageChange_gauges slot before _)
  unfold bindingOutputs
  exact (hstage.trans (.ite (refreshUnsynced_gauges _))).trans (noticeIfOn_gauges _ _)

theorem putBindings_gauges (t : Dtu) (s : State) : SameGauges s (putBindings t s) := by
  have hdtu : SameGauges s { s with dtu := t } := ⟨rfl, rfl⟩
  unfold putBindings
  dsimp only
  have hslot1 : SameGauges s (if t.slot1 = s.dtu.slot1 then { s with dtu := t }
      else bindingOutputs 1 (slotStage s 1) { s with dtu := t }) := by
    split
    · exact hdtu
    · exact hdtu.trans (bindingOutputs_gauges _ _ _)
  split
  · exact hslot1
  · exact hslot1.trans (bindingOutputs_gauges _ _ _)

theorem judgeCard_gauges (slot presence : Nat) (s : State) : SameGauges s (judgeCard slot presence s) := by
  unfold judgeCard
  split
  · exact .refl s
  · exact putBindings_gauges _ s
  · split
    · exact putBindings_gauges _ s
    · exact .refl s

theorem cardEvent_gauges (slot i : Nat) (s : State) : SameGauges s (cardEvent slot i s) := by
  unfold cardEvent
  split
  · exact .refl s
  · exact .ite (judgeCard_gauges _ _ s)

theorem judgeSpeeds_gauges (s : State) : SameGauges s (judgeSpeeds s) := by
  unfold judgeSpeeds
  split
  · exact .ite ⟨rfl, rfl⟩
  · exact .trans ⟨rfl, rfl⟩ (flagChange_gauges _ _ _)

theorem speedEvent_gauges (i : Nat) (s : State) : SameGauges s (speedEvent i s) := by
  unfold speedEvent
  split
  · exact .ite (judgeSpeeds_gauges s)
  · exact .refl s

theorem stageChanges_gauges (before s : State) : SameGauges s (stageChanges before s) :=
  (stageChange_gauges 1 _ s).trans (stageChange_gauges 2 _ _)

theorem minuteEvent_gauges (s : State) : SameGauges s (minuteEvent s) := by
  have hunsynced : SameGauges s (refreshUnsynced { s with dtu := minuteDtu s }) :=
    .trans ⟨rfl, rfl⟩ (refreshUnsynced_gauges _)
  unfold minuteEvent
  dsimp only
  split
  · exact (((hunsynced.trans (writeSlotSignals_gauges _)).trans (stageChanges_gauges s _)).trans
      (noticeIfOn_gauges _ _)).trans (placeBroadcast_gauges _)
  · exact hunsynced

theorem syncLoad_gauges (slot digest cont daily : Nat) (splitDone : Bool) (s : State) :
    SameGauges s (syncLoad slot digest cont daily splitDone s) := by
  unfold syncLoad
  refine .trans ?_ (noticeIfOn_gauges _ _)
  refine .trans ?_ (.ite (refreshUnsynced_gauges _))
  refine .trans ?_ (stageChange_gauges slot _ _)
  exact .trans ⟨rfl, rfl⟩ (writeSlotSignal_gauges slot _)

theorem replaceParams_gauges (p : DriveParams) (w : WorkState) (s : State) :
    SameGauges s (replaceParams p w s) := by
  unfold replaceParams
  refine .trans ?_ (noticeIfOn_gauges _ _)
  refine .trans ?_ (refreshUnsynced_gauges _)
  refine .trans ?_ (stageChanges_gauges s _)
  refine .trans ?_ (writeSlotSignals_gauges _)
  refine .trans (.trans ?_ (flagChange_gauges _ _ _)) ⟨rfl, rfl⟩
  exact .trans (.trans ⟨rfl, rfl⟩ (putBindings_gauges _ _)) ⟨rfl, rfl⟩

/-! ## Lamps, chime and alerts -/

theorem reportLamps_gauges (s : State) : SameGauges s (reportLamps s) := by
  unfold reportLamps
  refine .trans ?_ (noticeIfOn_gauges _ _)
  exact .trans ⟨rfl, rfl⟩ (flagChange_gauges _ _ _)

theorem loadCheck_gauges (current : BitVec 32) (s : State) : SameGauges s (loadCheck current s) := by
  unfold loadCheck
  dsimp only
  split
  · exact ⟨rfl, rfl⟩
  · exact .trans ⟨rfl, rfl⟩ (reportLamps_gauges _)

theorem lampOpenStep_gauges (n : Nat) (s : State) : SameGauges s (lampOpenStep n s) :=
  .ite (.trans ⟨rfl, rfl⟩ (reportLamps_gauges _))

theorem shortLamp_gauges (n : Nat) (s : State) : SameGauges s (shortLamp n s) :=
  .trans ⟨rfl, rfl⟩ (reportLamps_gauges _)

theorem clearShorts_gauges (s : State) : SameGauges s (clearShorts s) :=
  .ite (.trans ⟨rfl, rfl⟩ (reportLamps_gauges _))

theorem chimeResume_gauges (s : State) : SameGauges s (chimeResume s) := .ite ⟨rfl, rfl⟩

theorem escalate_gauges (j : Nat) (a : Alert) (s : State) : SameGauges s (escalate j a s) := by
  unfold escalate
  split
  · exact .trans ⟨rfl, rfl⟩ (chimeRequest_gauges _ _)
  · dsimp only
    split
    · exact ⟨rfl, rfl⟩
    · exact .trans ⟨rfl, rfl⟩ (chimeRequest_gauges _ _)

/-! ## Parts of the mode transitions -/

theorem startupCheck_gauges (s : State) : SameGauges s (startupCheck s) :=
  .ite (.trans ⟨rfl, rfl⟩ (noticeIfOn_gauges _ _))

theorem endLampCheck_gauges (s : State) : SameGauges s (endLampCheck s) :=
  .trans ⟨rfl, rfl⟩ (startupCheck_gauges _)

theorem startLampCheck_gauges (s : State) : SameGauges s (startLampCheck s) := by
  unfold startLampCheck
  refine .trans ?_ ⟨rfl, rfl⟩
  exact .trans ⟨rfl, rfl⟩ (chimeRequest_gauges _ _)

theorem requestRepeat_gauges (s : State) : SameGauges s (requestRepeat s) := .ite (chimeRequest_gauges _ s)

theorem abandonLeaveService_gauges (s : State) : SameGauges s (abandonLeaveService s) := by
  unfold abandonLeaveService
  refine .ite ?_
  dsimp only
  split
  · exact .trans ⟨rfl, rfl⟩ (answer_gauges _ _ _)
  · exact ⟨rfl, rfl⟩

theorem dropRoutes_gauges (s : State) : SameGauges s (dropRoutes s) := ⟨rfl, rfl⟩

theorem stopSampling_gauges (s : State) : SameGauges s (stopSampling s) := ⟨rfl, rfl⟩

theorem reportRemoved_gauges (removed : List QEntry) (s : State) : SameGauges s (reportRemoved removed s) :=
  .foldl (fun s (e : QEntry) => replyLeft_gauges e.origin s) removed s

theorem emptyQueues_gauges (s : State) : SameGauges s (emptyQueues s) :=
  .trans ⟨rfl, rfl⟩ (reportRemoved_gauges _ _)

theorem abandonCommand_gauges (s : State) : SameGauges s (abandonCommand s) := .ite ⟨rfl, rfl⟩

theorem evaluateF6_gauges (s : State) : SameGauges s (evaluateF6 s) := flagChange_gauges _ _ s

theorem measureSupply_gauges (centivolts : Nat) (s : State) : SameGauges s (measureSupply centivolts s) :=
  .trans (writeInternal_gauges _ _ s) ⟨rfl, rfl⟩

/-! ## The Management Unit -/

theorem clearStatus_gauges (s : State) : SameGauges s (clearStatus s) := by
  unfold clearStatus
  refine .trans ?_ (clearShorts_gauges _)
  refine .trans ?_ (flagChange_gauges _ _ _)
  exact .trans ⟨rfl, rfl⟩ (flagChange_gauges _ _ _)

theorem enterService_gauges (s : State) : SameGauges s (enterService s) := by
  unfold enterService
  refine .trans (.trans ?_ ⟨rfl, rfl⟩) (noticeIfOn_gauges _ _)
  exact .trans ⟨rfl, rfl⟩ (flagChange_gauges _ _ _)

theorem runEnterService_gauges (s : State) : SameGauges s (runEnterService s) := by
  unfold runEnterService
  split
  · exact (enterService_gauges s).trans (answer_gauges _ _ _)
  · exact answer_gauges _ _ s

theorem runReadDriver_gauges (c : Command) (s : State) : SameGauges s (runReadDriver c s) := by
  unfold runReadDriver
  split
  · exact answer_gauges _ _ s
  · exact sendResult_gauges _ s

theorem runSetDriveTime_gauges (c : Command) (s : State) : SameGauges s (runSetDriveTime c s) := by
  unfold runSetDriveTime
  dsimp only
  split
  · exact answer_gauges _ _ s
  · split
    · exact (syncLoad_gauges _ _ _ _ _ s).trans (answer_gauges _ _ _)
    · exact answer_gauges _ _ s

theorem forceLamp_gauges (n : Nat) (forced : Option Bool) (s : State) :
    SameGauges s (answer .ok [] (forceLamp n forced s)) :=
  .trans ⟨rfl, rfl⟩ (answer_gauges _ _ _)

theorem runChimePattern_gauges (c : Command) (s : State) : SameGauges s (runChimePattern c s) := by
  unfold runChimePattern
  split
  · exact answer_gauges _ _ s
  · exact answer_gauges _ _ s
  · exact .trans ⟨rfl, rfl⟩ (answer_gauges _ _ _)

theorem takeAllNodes_gauges (c : Command) (s : State) : SameGauges s (takeAllNodes c s) := by
  unfold takeAllNodes
  split
  · exact .ite (clearStatus_gauges s)
  · exact .refl s

theorem admitVehicle_gauges (c : Command) (s : State) : SameGauges s (admitVehicle c s) := by
  unfold admitVehicle
  dsimp only
  split <;> exact ⟨rfl, rfl⟩

theorem placeBusy_gauges (c : Command) (s : State) : SameGauges s (placeBusy c s) := by
  unfold placeBusy
  split <;> exact ⟨rfl, rfl⟩

theorem admitDisplay_gauges (c : Command) (s : State) : SameGauges s (admitDisplay c s) := by
  unfold admitDisplay
  dsimp only
  split
  · exact ⟨rfl, rfl⟩
  · split
    · exact placeBusy_gauges c s
    · exact .trans ⟨rfl, rfl⟩ (answer_gauges _ _ _)

theorem takeCommand_gauges (link : Link) (body : List Byte) (s : State) :
    SameGauges s (takeCommand link body s) := by
  unfold takeCommand
  dsimp only
  split
  · cases link
    · exact admitVehicle_gauges _ s
    · exact admitDisplay_gauges _ s
  · exact .ite (takeAllNodes_gauges _ s)

theorem ifrWasSent_gauges (s : State) : SameGauges s (ifrWasSent s) := by
  unfold ifrWasSent
  refine .ite ?_
  split
  · split
    · exact ⟨rfl, rfl⟩
    · exact answer_gauges _ _ s
  · exact .refl s

theorem ifrFailed_gauges (s : State) : SameGauges s (ifrFailed s) := .ite ⟨rfl, rfl⟩

theorem linkTestReport_gauges (code : Code) (stage : Nat) (s : State) :
    SameGauges s (linkTestReport code stage s) := .ite (answer_gauges _ _ s)

/-! ## The passing of time -/

theorem tick_gauges (s : State) : SameGauges s (tick s) := by
  unfold tick
  split <;> exact ⟨rfl, rfl⟩

/-! ## The receive side, apart from the delivery of a DATA frame -/

theorem setIface_gauges (link : Link) (i : Iface) (s : State) : SameGauges s (setIface link i s) := by
  cases link <;> exact ⟨rfl, rfl⟩

theorem presentHeader_gauges (link : Link) (s : State) : SameGauges s (presentHeader link s) := by
  unfold presentHeader
  dsimp only
  split <;> exact setIface_gauges link _ s

theorem superviseRoutes_gauges (s : State) : SameGauges s (superviseRoutes s) :=
  ((flagChange_gauges _ _ s).trans (flagChange_gauges _ _ _)).trans (flagChange_gauges _ _ _)

theorem refreshRoute_gauges (n : Nat) (r : LiveRoute) (s : State) : SameGauges s (refreshRoute n r s) :=
  .trans (t := updRoute n refreshed s) ⟨rfl, rfl⟩ (.ite (superviseRoutes_gauges _))

theorem driverAction_gauges (payload : List Byte) (s : State) : SameGauges s (driverAction payload s) := by
  unfold driverAction
  split
  · exact .refl s
  · split
    · exact acknowledge_gauges _ s
    · exact acknowledge_gauges _ s
    · exact .refl s

theorem discardFrame_gauges (link : Link) (kind : ErrKind) (s : State) :
    SameGauges s (discardFrame link kind s) :=
  .trans ⟨rfl, rfl⟩ (setIface_gauges link _ _)

theorem receiveBit_gauges (link : Link) (b : Bool) (s : State) : SameGauges s (receiveBit link b s) := by
  unfold receiveBit
  dsimp only
  split
  · exact discardFrame_gauges link _ s
  · exact (setIface_gauges link _ s).trans (.ite (presentHeader_gauges link _))

theorem becomeIdle_gauges (link : Link) (s : State) : SameGauges s (becomeIdle link s) := by
  cases link
  · exact .trans (setIface_gauges .vehicle _ s) (flagChange_gauges _ _ _)
  · exact setIface_gauges .display _ s

theorem lineStuck_gauges (s : State) : SameGauges s (lineStuck s) :=
  .trans ⟨rfl, rfl⟩ (flagChange_gauges _ _ _)

theorem waitEvent_gauges (link : Link) (e : LineEvent) (s : State) : SameGauges s (waitEvent link e s) := by
  unfold waitEvent
  split
  · exact .ite (setIface_gauges link _ s)
  · exact becomeIdle_gauges link s
  all_goals exact .refl s

theorem quietEvent_gauges (link : Link) (e : LineEvent) (s : State) : SameGauges s (quietEvent link e s) := by
  have hkept {p : Prop} [Decidable p] (kind : ErrKind) :
      SameGauges s (if p then s else discardFrame link kind s) := by
    split
    · exact .refl s
    · exact discardFrame_gauges link kind s
  unfold quietEvent
  dsimp only
  split
  · split
    · exact setIface_gauges link _ s
    · exact discardFrame_gauges link _ s
  · exact hkept _
  · exact hkept _
  · exact setIface_gauges link _ s
  all_goals exact .refl s

/-! ## Transmission -/

theorem removeVtqHead_gauges (s : State) : SameGauges s (removeVtqHead s) := by
  unfold removeVtqHead
  split
  · exact .refl s
  · exact .trans ⟨rfl, rfl⟩ (replyLeft_gauges _ _)

theorem beginAttempt_gauges (s : State) : SameGauges s (beginAttempt s) := by
  unfold beginAttempt
  split <;> exact ⟨rfl, rfl⟩

theorem vehicleSent_gauges (s : State) : SameGauges s (vehicleSent s) := by
  unfold vehicleSent
  dsimp only
  split
  · exact ⟨rfl, rfl⟩
  · split
    · exact ⟨rfl, rfl⟩
    · exact .trans ⟨rfl, rfl⟩ (removeVtqHead_gauges _)

theorem loseArbitration_gauges (s : State) : SameGauges s (loseArbitration s) := by
  unfold loseArbitration
  refine .trans (.trans ?_ (.ite (removeVtqHead_gauges _))) (.ite (presentHeader_gauges _ _))
  exact ⟨rfl, rfl⟩

theorem failAttempt_gauges (s : State) : SameGauges s (failAttempt s) := by
  unfold failAttempt
  dsimp only
  split
  · exact ⟨rfl, rfl⟩
  · split
    · exact .trans ⟨rfl, rfl⟩ (removeVtqHead_gauges _)
    · exact ⟨rfl, rfl⟩

theorem loseIfr_gauges (s : State) : SameGauges s (loseIfr s) := by
  unfold loseIfr
  refine .trans ?_ (ifrFailed_gauges _)
  exact .trans ⟨rfl, rfl⟩ (flagChange_gauges _ _ _)

theorem failIfr_gauges (s : State) : SameGauges s (failIfr s) := .trans ⟨rfl, rfl⟩ (ifrFailed_gauges _)

theorem sentIfr_gauges (s : State) : SameGauges s (sentIfr s) := .trans ⟨rfl, rfl⟩ (ifrWasSent_gauges _)

theorem ifrEvent_gauges (f : Ifr) (e : LineEvent) (s : State) : SameGauges s (ifrEvent f e s) := by
  unfold ifrEvent
  dsimp only
  split
  · split
    · split
      · exact (setIface_gauges .vehicle _ s).trans (.ite (sentIfr_gauges _))
      · exact failIfr_gauges s
    · exact .ite (loseIfr_gauges s)
    · split
      · exact .refl s
      · exact failIfr_gauges s
    · exact failIfr_gauges s
    · exact failIfr_gauges s
    all_goals exact .refl s
  · split <;> exact ⟨rfl, rfl⟩

theorem beginDisplay_gauges (s : State) : SameGauges s (beginDisplay s) := by
  unfold beginDisplay
  split <;> exact ⟨rfl, rfl⟩

theorem urgentSent_gauges (s : State) : SameGauges s (urgentSent s) := by
  unfold urgentSent
  split
  · exact .refl s
  · split
    · exact ⟨rfl, rfl⟩
    · exact .trans ⟨rfl, rfl⟩ (replyLeft_gauges _ _)

theorem endTest_gauges (read : LoopRead) (s : State) : SameGauges s (endTest read s) :=
  .trans ⟨rfl, rfl⟩ (linkTestReport_gauges _ _ _)

theorem setHeard_gauges (link : Link) (h : Heard) (s : State) : SameGauges s (setHeard link h s) := by
  cases link <;> exact ⟨rfl, rfl⟩

end Sys2Proof.Machine
end

section
/-! PROOFS. Between two gauge updates: every event but a gauge update leaves each known position where it is,
and every event but an activation keeps the descriptors or loses them. -/

namespace Sys2Proof.Machine

/-! ## The relation -/

/-- From `s` to `t` no channel moves, and a lawful channel stays lawful. -/
structure PointersRest (s t : State) : Prop where
  rests : ∀ n, (channelAt s n).Rests (channelAt t n)
  lawful : ∀ n, LawfulChannel (gaugeAt s n) (channelAt s n) → LawfulChannel (gaugeAt t n) (channelAt t n)

/-- And each descriptor in force is kept, or no longer in force. -/
structure GaugesRest (s t : State) : Prop extends PointersRest s t where
  gauge : ∀ n, gaugeAt t n = gaugeAt s n ∨ gaugeAt t n = none

theorem PointersRest.trans {s t u : State} (h : PointersRest s t) (h' : PointersRest t u) :
    PointersRest s u :=
  ⟨fun n => (h.rests n).trans (h'.rests n), fun n hn => h'.lawful n (h.lawful n hn)⟩

/-- Without a descriptor the law asks less. -/
theorem LawfulChannel.of_lost {o o' : Option Gauge} {c : Channel} (ho : o' = o ∨ o' = none)
    (h : LawfulChannel o c) : LawfulChannel o' c := by
  rcases ho with rfl | rfl
  · exact h
  · exact ⟨h.1, by simp⟩

namespace GaugesRest

theorem of_keeps {s t : State} (hg : ∀ n, gaugeAt t n = gaugeAt s n)
    (hc : ∀ n, (channelAt s n).Keeps (gaugeAt s n) (channelAt t n)) : GaugesRest s t :=
  ⟨⟨fun n => (hc n).rests, fun n h => (hg n).symm ▸ (hc n).lawful h⟩, fun n => .inl (hg n)⟩

theorem refl (s : State) : GaugesRest s s := .of_keeps (fun _ => rfl) fun _ => .refl _ _

theorem trans {s t u : State} (h : GaugesRest s t) (h' : GaugesRest t u) : GaugesRest s u := by
  refine ⟨h.toPointersRest.trans h'.toPointersRest, fun n => ?_⟩
  rcases h'.gauge n with h' | h'
  · rw [h']
    exact h.gauge n
  · exact .inr h'

/-- A step that is taken or not. -/
theorem ite {s t : State} {p : Prop} [Decidable p] (h : p → GaugesRest s t) :
    GaugesRest s (if p then t else s) := by
  split
  · next hp => exact h hp
  · exact .refl s

theorem foldl {α : Type} {f : State → α → State} (h : ∀ s a, GaugesRest s (f s a)) (l : List α)
    (s : State) : GaugesRest s (l.foldl f s) := by
  induction l generalizing s with
  | nil => exact .refl s
  | cons a l ih => exact (h s a).trans (ih _)

end GaugesRest

theorem SameGauges.rest {s t : State} (h : SameGauges s t) : GaugesRest s t :=
  .of_keeps h.gaugeAt fun n => h.channelAt n ▸ .refl _ _

/-- A step that writes nothing of the gauges, before another step or after it. -/
theorem GaugesRest.after_same {s t u : State} (h : GaugesRest t u) (h' : SameGauges s t) :
    GaugesRest s u := h'.rest.trans h

theorem GaugesRest.trans_same {s t u : State} (h : GaugesRest s t) (h' : SameGauges t u) :
    GaugesRest s u := h.trans h'.rest

/-! ## Changes of the channels -/

/-- Places beyond the channels read as the initial channel before and after. -/
theorem channelAt_mapChannels (f : Nat → Channel → Channel) (s : State) (n : Nat) :
    channelAt (mapChannels f s) n =
      if n < s.run.gu.channels.length then f n (channelAt s n) else channelAt s n := by
  simp only [channelAt, mapChannels_channels, List.getD_eq_getElem?_getD, mapFrom_getElem?, Nat.zero_add]
  split
  · next h => simp [h]
  · next h => simp [List.getElem?_eq_none (Nat.le_of_not_lt h)]

theorem channelAt_updChannel (f : Channel → Channel) (s : State) (i n : Nat) :
    channelAt (updChannel i f s) n =
      if n = i ∧ n < s.run.gu.channels.length then f (channelAt s n) else channelAt s n :=
  updAt_getD s.run.gu.channels i n f Channel.initial

theorem mapChannels_rest {f : Nat → Channel → Channel} {s : State}
    (h : ∀ n (c : Channel), c.Keeps (gaugeAt s n) (f n c)) : GaugesRest s (mapChannels f s) := by
  refine .of_keeps (fun _ => rfl) fun n => ?_
  rw [channelAt_mapChannels]
  split
  · exact h n _
  · exact .refl _ _

theorem updChannel_rest {f : Channel → Channel} {s : State} {i : Nat}
    (h : (channelAt s i).Keeps (gaugeAt s i) (f (channelAt s i))) : GaugesRest s (updChannel i f s) := by
  refine .of_keeps (fun _ => rfl) fun n => ?_
  rw [channelAt_updChannel]
  split
  · next hn => exact hn.1 ▸ h
  · exact .refl _ _

/-! ## The loss of the run domain -/

/-- The channels and the Gauge Table of a run-domain reset. -/
def FreshGauges (t : State) : Prop :=
  t.run.gu.channels = Run.initial.gu.channels ∧ t.run.tables.gauges = Run.initial.tables.gauges

theorem FreshGauges.channelAt {t : State} (h : FreshGauges t) (n : Nat) :
    channelAt t n = Channel.initial := by
  rw [Machine.channelAt, h.1]
  exact List.getD_eq_getElem?_getD.trans (List.getElem?_getD_replicate_default_eq _ 6 n)

theorem FreshGauges.gaugeAt {t : State} (h : FreshGauges t) (n : Nat) : gaugeAt t n = none := by
  rw [Machine.gaugeAt, entryAt, h.2]
  exact congrArg Entry.get?
    (List.getD_eq_getElem?_getD.trans (List.getElem?_getD_replicate_default_eq _ 6 n))

/-- In a fresh run domain no position is known. -/
theorem FreshGauges.rest {t : State} (s : State) (h : FreshGauges t) : GaugesRest s t := by
  refine ⟨⟨fun n => ?_, fun n _ => ?_⟩, fun n => .inr (h.gaugeAt n)⟩
  · rw [h.channelAt]
    exact .of_lost rfl (by simp [Channel.Driven, Channel.initial])
  · rw [h.channelAt, h.gaugeAt]
    exact .of_unknown rfl rfl (by simp)

theorem enterStandby_rest (s : State) : GaugesRest s (enterStandby s) :=
  FreshGauges.rest s ⟨rfl, rfl⟩

theorem keepAliveReset_rest (straps : Nat) (s : State) : GaugesRest s (keepAliveReset straps s) :=
  FreshGauges.rest s ⟨rfl, rfl⟩

theorem standbyCheck_rest (s : State) : GaugesRest s (standbyCheck s) := .ite fun _ => enterStandby_rest s

/-- R51, with what the Mode Controller does on the reports. -/
theorem gaugesMoved_rest (s : State) : GaugesRest s (gaugesMoved s) :=
  .trans (SameGauges.rest (.trans ⟨rfl, rfl⟩ (startupCheck_gauges (reportGauges s)))) (standbyCheck_rest _)

/-! ## Forcings and the forced exit (R58, R167) -/

theorem releaseForcings_rest (s : State) : GaugesRest s (releaseForcings s) :=
  .trans_same (mapChannels_rest fun _ c => releaseChannel_keeps _ (supplyFault s) c) ⟨rfl, rfl⟩

theorem forcedExit_rest (s : State) : GaugesRest s (forcedExit s) := by
  unfold forcedExit
  refine .ite fun _ => ?_
  refine .trans_same ?_ (noticeIfOn_gauges _ _)
  refine .trans_same ?_ (abandonLeaveService_gauges _)
  refine .trans_same ?_ (requestRepeat_gauges _)
  refine .trans ?_ (releaseForcings_rest _)
  exact (flagChange_gauges _ _ _).rest.after_same ⟨rfl, rfl⟩

theorem roadSpeedEvent_rest (i : Nat) (s : State) : GaugesRest s (roadSpeedEvent i s) := by
  unfold roadSpeedEvent
  refine .ite fun _ => ?_
  split
  · exact .ite fun _ => forcedExit_rest s
  · exact .refl s

/-- R24: the update event of a frame signal. -/
theorem writeSignal_rest (i : Nat) (e : SigEntry) (s : State) : GaugesRest s (writeSignal i e s) := by
  unfold writeSignal signalUpdate
  refine .trans ?_ (roadSpeedEvent_rest i _)
  refine SameGauges.rest (.trans ?_ (speedEvent_gauges i _))
  refine .trans ?_ (cardEvent_gauges 2 i _)
  refine .trans ?_ (cardEvent_gauges 1 i _)
  exact .trans (t := putSignal s i e) ⟨rfl, rfl⟩ (runTasks_gauges _ _)

theorem inputEdge_rest (n : Nat) (role : Role) (active : Bool) (s : State) :
    GaugesRest s (inputEdge n role active s) := by
  have hconditions : GaugesRest s (conditionsOnInput n s) := (runTasks_gauges _ s).rest
  unfold inputEdge
  dsimp only
  split
  · exact hconditions
  · split
    · exact hconditions.trans (acknowledge_gauges _ _).rest
    · exact hconditions
  · split
    · exact hconditions
    · exact hconditions.trans (forcedExit_rest _)

theorem inputSample_rest (n : Nat) (s : State) (level : Bool) : GaugesRest s (inputSample n s level) := by
  unfold inputSample
  refine .ite fun _ => ?_
  split
  · dsimp only
    split
    · exact (inputEdge_rest _ _ _ _).after_same ⟨rfl, rfl⟩
    · exact SameGauges.rest ⟨rfl, rfl⟩
  all_goals exact .refl s

/-! ## Ignition (R159, R160, R169, R170) -/

theorem coldStart_rest (s : State) : GaugesRest s (coldStart s) := by
  unfold coldStart
  refine .trans_same ?_ (noticeIfOn_gauges _ _)
  refine .trans_same ?_ (writeSlotSignals_gauges _)
  exact FreshGauges.rest s ⟨rfl, rfl⟩

theorem warmStart_rest (s : State) : GaugesRest s (warmStart s) := by
  unfold warmStart
  refine SameGauges.rest (.trans ?_ (noticeIfOn_gauges _ _))
  refine .trans ?_ (driveLamps_frame _).sameGauges
  refine .trans ?_ (stopSampling_gauges _)
  refine .trans ?_ (abandonConditions_gauges _)
  exact .trans (t := beginStartup s) ⟨rfl, rfl⟩ (dropRoutes_gauges _)

theorem ignitionOn_rest (s : State) : GaugesRest s (ignitionOn s) := by
  unfold ignitionOn
  split
  · exact coldStart_rest s
  · exact warmStart_rest s
  all_goals exact .refl s

theorem returnGauges_rest (s : State) : GaugesRest s (returnGauges s) :=
  .trans_same (mapChannels_rest fun _ c => shutdownChannel_keeps _ c) ⟨rfl, rfl⟩

theorem enterShutdown_rest (s : State) : GaugesRest s (enterShutdown s) := by
  unfold enterShutdown
  dsimp only
  refine .trans_same ?_ ⟨rfl, rfl⟩
  refine .trans_same ?_ (flagChange_gauges _ _ _)
  refine .trans_same ?_ (abandonCommand_gauges _)
  refine .trans_same (t := returnGauges _) ?_ ⟨rfl, rfl⟩
  refine .trans ?_ (returnGauges_rest _)
  exact (emptyQueues_gauges _).rest.after_same ⟨rfl, rfl⟩

theorem ignitionOff_rest (s : State) : GaugesRest s (ignitionOff s) := by
  unfold ignitionOff
  split
  · exact enterShutdown_rest s
  · exact enterShutdown_rest s
  · exact enterShutdown_rest s
  all_goals exact .refl s

theorem ignitionEvent_rest (e : IgnitionEvent) (s : State) : GaugesRest s (ignitionEvent e s) := by
  unfold ignitionEvent
  split
  · exact ignitionOn_rest s
  · exact ignitionOn_rest s
  · exact .refl s
  · exact ignitionOff_rest s

theorem ignitionSample_rest (s : State) (sample : Bool) : GaugesRest s (ignitionSample s sample) := by
  unfold ignitionSample
  dsimp only
  split
  · exact (ignitionEvent_rest _ _).after_same ⟨rfl, rfl⟩
  · exact SameGauges.rest ⟨rfl, rfl⟩

/-! ## The supply flags (R56) -/

theorem freezeGauges_rest (s : State) : GaugesRest s (freezeGauges s) :=
  mapChannels_rest fun _ c => freezeChannel_keeps _ c

theorem resumeGauges_rest (s : State) : GaugesRest s (resumeGauges s) := by
  unfold resumeGauges
  split
  · exact .refl s
  · exact mapChannels_rest fun _ c => resumeChannel_keeps _ c

theorem setUnder_rest (s : State) : GaugesRest s (setUnder s) := by
  unfold setUnder
  refine .trans_same (.trans ?_ (freezeGauges_rest _)) ⟨rfl, rfl⟩
  exact (flagChange_gauges _ _ _).rest.after_same ⟨rfl, rfl⟩

theorem clearUnder_rest (s : State) : GaugesRest s (clearUnder s) := by
  unfold clearUnder
  refine .trans (.trans ?_ (resumeGauges_rest _)) (chimeResume_gauges _).rest
  exact (flagChange_gauges _ _ _).rest.after_same ⟨rfl, rfl⟩

theorem setOver_rest (s : State) : GaugesRest s (setOver s) := by
  unfold setOver
  refine .trans_same (.trans ?_ (freezeGauges_rest _)) ⟨rfl, rfl⟩
  exact (flagChange_gauges _ _ _).rest.after_same ⟨rfl, rfl⟩

theorem clearOver_rest (s : State) : GaugesRest s (clearOver s) := by
  unfold clearOver
  refine .trans_same (.trans ?_ (resumeGauges_rest _)) ⟨rfl, rfl⟩
  exact (flagChange_gauges _ _ _).rest.after_same ⟨rfl, rfl⟩

theorem underSetStep_rest (s : State) : GaugesRest s (underSetStep s) := .ite fun _ => setUnder_rest s

theorem overSetStep_rest (s : State) : GaugesRest s (overSetStep s) := .ite fun _ => setOver_rest s

theorem underClearStep_rest (s : State) : GaugesRest s (underClearStep s) :=
  (overSetStep_rest s).trans (.ite fun _ => clearUnder_rest _)

theorem overClearStep_rest (s : State) : GaugesRest s (overClearStep s) :=
  (underSetStep_rest s).trans (.ite fun _ => clearOver_rest _)

/-! ## Due steps of the gauges (R49, R54, R55) -/

theorem homingStep_rest (n : Nat) (s : State) : GaugesRest s (homingStep n s) := by
  unfold homingStep
  split
  · next g _ =>
    refine .ite fun hdue => ?_
    have hdriven : (channelAt s n).Driven := by simpa [homingDue, Channel.Driven] using hdue
    exact (updChannel_rest (homedChannel_keeps _ _ g hdriven)).trans (gaugesMoved_rest _)
  · exact .refl s

theorem enterFault_rest (n : Nat) (s : State) : GaugesRest s (enterFault n s) := by
  unfold enterFault
  dsimp only
  refine .trans_same ?_ (noticeIfOn_gauges _ _)
  refine .trans_same (t := evaluateF6 (updChannel n faultChannel s)) ?_ ⟨rfl, rfl⟩
  exact .trans_same (updChannel_rest (faultChannel_keeps _ _)) (evaluateF6_gauges _)

theorem coilStep_rest (n : Nat) (s : State) : GaugesRest s (coilStep n s) :=
  .ite fun _ => (enterFault_rest n s).trans (gaugesMoved_rest _)

/-! ## Commands that are carried out (R177) -/

theorem runGaugePosition_rest (c : Command) (s : State) : GaugesRest s (runGaugePosition c s) := by
  unfold runGaugePosition
  dsimp only
  split
  · next hcan =>
    refine .trans_same ?_ (answer_gauges _ _ _)
    exact .trans_same (updChannel_rest (forceChannel_keeps hcan)) ⟨rfl, rfl⟩
  · exact (answer_gauges _ _ s).rest

theorem runGaugeRelease_rest (c : Command) (s : State) : GaugesRest s (runGaugeRelease c s) :=
  (updChannel_rest (releaseChannel_keeps _ _ _)).trans (answer_gauges _ _ _).rest

theorem whenDue_rest {run : Command → State → State} {s : State} (due : Option Command)
    (h : ∀ c, GaugesRest s (run c s)) : GaugesRest s (whenDue due run s) := by
  unfold whenDue
  split
  · exact h _
  · exact .refl s

theorem readStatusStep_rest (s : State) : GaugesRest s (readStatusStep s) :=
  whenDue_rest _ fun _ => (answer_gauges _ _ s).rest

theorem clearStatusStep_rest (s : State) : GaugesRest s (clearStatusStep s) :=
  whenDue_rest _ fun _ => ((clearStatus_gauges s).trans (answer_gauges _ _ _)).rest

theorem enterServiceStep_rest (s : State) : GaugesRest s (enterServiceStep s) :=
  whenDue_rest _ fun _ => (runEnterService_gauges s).rest

theorem leaveServiceStep_rest (s : State) : GaugesRest s (leaveServiceStep s) :=
  whenDue_rest _ fun _ => SameGauges.rest ⟨rfl, rfl⟩

theorem readEntryStep_rest (s : State) : GaugesRest s (readEntryStep s) :=
  whenDue_rest _ fun _ => (answer_gauges _ _ s).rest

theorem writeEntryStep_rest (s : State) : GaugesRest s (writeEntryStep s) :=
  whenDue_rest _ fun _ => (answer_gauges _ _ _).rest.after_same ⟨rfl, rfl⟩

theorem readSignalStep_rest (s : State) : GaugesRest s (readSignalStep s) :=
  whenDue_rest _ fun _ => (answer_gauges _ _ s).rest

theorem readLogStep_rest (s : State) : GaugesRest s (readLogStep s) :=
  whenDue_rest _ fun _ => (sendResult_gauges _ s).rest

theorem readDriverStep_rest (s : State) : GaugesRest s (readDriverStep s) :=
  whenDue_rest _ fun c => (runReadDriver_gauges c s).rest

theorem setDriveTimeStep_rest (s : State) : GaugesRest s (setDriveTimeStep s) :=
  whenDue_rest _ fun c => (runSetDriveTime_gauges c s).rest

theorem lampOnStep_rest (s : State) : GaugesRest s (lampOnStep s) :=
  whenDue_rest _ fun _ => (forceLamp_gauges _ _ s).rest

theorem lampOffStep_rest (s : State) : GaugesRest s (lampOffStep s) :=
  whenDue_rest _ fun _ => (forceLamp_gauges _ _ s).rest

theorem lampReleaseStep_rest (s : State) : GaugesRest s (lampReleaseStep s) :=
  whenDue_rest _ fun _ => (forceLamp_gauges _ _ s).rest

theorem gaugePositionStep_rest (s : State) : GaugesRest s (gaugePositionStep s) :=
  whenDue_rest _ fun c => runGaugePosition_rest c s

theorem gaugeReleaseStep_rest (s : State) : GaugesRest s (gaugeReleaseStep s) :=
  whenDue_rest _ fun c => runGaugeRelease_rest c s

theorem chimePatternStep_rest (s : State) : GaugesRest s (chimePatternStep s) :=
  whenDue_rest _ fun c => (runChimePattern_gauges c s).rest

theorem linkTestStep_rest (s : State) : GaugesRest s (linkTestStep s) :=
  whenDue_rest _ fun _ => SameGauges.rest ⟨rfl, rfl⟩

theorem carryOut_rest (s : State) : GaugesRest s (carryOut s) := by
  unfold carryOut
  split
  · exact .refl s
  · exact readStatusStep_rest s
  · exact clearStatusStep_rest s
  · exact enterServiceStep_rest s
  · exact leaveServiceStep_rest s
  · exact readEntryStep_rest s
  · exact writeEntryStep_rest s
  · exact readSignalStep_rest s
  · exact readLogStep_rest s
  · exact readDriverStep_rest s
  · exact setDriveTimeStep_rest s
  · split
    · exact .refl s
    · exact lampOnStep_rest s
    · exact lampOffStep_rest s
    · exact lampReleaseStep_rest s
    · exact gaugePositionStep_rest s
    · exact gaugeReleaseStep_rest s
    · exact chimePatternStep_rest s
  · exact linkTestStep_rest s

/-! ## Settling -/

theorem settleSupply_rest (s : State) : GaugesRest s (settleSupply s) :=
  (((overSetStep_rest s).trans (underSetStep_rest _)).trans (underClearStep_rest _)).trans
    (overClearStep_rest _)

theorem settleGauges_rest (s : State) : GaugesRest s (settleGauges s) := by
  unfold settleGauges
  generalize List.range 6 = channels
  exact .trans (.foldl (fun t n => homingStep_rest n t) channels s)
    (.foldl (fun t n => coilStep_rest n t) channels _)

theorem settleLamps_rest (s : State) : GaugesRest s (settleLamps s) := by
  unfold settleLamps
  generalize List.range 32 = lamps
  exact .foldl (fun t n => (lampOpenStep_gauges n t).rest) lamps s

/-- The due steps move no channel. -/
theorem settle_rest (s : State) : GaugesRest s (settle s) :=
  .ite fun _ => (((settleSupply_rest s).trans (settleGauges_rest _)).trans (settleLamps_rest _)).trans
    (carryOut_rest _)

theorem idle_rest (s : State) : GaugesRest s (idle s) := by
  unfold idle
  split
  · exact settle_rest s
  · exact (tick_gauges s).rest

theorem after_rest {f : State → State} (h : ∀ t, GaugesRest t (f t)) (s : State) :
    GaugesRest s (after f s) := (settle_rest s).trans (h _)

/-! ## The two lines -/

theorem extractOne_rest (payload : List Byte) (s : State) (i : Nat) :
    GaugesRest s (extractOne payload s i) := by
  unfold extractOne
  split
  · exact writeSignal_rest _ _ s
  · exact .refl s

theorem dispatch_rest (link : Link) (n : Nat) (r : LiveRoute) (body : List Byte) (s : State) :
    GaugesRest s (dispatch link n r body s) := by
  unfold dispatch
  dsimp only
  have hextracted := (refreshRoute_gauges n r s).rest.trans
    (.foldl (extractOne_rest (payloadOf body)) (routeSignals r.cfg) _)
  have hrelayed := hextracted.trans (relayFrame_gauges link n r.cfg.relay body _).rest
  split
  · exact hrelayed.trans (driverAction_gauges _ _).rest
  · exact hrelayed

theorem deliver_rest (link : Link) (b : Binding) (body : List Byte) (s : State) :
    GaugesRest s (deliver link b body s) := by
  unfold deliver
  split
  · exact (takeCommand_gauges link body s).rest
  · split
    · exact .ite fun _ => dispatch_rest _ _ _ _ s
    · exact .refl s

theorem endOfData_rest (link : Link) (s : State) : GaugesRest s (endOfData link s) := by
  unfold endOfData
  dsimp only
  split
  · exact (discardFrame_gauges link _ s).rest
  · exact (setIface_gauges link _ s).rest.trans (deliver_rest link _ _ _)
  · exact (setIface_gauges link _ s).rest

theorem receiveEvent_rest (link : Link) (e : LineEvent) (s : State) :
    GaugesRest s (receiveEvent link e s) := by
  unfold receiveEvent
  split
  · split
    · exact (receiveBit_gauges link _ s).rest
    · exact (discardFrame_gauges link _ s).rest
  · split
    · exact .refl s
    · exact (discardFrame_gauges link _ s).rest
  · exact endOfData_rest link s
  all_goals exact .refl s

theorem sendEvent_rest (bytes : List Byte) (e : LineEvent) (s : State) :
    GaugesRest s (sendEvent bytes e s) := by
  have hfailed := (failAttempt_gauges s).rest
  have hlost := (loseArbitration_gauges s).rest
  have hread {p : Prop} [Decidable p] : GaugesRest s (if p then s else failAttempt s) := by
    split
    · exact .refl s
    · exact hfailed
  unfold sendEvent
  dsimp only
  split
  · split
    · exact SameGauges.rest ⟨rfl, rfl⟩
    · exact hfailed
    · exact hread
    · exact hfailed
    all_goals exact .refl s
  · split
    · split
      · exact SameGauges.rest ⟨rfl, rfl⟩
      · exact hfailed
    · exact .ite fun _ => hlost
    · split
      · exact hlost.trans (.ite fun _ => receiveEvent_rest .vehicle _ _)
      · exact hread
    · split
      · exact (vehicleSent_gauges s).rest
      · exact hfailed
    all_goals exact .refl s

theorem vehicleEvent_rest (e : LineEvent) (s : State) : GaugesRest s (vehicleEvent e s) := by
  unfold vehicleEvent
  split
  · exact (lineStuck_gauges s).rest
  · split
    · exact sendEvent_rest _ e s
    · exact receiveEvent_rest .vehicle e s
    · exact (ifrEvent_gauges _ e s).rest
    · exact (quietEvent_gauges .vehicle e s).rest
    all_goals exact (waitEvent_gauges .vehicle e s).rest

theorem displayEvent_rest (e : LineEvent) (s : State) : GaugesRest s (displayEvent e s) := by
  unfold displayEvent
  split
  · exact receiveEvent_rest .display e s
  · exact (quietEvent_gauges .display e s).rest
  all_goals exact (waitEvent_gauges .display e s).rest

/-- R141, R146: the samples that an interface hears. -/
theorem listenFor_rest (kind : LineEvent → Bool) (link : Link) (h : Heard) (s : State) :
    GaugesRest s (listenFor kind link h s) := by
  have hevent (t : State) (e : LineEvent) : GaugesRest t (lineEvent link e (settle t)) := by
    refine (settle_rest t).trans ?_
    cases link
    · exact vehicleEvent_rest e _
    · exact displayEvent_rest e _
  exact .ite fun _ => (setHeard_gauges link h s).rest.trans (.foldl hevent h.events _)

theorem displaySent_rest (q : DliQueue) (s : State) : GaugesRest s (displaySent q s) := by
  unfold displaySent
  dsimp only
  split
  · refine .trans ?_ (standbyCheck_rest _)
    exact (urgentSent_gauges _).rest.after_same ⟨rfl, rfl⟩
  · exact SameGauges.rest ⟨rfl, rfl⟩

theorem expireRoute_rest (n : Nat) (r : LiveRoute) (s : State) : GaugesRest s (expireRoute n r s) := by
  have hstale (t : State) (i : Nat) : GaugesRest t (markStale t i) := by
    unfold markStale
    split
    · exact writeSignal_rest _ _ t
    · exact .refl t
  unfold expireRoute
  refine .trans_same ?_ (superviseRoutes_gauges _)
  exact (GaugesRest.foldl hstale (routeSignals r.cfg) _).after_same ⟨rfl, rfl⟩

end Sys2Proof.Machine
end

section
/-! PROOFS. Activations and gauge updates (R42, R48, R59, R163): under new descriptors each channel is placed
lawfully where it stands, and at a gauge update each moves by its rate limit at most. -/

namespace Sys2Proof.Machine

/-! ## The descriptors that a validation puts in force -/

theorem guardOpt_eq_some {α : Type} {ok : Bool} {a b : α} (h : guardOpt ok a = some b) :
    ok = true ∧ a = b := by
  cases ok
  · cases h
  · exact ⟨rfl, Option.some_inj.1 h⟩

theorem parseGauge_ok {b : List Byte} {g : Gauge} (h : parseGauge b = some g) : gaugeOk g = true := by
  obtain ⟨hok, rfl⟩ := guardOpt_eq_some h
  exact hok

theorem judgeEntry_enabled {α : Type} {m : List Host.Cell} {t : TableId} {i : Nat}
    {parse : List Byte → Option α} {a : α} (h : judgeEntry m t i parse = .enabled a) :
    parse (storeImage m t i) = some a := by
  unfold judgeEntry at h
  split at h
  · cases h
  · cases h
  · split at h
    · next hparse =>
      cases h
      exact hparse
    · cases h

theorem entryAt_eq_some_iff {α : Type} {t : List (Entry α)} {n : Nat} {a : α} :
    entryAt t n = some a ↔ t[n]? = some (.enabled a) := by
  rw [entryAt, List.getD_eq_getElem?_getD]
  cases hn : t[n]? with
  | none => simp [Entry.get?]
  | some e => cases e <;> simp [Entry.get?]

/-- R39, R162: every enabled descriptor has passed its checks. -/
theorem validate_gaugeOk {m : List Host.Cell} {n : Nat} {g : Gauge}
    (h : entryAt (validate m).gauges n = some g) : gaugeOk g = true := by
  rw [entryAt_eq_some_iff] at h
  obtain ⟨i, -, hi⟩ := List.mem_map.1 (List.mem_of_getElem? h)
  exact parseGauge_ok (judgeEntry_enabled hi)

/-- R163: an activation puts the new Gauge Table in force and leaves the channels. -/
theorem activate_gauges (new : NewTables) (levels : BitVec 16) (s : State) :
    (activate new levels s).run.gu.channels = s.run.gu.channels ∧
      (activate new levels s).run.tables.gauges = new.gauges := by
  unfold activate
  dsimp only
  generalize hs1 : flagChange .configFault _ _ = s1
  have hflag : s1.run.gu.channels = s.run.gu.channels := hs1 ▸ (flagChange_gauges _ _ _).1
  have hafter {s4 : State} (w : WorkState) :
      SameGauges s4 (firstEvaluation (filterAlerts (replaceParams new.params w s4))) :=
    ((replaceParams_gauges _ _ _).trans (filterAlerts_frame _).sameGauges).trans (firstEvaluation_gauges _)
  exact ⟨(hafter _).1.trans hflag, (hafter _).2⟩

/-! ## Placement (R48, R59) -/

theorem channelAt_of_length_le {s : State} {n : Nat} (h : s.run.gu.channels.length ≤ n) :
    channelAt s n = Channel.initial :=
  List.getD_eq_default _ _ h

theorem LawfulChannel.initial {o : Option Gauge} (h : ∀ g, o = some g → gaugeOk g = true) :
    LawfulChannel o Channel.initial := .of_unknown rfl rfl h

/-- The placement of every channel of `s` under the checked descriptors of `s'`. -/
theorem mapChannels_placed {f : Nat → Channel → Channel} {s s' : State}
    (hchannels : s'.run.gu.channels = s.run.gu.channels)
    (hok : ∀ n g, gaugeAt s' n = some g → gaugeOk g = true)
    (hf : ∀ n (c : Channel), c.Placed (gaugeAt s' n) (f n c)) : PointersRest s (mapChannels f s') := by
  have hsame (n : Nat) : channelAt s' n = channelAt s n := by rw [channelAt, hchannels, ← channelAt]
  refine ⟨fun n => ?_, fun n h => ?_⟩ <;> rw [channelAt_mapChannels, hsame]
  · split
    · exact (hf n _).rests
    · exact .refl _
  · split
    · exact (hf n _).lawful (hok n) (h.of_lost (.inr rfl))
    · next hlen =>
      rw [← hsame, channelAt_of_length_le (Nat.le_of_not_lt hlen)]
      exact .initial (hok n)

theorem PointersRest.trans_same {s t u : State} (h : PointersRest s t) (h' : SameGauges t u) :
    PointersRest s u := h.trans h'.rest.toPointersRest

/-- R162 to R164: the end of a STARTUP validation. -/
theorem completeStartup_rest (levels : BitVec 16) (s : State) :
    PointersRest s (completeStartup levels s) := by
  unfold completeStartup
  obtain ⟨hchannels, hgauges⟩ :=
    activate_gauges (validate s.store) levels { s with run.mc.validation := none }
  generalize activate _ _ _ = a at hchannels hgauges
  unfold beginGaugesAndLamps
  dsimp only
  refine .trans_same ?_ (startupCheck_gauges _)
  refine .trans_same (t := startLampCheck _) ?_ ⟨rfl, rfl⟩
  refine .trans_same ?_ (startLampCheck_gauges _)
  refine .trans_same (t := evaluateF6 _) ?_ ⟨rfl, rfl⟩
  refine .trans_same ?_ (evaluateF6_gauges _)
  refine mapChannels_placed hchannels (fun n g hg => ?_) fun n c => placeChannel_placed _ n c
  exact validate_gaugeOk (m := s.store) (n := n) (hgauges ▸ hg)

/-- R168: the restart. -/
theorem restart_rest (levels : BitVec 16) (s : State) : PointersRest s (restart levels s) := by
  unfold restart
  refine (releaseForcings_rest s).toPointersRest.trans ?_
  generalize releaseForcings s = s1
  dsimp only
  obtain ⟨hchannels, hgauges⟩ :=
    activate_gauges (validate s1.store) levels { s1 with run := restartRun s1.run }
  generalize activate _ _ _ = s3 at hchannels hgauges
  refine .trans_same ?_ (answer_gauges _ _ _)
  refine .trans_same ?_ (noticeIfOn_gauges _ _)
  refine .trans_same (t := writeSlotSignals _) ?_ ⟨rfl, rfl⟩
  refine .trans_same ?_ (writeSlotSignals_gauges _)
  refine .trans_same (t := mapChannels _ _) ?_ ⟨rfl, rfl⟩
  refine mapChannels_placed hchannels (fun n g hg => ?_) fun n c => restartChannel_placed _ n c
  exact validate_gaugeOk (m := s1.store) (n := n) (hgauges ▸ hg)

/-! ## A gauge update (R42) -/

theorem updateChannels_moves {s : State} {n : Nat} {g : Gauge} (sense : List (CoilSense × CoilSense))
    (hg : gaugeAt s n = some g) (h : LawfulChannel (some g) (channelAt s n)) :
    (channelAt s n).Moves g (channelAt (mapChannels (updateChannel s sense) s) n) := by
  rw [channelAt_mapChannels]
  split
  · exact updateChannel_moves sense hg h
  · exact .of_still rfl rfl h

theorem updateChannels_of_idle {s : State} {n : Nat} (sense : List (CoilSense × CoilSense))
    (hg : gaugeAt s n = none) :
    channelAt (mapChannels (updateChannel s sense) s) n = channelAt s n := by
  rw [channelAt_mapChannels, updateChannel_of_idle sense _ hg, ite_self]

/-- The reports leave the gauges alone, or end in STANDBY. -/
theorem gaugesMoved_same_or_fresh (s : State) :
    SameGauges s (gaugesMoved s) ∨ FreshGauges (gaugesMoved s) := by
  unfold gaugesMoved standbyCheck
  split
  · exact .inr ⟨rfl, rfl⟩
  · exact .inl (.trans (t := reportGauges s) ⟨rfl, rfl⟩ (startupCheck_gauges _))

/-- The rate limit of a channel; one without a descriptor does not move. -/
def rateLimit (o : Option Gauge) : Nat := o.elim 0 Gauge.rate

/-- From `s` to `t` each known channel moves by its rate limit at most, none becomes known, and a lawful
channel stays lawful. -/
structure PointersMove (s t : State) : Prop where
  rate : ∀ n, LawfulChannel (gaugeAt s n) (channelAt s n) → (channelAt t n).known = true →
    (channelAt s n).known = true ∧ |(channelAt t n).pos - (channelAt s n).pos| ≤ rateLimit (gaugeAt s n)
  lawful : ∀ n, LawfulChannel (gaugeAt s n) (channelAt s n) → LawfulChannel (gaugeAt t n) (channelAt t n)

theorem PointersMove.refl (s : State) : PointersMove s s := ⟨fun n _ hk => ⟨hk, by simp⟩, fun _ => id⟩

/-- The movement of the channels alone, before the reports. -/
theorem updateChannels_move (sense : List (CoilSense × CoilSense)) (s : State) :
    PointersMove s (mapChannels (updateChannel s sense) s) := by
  refine ⟨fun n h hk => ?_, fun n h => ?_⟩
  · cases hg : gaugeAt s n with
    | none =>
      rw [updateChannels_of_idle sense hg] at hk ⊢
      exact ⟨hk, by simp [rateLimit]⟩
    | some g =>
      obtain ⟨hknown, hrate, -⟩ := updateChannels_moves sense hg (hg ▸ h)
      rw [hknown] at hk
      exact ⟨hk, hrate hk⟩
  · change LawfulChannel (gaugeAt s n) _
    cases hg : gaugeAt s n with
    | none => rwa [updateChannels_of_idle sense hg, ← hg]
    | some g => exact (updateChannels_moves sense hg (hg ▸ h)).lawful

theorem PointersMove.gaugesMoved {s t : State} (h : PointersMove s t) : PointersMove s (gaugesMoved t) := by
  refine ⟨fun n hn hk => ?_, fun n hn => (gaugesMoved_rest t).lawful n (h.lawful n hn)⟩
  rcases gaugesMoved_same_or_fresh t with hsame | hfresh
  · rw [hsame.channelAt] at hk ⊢
    exact h.rate n hn hk
  · rw [hfresh.channelAt] at hk
    exact absurd hk (by decide)

/-- R42: the whole gauge update event. -/
theorem updateGauges_move (sense : List (CoilSense × CoilSense)) (s : State) :
    PointersMove s (updateGauges sense s) := by
  obtain ⟨hrate, hlawful⟩ :=
    (updateChannels_move sense { s with run.gu.timer := Config.gaugePeriod }).gaugesMoved
  exact ⟨hrate, hlawful⟩

/-- A channel that rests keeps a position known before and after: no homing of it was due. -/
theorem Channel.Rests.pos_eq {o : Option Gauge} {c c' : Channel} (h : c.Rests c') (hc : LawfulChannel o c)
    (hk : c.known = true) (hk' : c'.known = true) : c'.pos = c.pos := by
  rcases h.1 hk' with ⟨-, heq⟩ | ⟨hs, -⟩
  · exact heq
  · exact absurd hk (by simp [hc.1.2 (.inl hs)])

/-- A gauge update after the due steps, at which the gauges rest: the rate limit is the one from before. -/
theorem GaugesRest.rate_of_move {s t u : State} (h : GaugesRest s t) (h' : PointersMove t u) {n : Nat}
    (hlaw : LawfulChannel (gaugeAt s n) (channelAt s n)) (hk : (channelAt s n).known = true)
    (hk' : (channelAt u n).known = true) :
    |(channelAt u n).pos - (channelAt s n).pos| ≤ rateLimit (gaugeAt s n) := by
  obtain ⟨hkt, hrate⟩ := h'.rate n (h.lawful n hlaw) hk'
  rw [(h.rests n).pos_eq hlaw hk hkt] at hrate
  rcases h.gauge n with hg | hg <;> rw [hg] at hrate
  · exact hrate
  · exact hrate.trans (by simp [rateLimit])

end Sys2Proof.Machine
end

section
/-! PROOFS. The law of the commanded position (R47), kept by every step: the commands one by one, and the
step. -/

namespace Sys2Proof.Machine

/-! ## The law of all channels -/

theorem channelAt_mem_or_initial (s : State) (n : Nat) :
    channelAt s n ∈ s.run.gu.channels ∨ channelAt s n = Channel.initial := by
  rcases Nat.lt_or_ge n s.run.gu.channels.length with h | h
  · left
    rw [channelAt, List.getD_eq_getElem _ _ h]
    exact List.getElem_mem h
  · exact .inr (channelAt_of_length_le h)

/-- The pointer law, channel by channel. -/
theorem pointerLaw_iff (s : State) :
    PointerLaw s ↔ ∀ n, LawfulChannel (gaugeAt s n) (channelAt s n) := by
  constructor
  · rintro ⟨hchannels, hgauges⟩ n
    rcases channelAt_mem_or_initial s n with h | h
    · exact ⟨hchannels _ h, hgauges n⟩
    · rw [h]
      exact .initial fun g hg => (hgauges n g hg).1
  · refine fun h => ⟨fun c hc => ?_, fun n g hg => (h n).2 g hg⟩
    obtain ⟨n, hn, rfl⟩ := List.mem_iff_getElem.1 hc
    rw [← List.getD_eq_getElem _ Channel.initial hn]
    exact (h n).1

/-! ## Commands that move no channel -/

/-- The command has been answered with a state in which no channel has moved. -/
def AnswersAtRest (s : State) (o : Host.Outcome State Fault Refusal) : Prop :=
  ∀ t, o = .next t → PointersRest s t

theorem AnswersAtRest.next {s t : State} (h : GaugesRest s t) : AnswersAtRest s (.next t) := by
  rintro _ ⟨⟩
  exact h.toPointersRest

theorem AnswersAtRest.answerIf {s t : State} {wf : Bool} (h : GaugesRest s t) :
    AnswersAtRest s (answerIf wf t) := by
  cases wf
  · rintro _ ⟨⟩
  · exact .next h

/-- A command that acts after the due steps. -/
theorem AnswersAtRest.after {s : State} {f : State → State} (h : ∀ t, GaugesRest t (f t)) :
    AnswersAtRest s (.next (after f s)) := .next (after_rest h s)

theorem AnswersAtRest.answerIf_after {s : State} {f : State → State} {wf : Bool}
    (h : ∀ t, GaugesRest t (f t)) : AnswersAtRest s (Machine.answerIf wf (Machine.after f s)) :=
  .answerIf (after_rest h s)

/-- A command that activates tables after the due steps. -/
theorem AnswersAtRest.after_activation {s : State} {f : State → State} (h : ∀ t, PointersRest t (f t)) :
    AnswersAtRest s (.next (Machine.after f s)) := by
  rintro _ ⟨⟩
  exact (settle_rest s).toPointersRest.trans (h _)

theorem PointersRest.refl (s : State) : PointersRest s s := (GaugesRest.refl s).toPointersRest

theorem ignitionSamples_rest (samples : List Bool) (s : State) : GaugesRest s (ignitionSamples samples s) :=
  .foldl ignitionSample_rest samples s

theorem inputSamples_rest (n : Nat) (samples : List Bool) (s : State) :
    GaugesRest s (inputSamples n samples s) := .foldl (inputSample_rest n) samples s

/-- Every command but a gauge update leaves each known position where it is. -/
theorem exec_atRest {i : Instr} (hi : ∀ sense, i ≠ .gaugeUpdate sense) (s : State) :
    AnswersAtRest s (exec i s) := by
  cases i
  case gaugeUpdate sense => exact absurd rfl (hi sense)
  case keepAliveReset straps => exact .after (keepAliveReset_rest straps.val)
  case ignitionFinding samples =>
    exact .answerIf_after fun t => .ite fun _ => ignitionSamples_rest samples t
  case ignitionOn samples => exact .answerIf_after fun t => .ite fun _ => ignitionSamples_rest samples t
  case ignitionOff samples => exact .answerIf_after fun t => .ite fun _ => ignitionSamples_rest samples t
  case debouncedEdge input samples => exact .answerIf_after (inputSamples_rest input.val samples)
  case supplyMeasurement centivolts =>
    exact .after fun t => .ite fun _ => (measureSupply_gauges centivolts t).rest
  case underVoltageSet => exact .next (underSetStep_rest s)
  case underVoltageClear => exact .next (underClearStep_rest s)
  case overVoltageSet => exact .next (overSetStep_rest s)
  case overVoltageClear => exact .next (overClearStep_rest s)
  case headerComplete | frameAccepted | receiveError | stuckLineTimeout | ifrWaitSymbolError | sofReceived =>
    exact .after fun t => listenFor_rest _ _ _ t
  case lineIdle | frameSent | arbitrationLoss | transmitError | ifrStart | ifrSent | ifrTransmitError |
      endOfFrame =>
    exact .after fun t => .ite fun _ => listenFor_rest _ _ _ t
  case ifrLoss =>
    refine .after fun t => ?_
    dsimp only
    split
    · exact listenFor_rest _ _ _ t
    · exact .refl t
  case transmitAttemptStart => exact .after fun t => .ite fun _ => (beginAttempt_gauges t).rest
  case dliTransmitStart => exact .after fun t => .ite fun _ => (beginDisplay_gauges t).rest
  case dliFrameSent =>
    refine .after fun t => ?_
    split
    · exact displaySent_rest _ t
    · exact .refl t
  case linkTestBegin => exact .after fun t => .ite fun _ => SameGauges.rest ⟨rfl, rfl⟩
  case linkTestEnd read => exact .after fun t => .ite fun _ => (endTest_gauges read t).rest
  case routeFreshnessExpiry route =>
    refine .after fun t => ?_
    split
    · exact .ite fun _ => expireRoute_rest _ _ t
    · exact .refl t
  case homingComplete channel => exact .next (homingStep_rest channel.val s)
  case coilOpenFault channel => exact .next (coilStep_rest channel.val s)
  case blinkTimebaseAdvance => exact .after fun t => .ite fun _ => SameGauges.rest ⟨rfl, rfl⟩
  case loadCheck current => exact .after fun t => .ite fun _ => (loadCheck_gauges current t).rest
  case lampOpen lamp => exact .next (lampOpenStep_gauges lamp.val s).rest
  case lampOvercurrent lamp => exact .after fun t => .ite fun _ => (shortLamp_gauges lamp.val t).rest
  case lampCheckEnd => exact .after fun t => .ite fun _ => (endLampCheck_gauges t).rest
  case chimePatternEnd | repeatCycle => exact .after fun t => .ite fun _ => SameGauges.rest ⟨rfl, rfl⟩
  case escalationExpiry condition =>
    refine .after fun t => ?_
    split
    · exact (escalate_gauges _ _ t).rest
    · exact .refl t
  case conditionDelayExpiry condition =>
    refine .after fun t => ?_
    split
    · split
      · exact (changeCondition_gauges _ _ t).rest
      · exact .refl t
    · exact .refl t
  case minuteEvent => exact .after fun t => (minuteEvent_gauges t).rest
  case speedMismatchExpiry =>
    exact .after fun t => .ite fun _ => (flagChange_gauges _ _ _).rest.after_same ⟨rfl, rfl⟩
  case shutdownTimerExpiry => exact .after fun t => .ite fun _ => enterStandby_rest t
  case validationComplete levels =>
    refine .after_activation fun t => ?_
    split
    · exact completeStartup_rest levels t
    · exact .refl t
  case leaveServiceValidationFail =>
    refine .after fun t => .ite fun _ => ?_
    unfold failLeaveService
    split
    · exact .refl t
    · exact (answer_gauges _ _ _).rest.after_same ⟨rfl, rfl⟩
  case leaveServiceRestart levels =>
    refine .after_activation fun t => ?_
    unfold passLeaveService
    split
    · split
      · exact restart_rest levels t
      · exact .refl t
    · exact .refl t
  case readStatus => exact .next (readStatusStep_rest s)
  case clearStatus => exact .next (clearStatusStep_rest s)
  case enterService => exact .next (enterServiceStep_rest s)
  case leaveService => exact .next (leaveServiceStep_rest s)
  case readEntry => exact .next (readEntryStep_rest s)
  case writeEntry => exact .next (writeEntryStep_rest s)
  case readSignal => exact .next (readSignalStep_rest s)
  case readLog => exact .next (readLogStep_rest s)
  case readDriver => exact .next (readDriverStep_rest s)
  case setDriveTime => exact .next (setDriveTimeStep_rest s)
  case forceLampOn => exact .next (lampOnStep_rest s)
  case forceLampOff => exact .next (lampOffStep_rest s)
  case lampRelease => exact .next (lampReleaseStep_rest s)
  case gaugeToPosition => exact .next (gaugePositionStep_rest s)
  case gaugeRelease => exact .next (gaugeReleaseStep_rest s)
  case forceChimePattern => exact .next (chimePatternStep_rest s)
  case linkTest => exact .next (linkTestStep_rest s)

/-! ## Steps -/

/-- A step that takes no gauge update. -/
theorem step_atRest {s t : State} (h : step s = .next t)
    (hhead : ∀ sense, s.pending.head? ≠ some (.gaugeUpdate sense)) : PointersRest s t := by
  unfold step at h
  split at h
  · cases h
    exact (idle_rest s).toPointersRest
  · next c rest hpending =>
    have hc (sense : List (CoilSense × CoilSense)) : c ≠ .gaugeUpdate sense := fun heq =>
      hhead sense (by rw [hpending, heq]; rfl)
    have hpopped : SameGauges s { s with pending := rest } := ⟨rfl, rfl⟩
    exact hpopped.rest.toPointersRest.trans (exec_atRest hc _ t h)

/-- A step that takes a gauge update: the due steps, then the movement, when the run domain is powered. -/
theorem step_gaugeUpdate {s t : State} {sense : List (CoilSense × CoilSense)} (h : step s = .next t)
    (hhead : s.pending.head? = some (.gaugeUpdate sense)) :
    ∃ m, GaugesRest s m ∧ PointersMove m t := by
  obtain ⟨rest, hpending⟩ := List.head?_eq_some_iff.1 hhead
  rw [step, hpending] at h
  refine ⟨settle { s with pending := rest }, (settle_rest _).after_same ⟨rfl, rfl⟩, ?_⟩
  change answerIf _ _ = _ at h
  unfold answerIf at h
  split at h
  · cases h
    dsimp only [after]
    split
    · exact updateGauges_move sense _
    · exact .refl _
  · cases h

/-- Settles O60: stage 7 is a limited move toward the rounded filter; every step keeps the law channel by
channel, and a known channel rests or, at a gauge update, moves by its rate limit at most. -/
theorem pointerLawIsKept : Obligations.PointerLawIsKept := by
  refine ⟨fun pos filt rate span => ⟨rfl, fun hf hf' => ?_⟩, fun s t hstep hlaw => ?_⟩
  · obtain ⟨hlow, hhigh⟩ := rounded_filter_mem hf hf'
    exact ⟨hlow, hhigh, add_limited_mem pos _ rate⟩
  · rw [pointerLaw_iff] at hlaw ⊢
    by_cases hhead : ∃ sense, s.pending.head? = some (.gaugeUpdate sense)
    · obtain ⟨sense, hhead⟩ := hhead
      obtain ⟨m, hrest, hmove⟩ := step_gaugeUpdate hstep hhead
      refine ⟨fun n => hmove.lawful n (hrest.lawful n (hlaw n)), fun n g hg hk hk' => ⟨?_, fun hno => ?_⟩⟩
      · simpa [hg, rateLimit] using hrest.rate_of_move hmove (hlaw n) hk hk'
      · exact absurd hhead (hno sense)
    · have hrest := step_atRest hstep (not_exists.1 hhead)
      refine ⟨fun n => hrest.lawful n (hlaw n), fun n g _ hk hk' => ?_⟩
      have hpos := (hrest.rests n).pos_eq (hlaw n) hk hk'
      exact ⟨by simp [hpos], fun _ => hpos⟩

end Sys2Proof.Machine
end

section
/-! PROOFS. The truth of a threshold source (R63): which statuses are unusable, the truth with its
hysteresis, and the truth that every evaluation leaves remembered. -/

namespace Sys2Proof.Machine

/-! ## Usable values -/

theorem SigStatus.usable_eq_false_iff (st : SigStatus) :
    st.usable = false ↔ st = .never ∨ st = .notAvailable ∨ st = .errorCode ∨ st = .stale := by
  cases st <;> decide

theorem usableAt_eq_none_iff (s : State) (i : Nat) :
    usableAt s i = none ↔ (signalAt s i).status.usable = false := by
  simp [usableAt]

/-! ## The truth of a threshold source -/

section
variable {s : State} {c : Condition} {i : Nat}

theorem sourceTruth_above (h : c.source = .above i) (m : Bool) :
    sourceTruth s c m =
      (usableAt s i).map fun v => if c.set ≤ v then true else if v < c.clear then false else m := by
  simp only [sourceTruth, h]
  cases usableAt s i <;> rfl

theorem sourceTruth_below (h : c.source = .below i) (m : Bool) :
    sourceTruth s c m =
      (usableAt s i).map fun v => if v ≤ c.set then true else if c.clear < v then false else m := by
  simp only [sourceTruth, h]
  cases usableAt s i <;> rfl

/-- SIGNAL_ABOVE: set is tested first, so a value at or above it is true even when it is below clear. -/
theorem sourceTruth_above_usable (h : c.source = .above i) (m : Bool) {v : Int} (hv : usableAt s i = some v) :
    (c.set ≤ v → sourceTruth s c m = some true) ∧
      (v < c.clear → v < c.set → sourceTruth s c m = some false) ∧
      (c.clear ≤ v → v < c.set → sourceTruth s c m = some m) := by
  rw [sourceTruth_above h, hv, Option.map_some]
  refine ⟨fun hset => ?_, fun hclear hset => ?_, fun hclear hset => ?_⟩
  · rw [if_pos hset]
  · rw [if_neg hset.not_ge, if_pos hclear]
  · rw [if_neg hset.not_ge, if_neg hclear.not_gt]

/-- SIGNAL_BELOW: set is tested first, so a value at or below it is true even when it is above clear. -/
theorem sourceTruth_below_usable (h : c.source = .below i) (m : Bool) {v : Int} (hv : usableAt s i = some v) :
    (v ≤ c.set → sourceTruth s c m = some true) ∧
      (c.clear < v → c.set < v → sourceTruth s c m = some false) ∧
      (c.set < v → v ≤ c.clear → sourceTruth s c m = some m) := by
  rw [sourceTruth_below h, hv, Option.map_some]
  refine ⟨fun hset => ?_, fun hclear hset => ?_, fun hset hclear => ?_⟩
  · rw [if_pos hset]
  · rw [if_neg hset.not_ge, if_pos hclear]
  · rw [if_neg hset.not_ge, if_neg hclear.not_gt]

theorem sourceTruth_above_unusable (h : c.source = .above i) (m : Bool) (hv : usableAt s i = none) :
    sourceTruth s c m = none := by
  rw [sourceTruth_above h, hv, Option.map_none]

theorem sourceTruth_below_unusable (h : c.source = .below i) (m : Bool) (hv : usableAt s i = none) :
    sourceTruth s c m = none := by
  rw [sourceTruth_below h, hv, Option.map_none]

end

/-! ## The remembered truth -/

/-- A transition changes the state and the timer alone (R67, R68, R70). -/
@[simp] theorem condMove_remembered (s : State) (c : Condition) (j : Nat) (truth : Bool) (r : CondRec) :
    (condMove s c j truth r).remembered = r.remembered := by
  unfold condMove
  cases r.state with
  | suspended => rfl
  | inactive | pendingOn | active | pendingOff | latched => dsimp only; split_ifs <;> rfl

@[simp] theorem condHold_remembered (r : CondRec) : (condHold r).remembered = r.remembered := by
  unfold condHold
  split <;> rfl

@[simp] theorem condSuspend_remembered (r : CondRec) : (condSuspend r).remembered = r.remembered := by
  unfold condSuspend
  split <;> rfl

/-- Step 2 of R66 alone decides the remembered truth, whether the qualifier then blocks, a SUSPENDED record
resumes, or the policy resolves an unknown truth. -/
theorem evalRec_remembered (s : State) (c : Condition) (j : Nat) (r : CondRec) :
    (evalRec s c j r).remembered = remember c (sourceTruth s c r.remembered) r.remembered := by
  unfold evalRec
  dsimp only
  split
  · rw [condSuspend_remembered]
  · split
    · simp only [condMove_remembered, apply_ite CondRec.remembered, ite_self]
    · split
      · simp only [condHold_remembered, apply_ite CondRec.remembered, ite_self]
      · simp only [condMove_remembered, apply_ite CondRec.remembered, ite_self]
      · simp only [condMove_remembered, apply_ite CondRec.remembered, ite_self]

theorem remember_of_threshold {c : Condition} {i : Nat} (h : c.source = .above i ∨ c.source = .below i)
    (truth : Option Bool) (m : Bool) : remember c truth m = truth.getD m := by
  obtain h | h := h <;> rw [remember, h]

/-- Settles O10: the hysteresis case by case, the remembered truth over every path of an evaluation, and the
statuses that are not usable. -/
theorem thresholdTruthHasHysteresis : Obligations.ThresholdTruthHasHysteresis := by
  refine ⟨fun s c j i r => ⟨fun h => ?above, fun h => ?below, fun h => ?remembered⟩, fun s i => ?statuses, rfl⟩
  case above =>
    exact ⟨fun _ => sourceTruth_above_usable h r.remembered, sourceTruth_above_unusable h r.remembered⟩
  case below =>
    exact ⟨fun _ => sourceTruth_below_usable h r.remembered, sourceTruth_below_unusable h r.remembered⟩
  case remembered => rw [evalRec_remembered, remember_of_threshold h]
  case statuses => rw [usableAt_eq_none_iff, SigStatus.usable_eq_false_iff]

end Sys2Proof.Machine
end

section
/-! PROOFS. Reading the Activity Log (R123, R124): the sequence numbers of a lawful log, the three answers over
a log that holds records, and the REPLY that carries them. -/

namespace Sys2Proof.Machine

/-! ## Sequence numbers of a lawful log (R123) -/

/-- Two bytes spell a number below the modulus of the sequence numbers. -/
theorem natAt_two_lt (bs : List Byte) (i : Nat) : natAt bs i 2 < 65536 := by
  have h := bitsNat_lt (bytesBits ((List.range 2).map fun k => byteAt bs (i + k)))
  rw [bitsNat_bytesBits, bytesBits_length] at h
  simpa [natAt] using h

/-- How far `start` lies behind the oldest record's number, modulo 65536 (R124). -/
def logDistance (start : Nat) (oldest : LogRec) : Nat := (start + 65536 - oldest.seq) % 65536

namespace LogLaw

variable {t : Dtu} {start : Nat} {oldest : LogRec}

theorem seq_oldest (h : LogLaw t) (ho : t.log.head? = some oldest) :
    oldest.seq = (t.seq + 65536 - t.log.length) % 65536 := by
  obtain ⟨_, _, _, hseq⟩ := h
  rw [List.head?_eq_getElem?] at ho
  simpa using hseq 0 oldest ho

/-- The record at the distance of `start` has the number `start`. -/
theorem seq_at_distance (h : LogLaw t) (ho : t.log.head? = some oldest) (hs : start < 65536) {r : LogRec}
    (hr : t.log[logDistance start oldest]? = some r) : r.seq = start := by
  have hoseq := h.seq_oldest ho
  obtain ⟨_, ht, hlen, hseq⟩ := h
  have hrseq := hseq _ r hr
  obtain ⟨hk, _⟩ := List.getElem?_eq_some_iff.mp hr
  unfold logDistance at hk hrseq
  omega

/-- The number one past the youngest record is the one that the next append takes. -/
theorem start_eq_seq (h : LogLaw t) (ho : t.log.head? = some oldest) (hs : start < 65536)
    (hk : logDistance start oldest = t.log.length) : start = t.seq := by
  have hoseq := h.seq_oldest ho
  obtain ⟨_, ht, hlen, _⟩ := h
  unfold logDistance at hk
  omega

end LogLaw

/-! ## The answer by its cases (R124) -/

theorem readLogAnswer_nil (start : Nat) : readLogAnswer [] start = (none, false) := rfl

section
variable {log : List LogRec} {start : Nat} {oldest : LogRec}

theorem readLogAnswer_of_head? (ho : log.head? = some oldest) :
    readLogAnswer log start =
      if logDistance start oldest < log.length then (log[logDistance start oldest]?, false)
      else if logDistance start oldest = log.length then (none, false)
      else (some oldest, true) := by
  cases log with
  | nil => simp at ho
  | cons x xs =>
    obtain rfl : x = oldest := by simpa using ho
    rfl

theorem readLogAnswer_held (ho : log.head? = some oldest) (hk : logDistance start oldest < log.length) :
    readLogAnswer log start = (log[logDistance start oldest]?, false) := by
  rw [readLogAnswer_of_head? ho, if_pos hk]

theorem readLogAnswer_next (ho : log.head? = some oldest) (hk : logDistance start oldest = log.length) :
    readLogAnswer log start = (none, false) := by
  rw [readLogAnswer_of_head? ho, if_neg (by omega), if_pos hk]

theorem readLogAnswer_gap (ho : log.head? = some oldest) (hk : log.length < logDistance start oldest) :
    readLogAnswer log start = (some oldest, true) := by
  rw [readLogAnswer_of_head? ho, if_neg (by omega), if_neg (by omega)]

end

/-! ## The REPLY -/

theorem exec_readLog_of_inHand {s : State} {cmd : Command} (h : InHand s .readLog cmd) :
    exec .readLog s = .next (runReadLog cmd s) := by
  have hdue : commandDue s .readLog = some cmd := h.due (by simp) (by simp)
  change Host.Outcome.next (whenDue (commandDue s .readLog) runReadLog s) = _
  rw [hdue]
  rfl

/-- The REPLY holds the record answered, with the gap mark in its status byte, and nothing else changes. -/
theorem runReadLog_replied {s : State} {cmd : Command} (h : InHand s .readLog cmd) {record : Option LogRec}
    {gap : Bool} (ha : readLogAnswer s.dtu.log (natAt cmd.payload 1 2) = (record, gap)) :
    Replied s (runReadLog cmd s) cmd (byteOf (128 * boolNat gap) :: (record.map logBytes).getD []) none := by
  have hcmd : s.run.mu.cmd = some cmd := h.2.1
  unfold runReadLog
  rw [ha]
  exact sendResult_replied hcmd h.mode_ne _ _ _ rfl

/-- Settles O22: the answer by its cases, each carried by the REPLY; the law of the log gives the numbers. -/
theorem readLogAnswersByItsCases : Obligations.ReadLogAnswersByItsCases := by
  intro s cmd hin hlaw
  have hstart := natAt_two_lt cmd.payload 1
  refine ⟨runReadLog cmd s, exec_readLog_of_inHand hin, fun hempty => ?empty, fun oldest ho => ⟨?held, ?next, ?gap⟩⟩
  case empty =>
    exact runReadLog_replied hin ((congrArg (readLogAnswer · _) hempty).trans (readLogAnswer_nil _))
  case held =>
    intro (hk : logDistance _ oldest < _)
    have hr := List.getElem?_eq_getElem hk
    refine ⟨_, List.getElem_mem hk, hlaw.seq_at_distance ho hstart hr, ?_⟩
    exact runReadLog_replied hin ((readLogAnswer_held ho hk).trans (by rw [hr]))
  case next =>
    intro (hk : logDistance _ oldest = _)
    exact ⟨hlaw.start_eq_seq ho hstart hk, runReadLog_replied hin (readLogAnswer_next ho hk)⟩
  case gap =>
    intro (hk : _ < logDistance _ oldest)
    exact runReadLog_replied hin (readLogAnswer_gap ho hk)

end Sys2Proof.Machine
end

section
/-! PROOFS. One minute's credit to a driver record (R116 to R120): the remaining time and the stage, the
activity chosen for a record, and what the credit makes of it. -/

namespace Sys2Proof.Machine

/-! ## Remaining time and stage (R120) -/

theorem contLimit_le_of_driveOk {p : DriveParams} (h : driveOk p = true) : p.contLimit ≤ 1440 := by
  simp only [driveOk, inRange, Bool.and_eq_true, decide_eq_true_eq] at h
  omega

theorem remainingOf_eq_max (p : DriveParams) (cont daily : Nat) :
    (remainingOf p cont daily : Int) = max 0 (min ((p.contLimit : Int) - cont) ((p.dailyLimit : Int) - daily)) := by
  unfold remainingOf
  omega

theorem remainingOf_le (p : DriveParams) (cont daily : Nat) : remainingOf p cont daily ≤ p.contLimit :=
  (Nat.min_le_left _ _).trans (Nat.sub_le _ _)

/-- Past a limit no time remains. -/
theorem remainingOf_of_over {p : DriveParams} {cont daily : Nat} (h : p.contLimit < cont ∨ p.dailyLimit < daily) :
    remainingOf p cont daily = 0 := by
  unfold remainingOf
  omega

theorem stageFor_of_over {p : DriveParams} {cont daily : Nat} (h : p.contLimit < cont ∨ p.dailyLimit < daily) :
    stageFor p cont daily = .over := if_pos h

theorem stageFor_of_within {p : DriveParams} {cont daily : Nat} (h : ¬ (p.contLimit < cont ∨ p.dailyLimit < daily)) :
    stageFor p cont daily =
      if remainingOf p cont daily = 0 then .limit
      else if remainingOf p cont daily ≤ p.prewarn then .preWarn else .none := if_neg h

theorem stageFor_over_iff (p : DriveParams) (cont daily : Nat) :
    stageFor p cont daily = .over ↔ p.contLimit < cont ∨ p.dailyLimit < daily := by
  by_cases hover : p.contLimit < cont ∨ p.dailyLimit < daily
  · simp [stageFor_of_over hover, hover]
  · rw [stageFor_of_within hover]
    split_ifs <;> simp [hover]

theorem stageFor_limit_iff (p : DriveParams) (cont daily : Nat) :
    stageFor p cont daily = .limit ↔
      cont ≤ p.contLimit ∧ daily ≤ p.dailyLimit ∧ remainingOf p cont daily = 0 := by
  by_cases hover : p.contLimit < cont ∨ p.dailyLimit < daily
  · simp only [stageFor_of_over hover, reduceCtorEq, false_iff]
    omega
  · rw [stageFor_of_within hover]
    obtain ⟨hcont, hdaily⟩ : cont ≤ p.contLimit ∧ daily ≤ p.dailyLimit := by omega
    split_ifs <;> simp [*]

theorem stageFor_preWarn_iff (p : DriveParams) (cont daily : Nat) :
    stageFor p cont daily = .preWarn ↔ 0 < remainingOf p cont daily ∧ remainingOf p cont daily ≤ p.prewarn := by
  by_cases hover : p.contLimit < cont ∨ p.dailyLimit < daily
  · simp [stageFor_of_over hover, remainingOf_of_over hover]
  · rw [stageFor_of_within hover]
    split_ifs <;> simp [*, Nat.pos_iff_ne_zero]

theorem assess_law {p : DriveParams} (h : driveOk p = true) (d : Driver) : AssessedLaw p (assess p d) :=
  ⟨remainingOf_eq_max p d.cont d.daily, (remainingOf_le p d.cont d.daily).trans (contLimit_le_of_driveOk h),
    stageFor_over_iff p d.cont d.daily, stageFor_limit_iff p d.cont d.daily, stageFor_preWarn_iff p d.cont d.daily⟩

/-! ## The activity of a record (R116, R117) -/

theorem boundActivity_spec (s : State) (slot : Nat) :
    BoundActivity s slot (boundActivity s slot).1 (boundActivity s slot).2 := by
  unfold BoundActivity boundActivity activitySignal
  dsimp only
  generalize usableOpt s (if slot = 1 then s.dtu.params.activity1 else s.dtu.params.activity2) = value
  cases value with
  | some v => simp
  | none =>
    by_cases hoff : s.mode = .standby ∨ s.mode = .shutdown
    case pos =>
      rcases hoff with hstandby | hshutdown
      · simp [hstandby]
      · simp [hshutdown]
    case neg =>
      obtain ⟨hstandby, hshutdown⟩ := not_or.mp hoff
      by_cases hslot : slot = 1
      · cases usableOpt s s.dtu.params.roadSpeed <;> simp [hstandby, hshutdown, hslot]
      · simp [hstandby, hshutdown, hslot]

/-- The two slots hold different digests (R108), so the two cases of a bound record do not meet. -/
theorem chosenActivity_spec {s : State} (hdistinct : ∀ d, s.dtu.slot1 = some d → s.dtu.slot2 ≠ some d)
    (d : Driver) :
    MinuteActivity s d (chosenActivity s d).1 (chosenActivity s d).2 := by
  unfold chosenActivity
  by_cases hslot1 : s.dtu.slot1 = some d.digest
  · rw [if_pos hslot1]
    exact ⟨fun _ => boundActivity_spec s 1, fun hslot2 => absurd hslot2 (hdistinct _ hslot1),
      fun hne => absurd hslot1 hne⟩
  · rw [if_neg hslot1]
    by_cases hslot2 : s.dtu.slot2 = some d.digest
    · rw [if_pos hslot2]
      exact ⟨fun h => absurd h hslot1, fun _ => boundActivity_spec s 2, fun _ hne => absurd hslot2 hne⟩
    · rw [if_neg hslot2]
      exact ⟨fun h => absurd h hslot1, fun h => absurd h hslot2, fun _ _ => ⟨rfl, rfl⟩⟩

/-! ## The credit (R118, R119) -/

/-- R118, step 1. -/
def Driver.restCounted (d : Driver) : Driver :=
  { d with pauseRun := min 1440 (d.pauseRun + 1), restRun := min 1440 (d.restRun + 1) }

/-- R118, steps 2 and 3: a break that ends the driving since the last one, or none yet. -/
def Driver.breakTaken (done : Bool) (d : Driver) : Driver :=
  if done then { d with cont := 0, splitDone := false } else d

/-- R118, step 4. -/
def Driver.dailyRestTaken (done : Bool) (d : Driver) : Driver :=
  if done then { d with daily := 0, cont := 0, splitDone := false, synced := true } else d

theorem Driver.breakTaken_eq (done : Bool) (d : Driver) :
    d.breakTaken done =
      { d with cont := if done then 0 else d.cont, splitDone := if done then false else d.splitDone } := by
  unfold breakTaken
  split <;> rfl

theorem Driver.dailyRestTaken_eq (done : Bool) (d : Driver) :
    d.dailyRestTaken done =
      { d with daily := if done then 0 else d.daily, cont := if done then 0 else d.cont
               splitDone := if done then false else d.splitDone, synced := if done then true else d.synced } := by
  unfold dailyRestTaken
  split <;> rfl

theorem creditRest_eq (p : DriveParams) (d : Driver) :
    creditRest p d =
      let d1 := d.restCounted
      let d2 := d1.breakTaken (decide (p.fullBreak ≤ d1.pauseRun))
      let d3 := d2.breakTaken (decide (p.splitSecond ≤ d2.pauseRun ∧ d2.splitDone = true))
      d3.dailyRestTaken (decide (p.dailyRest ≤ d3.restRun)) := by
  simp only [Driver.breakTaken, Driver.dailyRestTaken, decide_eq_true_eq]
  rfl

/-- R118: a full break leaves no split half done, and the daily rest resets what the breaks reset and more. -/
theorem creditRest_credited (p : DriveParams) (d : Driver) : Credited p .rest d (creditRest p d) := by
  refine ⟨fun _ => ?_, fun h => absurd rfl h⟩
  simp only [creditRest_eq, Driver.dailyRestTaken_eq, Driver.breakTaken_eq, Driver.restCounted, decide_eq_true_eq]
  by_cases hfull : p.dailyRest ≤ min 1440 (d.restRun + 1)
  case pos => simp only [hfull, or_true, if_true, and_self]
  case neg =>
    by_cases hbreak : p.fullBreak ≤ min 1440 (d.pauseRun + 1) <;> simp [hfull, hbreak]

theorem creditOther_credited (p : DriveParams) {a : Activity} (ha : a ≠ .rest) (d : Driver) :
    Credited p a d (creditOther p (decide (a = .driving)) d) := by
  refine ⟨fun h => absurd h ha, fun _ => ?_⟩
  unfold creditOther
  by_cases hdriving : a = .driving <;> simp [hdriving]

/-- Neither credit touches the digest or the last presence. -/
theorem credit_identity (p : DriveParams) (a : Activity) (inferred : Bool) (d : Driver) :
    (credit p a inferred d).digest = d.digest ∧ (credit p a inferred d).lastPresent = d.lastPresent := by
  unfold credit
  split
  · simp only [creditRest_eq, Driver.dailyRestTaken_eq, Driver.breakTaken_eq, Driver.restCounted, and_self]
  · unfold creditOther
    dsimp only
    split <;> exact ⟨rfl, rfl⟩

theorem credit_credited (p : DriveParams) (a : Activity) (inferred : Bool) (d : Driver) :
    Credited p a d (credit p a inferred d) := by
  unfold credit
  split
  case isTrue hrest =>
    subst hrest
    exact creditRest_credited p d
  case isFalse hne => exact creditOther_credited p hne d

/-! ## One minute of a record (R115, steps 2 and 3) -/

theorem minuteRecord_eq (s : State) (minutes : Nat) (d : Driver) :
    minuteRecord s minutes d =
      { assess s.dtu.params (credit s.dtu.params (chosenActivity s d).1 (chosenActivity s d).2 d) with
        lastPresent := if isUnbound s.dtu d then d.lastPresent else minutes } := by
  obtain ⟨_, hpresent⟩ := credit_identity s.dtu.params (chosenActivity s d).1 (chosenActivity s d).2 d
  rw [← hpresent]
  unfold minuteRecord
  dsimp only
  split <;> rfl

theorem minuteRecord_activity (s : State) (minutes : Nat) (d : Driver) :
    (minuteRecord s minutes d).activity = (chosenActivity s d).1 := by rw [minuteRecord_eq]; rfl

theorem minuteRecord_inferred (s : State) (minutes : Nat) (d : Driver) :
    (minuteRecord s minutes d).inferred = (chosenActivity s d).2 := by rw [minuteRecord_eq]; rfl

theorem minuteRecord_digest (s : State) (minutes : Nat) (d : Driver) :
    (minuteRecord s minutes d).digest = d.digest := by
  rw [minuteRecord_eq]
  exact (credit_identity s.dtu.params _ (chosenActivity s d).2 d).1

theorem minuteRecord_credited (s : State) (minutes : Nat) (d : Driver) :
    Credited s.dtu.params (minuteRecord s minutes d).activity d (minuteRecord s minutes d) := by
  rw [minuteRecord_activity, minuteRecord_eq]
  exact credit_credited s.dtu.params _ (chosenActivity s d).2 d

theorem minuteRecord_assessed {s : State} (h : driveOk s.dtu.params = true) (minutes : Nat) (d : Driver) :
    AssessedLaw s.dtu.params (minuteRecord s minutes d) := by
  rw [minuteRecord_eq]
  exact assess_law h (credit s.dtu.params _ (chosenActivity s d).2 d)

theorem isUnbound_eq_false_iff (t : Dtu) (d : Driver) :
    isUnbound t d = false ↔ t.slot1 = some d.digest ∨ t.slot2 = some d.digest := by
  simp [isUnbound, Decidable.or_iff_not_imp_left]

theorem minuteRecord_lastPresent_bound {s : State} {d : Driver} (minutes : Nat)
    (h : s.dtu.slot1 = some d.digest ∨ s.dtu.slot2 = some d.digest) :
    (minuteRecord s minutes d).lastPresent = minutes := by
  rw [minuteRecord_eq, (isUnbound_eq_false_iff s.dtu d).mpr h]
  rfl

theorem minuteRecord_lastPresent_unbound {s : State} {d : Driver} (minutes : Nat)
    (h : ¬ (s.dtu.slot1 = some d.digest ∨ s.dtu.slot2 = some d.digest)) :
    (minuteRecord s minutes d).lastPresent = d.lastPresent := by
  rw [← isUnbound_eq_false_iff, Bool.not_eq_false] at h
  rw [minuteRecord_eq, h]
  rfl

end Sys2Proof.Machine
end

section
/-! PROOFS. The Drive-Time Unit's own part of a minute event (R115, R121, R123): appending to the Activity Log,
what is logged for each slot, and the state of the unit after the event. -/

namespace Sys2Proof.Machine

/-! ## Appending to the log (R123) -/

/-- The unit's state with these records, numbered already, appended to its log. -/
def Dtu.appendAll (t : Dtu) (news : List LogRec) : Dtu :=
  { t with log := (t.log ++ news).drop (t.log.length + news.length - 64)
           seq := (t.seq + news.length) % 65536 }

theorem Dtu.appendAll_nil {t : Dtu} (hlen : t.log.length ≤ 64) (hseq : t.seq < 65536) : t.appendAll [] = t := by
  have hlog : t.log.drop (t.log.length - 64) = t.log := by
    rw [Nat.sub_eq_zero_of_le hlen, List.drop_zero]
  simp [appendAll, hlog, Nat.mod_eq_of_lt hseq]

/-- What the ring of 64 keeps does not depend on how the records come. -/
theorem Dtu.appendAll_appendAll (t : Dtu) (xs ys : List LogRec) :
    (t.appendAll xs).appendAll ys = t.appendAll (xs ++ ys) := by
  have hlog :
      ((t.log ++ xs).drop (t.log.length + xs.length - 64) ++ ys).drop
          (((t.log ++ xs).drop (t.log.length + xs.length - 64)).length + ys.length - 64) =
        (t.log ++ (xs ++ ys)).drop (t.log.length + (xs ++ ys).length - 64) := by
    rw [← List.append_assoc, ← List.drop_append_of_le_length (by simp), List.drop_drop]
    congr 1
    simp only [List.length_drop, List.length_append]
    omega
  have hseq : ((t.seq + xs.length) % 65536 + ys.length) % 65536 = (t.seq + (xs ++ ys).length) % 65536 := by
    rw [Nat.mod_add_mod, List.length_append, Nat.add_assoc]
  simp only [appendAll, hlog, hseq]

theorem appendLog_eq_appendAll (kind : LogKind) (slot : Option Nat) (activity : Activity) (inferred : Bool)
    (digest : Nat) (t : Dtu) :
    appendLog kind slot activity inferred digest t =
      t.appendAll [{ seq := t.seq, kind := kind, slot := slot, activity := activity, inferred := inferred
                     digest := digest, minute := t.minutes }] := by
  unfold appendLog Dtu.appendAll
  rw [List.drop_append_of_le_length (by simp)]
  rfl

theorem Dtu.appendAll_log_length (t : Dtu) (news : List LogRec) : (t.appendAll news).log.length ≤ 64 := by
  simp only [appendAll, List.length_drop, List.length_append]
  omega

theorem Dtu.appendAll_seq_lt (t : Dtu) (news : List LogRec) : (t.appendAll news).seq < 65536 :=
  Nat.mod_lt _ (by decide)

/-! ## A slot's change of activity (R121) -/

/-- The record bound to a slot. -/
def Dtu.boundRecord (t : Dtu) (slot : Nat) : Option Driver := (boundTo t slot).bind (recordOf t)

theorem slotDriver_eq_boundRecord (s : State) (slot : Nat) : slotDriver s slot = s.dtu.boundRecord slot := by
  unfold slotDriver Dtu.boundRecord
  rw [show boundTo s.dtu slot = slotDigest s slot from rfl]
  cases slotDigest s slot <;> rfl

/-- What is logged of a slot whose record was `before` and is `now`, as a list of one record or none. -/
def activityNews (before now : Option Driver) (slot seq minute : Nat) : List LogRec :=
  match before, now with
  | some b, some d =>
      if b.activity = d.activity ∧ b.inferred = d.inferred then []
      else
        [{ seq := seq, kind := .activityChange, slot := some slot, activity := d.activity, inferred := d.inferred
           digest := d.digest, minute := minute }]
  | _, _ => []

theorem logActivity_eq {old t : Dtu} {slot : Nat} (hslot : boundTo t slot = boundTo old slot)
    (hlen : t.log.length ≤ 64) (hseq : t.seq < 65536) :
    logActivity old slot t =
      t.appendAll (activityNews (old.boundRecord slot) (t.boundRecord slot) slot t.seq t.minutes) := by
  have hnil := Dtu.appendAll_nil hlen hseq
  unfold logActivity Dtu.boundRecord
  rw [hslot]
  cases boundTo old slot with
  | none => exact hnil.symm
  | some digest =>
    simp only [Option.bind_some]
    cases recordOf old digest with
    | none => exact hnil.symm
    | some before =>
      cases recordOf t digest with
      | none => exact hnil.symm
      | some now =>
        simp only [activityNews]
        split
        · exact hnil.symm
        · exact appendLog_eq_appendAll _ _ _ _ _ t

/-! ## The unit after a minute event (R115, steps 1 to 4) -/

/-- Steps 1 to 3: the counter advanced and every record credited. -/
def minuteCredited (s : State) : Dtu :=
  let minutes := (s.dtu.minutes + 1) % 16777216
  { s.dtu with minutes := minutes, timer := 60000, drivers := s.dtu.drivers.map (minuteRecord s minutes) }

/-- What step 4 logs of a slot, with the sequence number `seq`. -/
def minuteNewsOf (s : State) (slot seq : Nat) : List LogRec :=
  activityNews (slotDriver s slot) ((minuteCredited s).boundRecord slot) slot seq
    ((s.dtu.minutes + 1) % 16777216)

/-- What step 4 logs. -/
def minuteNews (s : State) : List LogRec :=
  let first := minuteNewsOf s 1 s.dtu.seq
  first ++ minuteNewsOf s 2 ((s.dtu.seq + first.length) % 65536)

theorem minuteDtu_eq {s : State} (h : LogLaw s.dtu) :
    minuteDtu s = (minuteCredited s).appendAll (minuteNews s) := by
  obtain ⟨_, hseq, hlen, _⟩ := h
  have hone : logActivity s.dtu 1 (minuteCredited s) =
      (minuteCredited s).appendAll (minuteNewsOf s 1 s.dtu.seq) := by
    rw [minuteNewsOf, slotDriver_eq_boundRecord]
    exact logActivity_eq (t := minuteCredited s) rfl hlen hseq
  have htwo (news : List LogRec) : logActivity s.dtu 2 ((minuteCredited s).appendAll news) =
      ((minuteCredited s).appendAll news).appendAll
        (minuteNewsOf s 2 ((s.dtu.seq + news.length) % 65536)) := by
    rw [minuteNewsOf, slotDriver_eq_boundRecord]
    exact logActivity_eq (t := (minuteCredited s).appendAll news) rfl
      (Dtu.appendAll_log_length _ _) (Dtu.appendAll_seq_lt _ _)
  calc minuteDtu s
    _ = logActivity s.dtu 2 (logActivity s.dtu 1 (minuteCredited s)) := rfl
    _ = (minuteCredited s).appendAll (minuteNews s) := by
      rw [hone, htwo, Dtu.appendAll_appendAll, minuteNews]

end Sys2Proof.Machine
end

section
/-! PROOFS. The Drive-time notice stands (R18): no operation of the warnings path takes it out of the DUQ or
out of its pending slot. -/

namespace Sys2Proof.Machine

/-- `t` holds every Drive-time notice that `s` holds, in the DUQ and in the pending slot. -/
def KeepsDrivetime (s t : State) : Prop :=
  (∀ e ∈ s.run.queues.duq, e.origin = .notice .drivetime → e ∈ t.run.queues.duq) ∧
    t.run.queues.pendDrivetime = s.run.queues.pendDrivetime

namespace KeepsDrivetime

theorem of_queues_eq {s t : State} (h : t.run.queues = s.run.queues) : KeepsDrivetime s t := by
  unfold KeepsDrivetime
  rw [h]
  exact ⟨fun _ he _ => he, rfl⟩

theorem refl (s : State) : KeepsDrivetime s s := of_queues_eq rfl

theorem trans {s t u : State} (h : KeepsDrivetime s t) (h' : KeepsDrivetime t u) : KeepsDrivetime s u :=
  ⟨fun e he ho => h'.1 e (h.1 e he ho) ho, h'.2.trans h.2⟩

/-- The newest Drive-time notice still stands while the items it carries are the same. -/
theorem noticeStands {s t : State} (h : KeepsDrivetime s t) (hdtu : t.dtu = s.dtu)
    (hs : NoticeStands .drivetime s) : NoticeStands .drivetime t := by
  have hframes : noticeFrames t .drivetime = noticeFrames s .drivetime := by
    simp only [noticeFrames, drivetimePart, slotDriver_eq_boundRecord, hdtu]
  unfold NoticeStands
  rw [hframes]
  rcases hs with ⟨e, he, ho, hwaits⟩ | hpending
  · exact .inl ⟨e, h.1 e he ho, ho, hwaits⟩
  · exact .inr (h.2.trans hpending)

end KeepsDrivetime

/-! ## Other notices -/

/-- A notice that is replaced is of its own origin. -/
theorem mem_replaceFrame_of_ne {o : Origin} {f : NoticeFrames} {q : List QEntry} {e : QEntry} (he : e ∈ q)
    (ho : e.origin ≠ o) : e ∈ replaceFrame o f q := by
  induction q with
  | nil => cases he
  | cons x xs ih =>
    unfold replaceFrame
    rcases List.mem_cons.mp he with rfl | hxs
    · have hother : waitingOf o e = false := by simp [waitingOf, ho]
      simp [hother]
    · split
      · exact List.mem_cons_of_mem _ hxs
      · exact List.mem_cons_of_mem _ (ih hxs)

theorem setPending_pendDrivetime {k : NoticeType} (hk : k ≠ .drivetime) (q : Queues) (f : Option NoticeFrames) :
    (q.setPending k f).pendDrivetime = q.pendDrivetime := by
  cases k
  case drivetime => exact absurd rfl hk
  all_goals rfl

theorem placeNotice_keepsDrivetime {k : NoticeType} (hk : k ≠ .drivetime) (s : State) :
    KeepsDrivetime s (placeNotice k s) := by
  unfold KeepsDrivetime
  rw [placeNotice_queues]
  unfold Queues.placeNotice
  split
  · split
    · exact ⟨fun e he _ => by simpa using he, setPending_pendDrivetime hk _ _⟩
    · refine ⟨fun e he ho => mem_replaceFrame_of_ne he ?_, rfl⟩
      rw [ho]
      simpa using hk.symm
  · exact ⟨fun e he _ => List.mem_append_left _ he, rfl⟩

theorem noticeIfOn_keepsDrivetime {k : NoticeType} (hk : k ≠ .drivetime) (s : State) :
    KeepsDrivetime s (noticeIfOn k s) := by
  unfold noticeIfOn
  split
  · exact placeNotice_keepsDrivetime hk s
  · exact .refl s

/-! ## The warnings path -/

theorem setAlerts_queues (l : List Alert) (s : State) : (setAlerts l s).run.queues = s.run.queues := by
  unfold setAlerts withdrawIfNone
  split <;> rfl

theorem chimeRequest_queues (p : Pattern) (s : State) : (chimeRequest p s).run.queues = s.run.queues := by
  unfold chimeRequest
  split
  · split <;> rfl
  · rfl

theorem chimeOf_queues (c : Condition) (old now : CondState) (s : State) :
    (chimeOf c old now s).run.queues = s.run.queues := by
  unfold chimeOf
  split
  · split
    · rfl
    · exact chimeRequest_queues .single s
    · exact chimeRequest_queues .triple s
  · rfl

theorem evaluateFrom_queues (s : State) (j : Nat) (base : CondRec → CondRec) :
    (evaluateFrom s j base).1.run.queues = s.run.queues := by
  unfold evaluateFrom
  split
  · rfl
  · split <;> rfl

theorem releaseEvicted_queues (evicted : Option Nat) (s : State) :
    (releaseEvicted evicted s).1.run.queues = s.run.queues := by
  unfold releaseEvicted
  split
  · split
    · exact evaluateFrom_queues s _ unlatch
    · rfl
  · rfl

theorem telltaleIfChanged_keepsDrivetime (before s : State) : KeepsDrivetime s (telltaleIfChanged before s) := by
  unfold telltaleIfChanged
  split
  · exact .refl s
  · exact noticeIfOn_keepsDrivetime (by decide) s

theorem telltaleChange_keepsDrivetime (j : Nat) (old now : CondState) (s : State) :
    KeepsDrivetime s (telltaleChange j old now s).1 := by
  unfold telltaleChange
  split
  · exact .refl s
  · refine .trans (.of_queues_eq ?_) (telltaleIfChanged_keepsDrivetime s _)
    rw [driveLamps_queues, refreshBlink_queues, chimeOf_queues, setAlerts_queues]

theorem takeTask_keepsDrivetime (t : Task) (s : State) : KeepsDrivetime s (takeTask t s).1 := by
  cases t with
  | evaluate j => exact .of_queues_eq (evaluateFrom_queues s j id)
  | release j => exact .of_queues_eq (evaluateFrom_queues s j unlatch)
  | changed j old now =>
    exact (telltaleChange_keepsDrivetime j old now s).trans (.of_queues_eq (releaseEvicted_queues _ _))

theorem cascade_keepsDrivetime (fuel : Nat) (ts : List Task) (s : State) :
    KeepsDrivetime s (cascade fuel ts s) := by
  induction fuel generalizing ts s with
  | zero => exact .refl s
  | succ n ih =>
    cases ts with
    | nil => exact .refl s
    | cons t ts => exact (takeTask_keepsDrivetime t s).trans (ih _ _)

theorem flagChange_keepsDrivetime (f : FlagId) (v : Bool) (s : State) : KeepsDrivetime s (flagChange f v s) := by
  unfold flagChange
  split
  · exact .refl s
  · have hcascade : KeepsDrivetime s (conditionsOnFlag f.number (putFlag s f v)) :=
      .trans (.of_queues_eq (putFlag_queues s f v)) (cascade_keepsDrivetime _ _ _)
    refine .trans ?_ (noticeIfOn_keepsDrivetime (by decide) _)
    split
    · exact hcascade.trans (noticeIfOn_keepsDrivetime (by decide) _)
    · exact hcascade

end Sys2Proof.Machine
end

section
/-! PROOFS. The minute event (R115): what it writes to the slots' signals, F12 and the warnings path, where the
broadcast goes, and the event as a whole. -/

namespace Sys2Proof.Machine

/-! ## The warnings path under an update of another part -/

theorem WarningsOnly.withSignals {s t : State} (h : WarningsOnly s t) (l : List SigEntry) :
    WarningsOnly { s with run.signals := l } { t with run.signals := l } := by
  refine ⟨?_, h.2⟩
  conv_lhs => rw [h.1]

theorem WarningsOnly.putSignal {s t : State} (h : WarningsOnly s t) (i : Nat) (e : SigEntry) :
    WarningsOnly (putSignal s i e) (putSignal t i e) := by
  unfold Machine.putSignal
  rw [h.signals]
  exact h.withSignals _

theorem WarningsOnly.withVtq {s t : State} (h : WarningsOnly s t) (q : List QEntry) :
    WarningsOnly { s with run.queues.vtq := q } { t with run.queues.vtq := q } := by
  refine ⟨?_, h.2⟩
  conv_lhs => rw [h.1]

/-! ## The slots' signals (R36) -/

theorem slotEntry_congr {s t : State} {slot : Nat} (hdtu : t.dtu = s.dtu)
    (hsignal : signalAt t (160 + slot) = signalAt s (160 + slot)) : slotEntry t slot = slotEntry s slot := by
  simp only [slotEntry, slotDriver_eq_boundRecord, hdtu, hsignal]

theorem WarningsOnly.slotEntry {s t : State} (h : WarningsOnly s t) (slot : Nat) :
    slotEntry t slot = slotEntry s slot :=
  slotEntry_congr h.dtu (by rw [signalAt, h.signals, ← signalAt])

/-- The state with entries 161 and 162 written from its slots. -/
def withSlotSignals (s : State) : State :=
  { s with run.signals := updAt (updAt s.run.signals 161 fun _ => slotEntry s 1) 162 fun _ => slotEntry s 2 }

theorem writeSlotSignal_frame {s : State} (hp : powered s = true) (slot : Nat) :
    WarningsOnly (putSignal s (160 + slot) (slotEntry s slot)) (writeSlotSignal slot s) := by
  rw [writeSlotSignal, if_pos hp]
  exact conditionsOnSignal_frame _ _

theorem powered_congr {s t : State} (h : t.mode = s.mode) : powered t = powered s := by
  rw [powered, h, ← powered]

theorem writeSlotSignals_frame {s : State} (hp : powered s = true) :
    WarningsOnly (withSlotSignals s) (writeSlotSignals s) := by
  have hone := writeSlotSignal_frame hp 1
  have hpowered : powered (writeSlotSignal 1 s) = true := (powered_congr hone.mode).trans hp
  have htwo := writeSlotSignal_frame hpowered 2
  have hentry : slotEntry (writeSlotSignal 1 s) 2 = slotEntry s 2 := by
    refine (hone.slotEntry 2).trans (slotEntry_congr (putSignal_dtu s 161 _) ?_)
    rw [signalAt, putSignal_signals, updAt_getD, if_neg (by omega), ← signalAt]
  rw [hentry] at htwo
  exact (hone.putSignal 162 (slotEntry s 2)).trans htwo

/-! ## F12 (R109) -/

/-- F12 is set while slot 1 is empty or its record is not synced. -/
def slotUnsynced (s : State) : Bool :=
  match slotDriver s 1 with
  | some d => !d.synced
  | none => true

theorem refreshUnsynced_frame (s : State) :
    WarningsOnly { s with dtu.unsynced := slotUnsynced s } (refreshUnsynced s) :=
  flagChange_frame .driverUnsynced (slotUnsynced s) s

/-- In STANDBY nothing watches a flag, and no notice is placed. -/
theorem flagChange_eq_putFlag {f : FlagId} {s : State} (hconds : ∀ j, condAt s j = none) (hoff : noticing s = false)
    (v : Bool) : flagChange f v s = putFlag s f v := by
  have hcond (j : Nat) : condAt (putFlag s f v) j = none := by
    rw [condAt, putFlag_tables, ← condAt]
    exact hconds j
  have hwatch : conditionsOnFlag f.number (putFlag s f v) = putFlag s f v := by
    have hnone : watchers (putFlag s f v) (fun c => decide (c.source = .flag f.number)) = [] := by
      simp [watchers, hcond]
    rw [conditionsOnFlag, hnone]
    rfl
  have hquiet (k : NoticeType) : noticeIfOn k (putFlag s f v) = putFlag s f v := by
    rw [noticeIfOn, noticing, putFlag_mode, ← noticing, hoff]
    rfl
  by_cases hsame : getFlag s f = v
  · subst hsame
    rw [flagChange_same rfl]
    cases f <;> rfl
  · unfold flagChange
    simp only [if_neg hsame, hwatch, hquiet, ite_self]

theorem condAt_unpowered {s : State} (h : s.run = Run.unpowered) (j : Nat) : condAt s j = none := by
  have hentry : (List.replicate 64 (Entry.unused : Entry Condition)).getD j .unused = .unused := by
    rw [List.getD_eq_getElem?_getD, List.getElem?_replicate]
    split <;> rfl
  rw [condAt, h]
  exact congrArg Entry.get? hentry

theorem refreshUnsynced_standby {s : State} (hmode : s.mode = .standby) (hrun : s.run = Run.unpowered) :
    refreshUnsynced s = { s with dtu.unsynced := slotUnsynced s } :=
  flagChange_eq_putFlag (condAt_unpowered hrun) (by simp [noticing, hmode]) (slotUnsynced s)

/-! ## The broadcast (R128) -/

theorem placeBroadcast_of_none {s : State} (h : s.mode = .shutdown ∨ s.dtu.params.broadcastId = none) :
    placeBroadcast s = s := by
  unfold placeBroadcast
  split
  · rfl
  · next hid =>
    have hmode : s.mode = .shutdown := h.resolve_right (by simp [hid])
    rw [placeVtq, if_pos hmode]
    rfl

/-- Without a broadcast only the warnings path was written. -/
theorem placeBroadcast_none_frame {s t : State} (h : WarningsOnly s t)
    (hnone : s.mode = .shutdown ∨ s.dtu.params.broadcastId = none) : WarningsOnly s (placeBroadcast t) := by
  rw [← h.mode, ← h.dtu] at hnone
  rw [placeBroadcast_of_none hnone]
  exact h

/-- The entry that a broadcast is placed with. -/
def broadcastEntry (s : State) (prio ident : Nat) : QEntry :=
  newEntry
    ({ kind := .data, prio := prio, ident := ident, target := 0, source := 0
       payload := broadcastPayload s }, none) .broadcast

theorem vtqLatest_of_none {e : QEntry} {q : List QEntry} (hroom : q.length < 8)
    (hnone : ∀ x ∈ q, waitingOf e.origin x = false) : vtqLatest e q = some (vtqInsert e q) := by
  have hfind : q.find? (waitingOf e.origin) = none := by simpa using hnone
  rw [vtqLatest, hfind]
  exact if_pos hroom

theorem placeBroadcast_new {s : State} {ident : Nat} (hmode : s.mode ≠ .shutdown)
    (hid : s.dtu.params.broadcastId = some ident) (hroom : s.run.queues.vtq.length < 8)
    (hnone : ∀ x ∈ s.run.queues.vtq, waitingOf .broadcast x = false) :
    placeBroadcast s =
      { s with
        run.queues.vtq := vtqInsert (broadcastEntry s s.dtu.params.broadcastPriority ident) s.run.queues.vtq } := by
  unfold placeBroadcast
  rw [hid]
  simp only [placeVtq, if_neg hmode, if_true]
  rw [← broadcastEntry, vtqLatest_of_none hroom hnone]

theorem broadcastEntry_congr {s t : State} (h : t.dtu = s.dtu) (prio ident : Nat) :
    broadcastEntry t prio ident = broadcastEntry s prio ident := by
  simp only [broadcastEntry, broadcastPayload, slotStage, slotDriver_eq_boundRecord, h]

/-- A broadcast placed after the warnings path has run carries the frame of the state before. -/
theorem placeBroadcast_new_frame {s t : State} (h : WarningsOnly s t) {prio ident : Nat} (hmode : s.mode ≠ .shutdown)
    (hprio : s.dtu.params.broadcastPriority = prio) (hid : s.dtu.params.broadcastId = some ident)
    (hroom : s.run.queues.vtq.length < 8) (hnone : ∀ x ∈ s.run.queues.vtq, waitingOf .broadcast x = false) :
    WarningsOnly { s with run.queues.vtq := vtqInsert (broadcastEntry s prio ident) s.run.queues.vtq }
      (placeBroadcast t) := by
  rw [← h.mode] at hmode
  rw [← h.dtu] at hid hprio
  rw [← h.vtq] at hroom hnone ⊢
  rw [placeBroadcast_new hmode hid hroom hnone, hprio, broadcastEntry_congr h.dtu]
  exact h.withVtq _

/-- All that placing an entry in the VTQ can do. -/
theorem placeVtq_cases (e : QEntry) (replaces : Bool) (s : State) :
    placeVtq e replaces s = replyLeft e.origin s ∨ (∃ q, placeVtq e replaces s = { s with run.queues.vtq := q }) ∨
      placeVtq e replaces s = overflow e.origin s := by
  unfold placeVtq
  split
  · exact .inl rfl
  · generalize (if replaces = true then vtqLatest e s.run.queues.vtq else vtqNew e s.run.queues.vtq) = placed
    cases placed with
    | some q => exact .inr (.inl ⟨q, rfl⟩)
    | none => exact .inr (.inr rfl)

/-- A broadcast changes the VTQ, or it is dropped, which sets F4 outside SHUTDOWN. -/
theorem placeBroadcast_cases (s : State) :
    (∃ q, placeBroadcast s = { s with run.queues.vtq := q }) ∨
      placeBroadcast s = flagChange .relayOverflow true s := by
  unfold placeBroadcast
  split
  · exact .inl ⟨s.run.queues.vtq, rfl⟩
  · rcases placeVtq_cases _ true s with hdropped | ⟨q, hplaced⟩ | hfull
    · exact .inl ⟨s.run.queues.vtq, hdropped⟩
    · exact .inl ⟨q, hplaced⟩
    · exact .inr hfull

theorem placeBroadcast_dtu (s : State) : (placeBroadcast s).dtu = s.dtu := by
  rcases placeBroadcast_cases s with ⟨q, h⟩ | h
  · rw [h]
  · rw [h]
    exact (flagChange_frame .relayOverflow true s).dtu

theorem placeBroadcast_keepsDrivetime (s : State) : KeepsDrivetime s (placeBroadcast s) := by
  rcases placeBroadcast_cases s with ⟨q, h⟩ | h
  · rw [h]
    exact ⟨fun _ he _ => he, rfl⟩
  · rw [h]
    exact flagChange_keepsDrivetime .relayOverflow true s

/-! ## The whole event (R115) -/

/-- The Drive-Time state after a minute event, F12 with it. -/
def minuteFinal (s : State) : Dtu :=
  { minuteDtu s with unsynced := slotUnsynced { s with dtu := minuteDtu s } }

theorem minuteEvent_standby {s : State} (hmode : s.mode = .standby) (hrun : s.run = Run.unpowered) :
    minuteEvent s = { s with dtu := minuteFinal s } := by
  have hoff : powered s = false := by simp [powered, hmode]
  unfold minuteEvent
  dsimp only
  rw [if_neg (Bool.eq_false_iff.mp hoff)]
  exact refreshUnsynced_standby (s := { s with dtu := minuteDtu s }) hmode hrun

/-- Steps 1 to 6 of a minute event of a powered run domain. -/
def minuteOutputs (s : State) : State :=
  stageChanges s (writeSlotSignals (refreshUnsynced { s with dtu := minuteDtu s }))

theorem stageChanges_frame (before s : State) : WarningsOnly s (stageChanges before s) :=
  (stageChange_frame 1 _ s).trans (stageChange_frame 2 _ _)

theorem minuteEvent_powered {s : State} (h : s.mode ≠ .standby) :
    minuteEvent s = placeBroadcast (noticeIfOn .drivetime (minuteOutputs s)) :=
  if_pos (decide_eq_true h)

theorem minuteOutputs_frame {s : State} (h : s.mode ≠ .standby) :
    WarningsOnly (withSlotSignals { s with dtu := minuteFinal s }) (minuteOutputs s) := by
  have hunsynced : WarningsOnly { s with dtu := minuteFinal s } (refreshUnsynced { s with dtu := minuteDtu s }) :=
    refreshUnsynced_frame _
  have hon : powered (refreshUnsynced { s with dtu := minuteDtu s }) = true := by
    rw [powered, hunsynced.mode]
    simpa using h
  refine .trans ?_ (stageChanges_frame s _)
  refine .trans ?_ (writeSlotSignals_frame hon)
  unfold withSlotSignals
  rw [hunsynced.slotEntry, hunsynced.slotEntry, hunsynced.signals]
  exact hunsynced.withSignals _

theorem minuteNoticed_frame {s : State} (h : s.mode ≠ .standby) :
    WarningsOnly (withSlotSignals { s with dtu := minuteFinal s }) (noticeIfOn .drivetime (minuteOutputs s)) :=
  (minuteOutputs_frame h).trans (noticeIfOn_frame .drivetime _)

theorem minuteEvent_dtu {s : State} (h : s.mode = .standby → s.run = Run.unpowered) :
    (minuteEvent s).dtu = minuteFinal s := by
  by_cases hmode : s.mode = .standby
  · rw [minuteEvent_standby hmode (h hmode)]
  · rw [minuteEvent_powered hmode, placeBroadcast_dtu]
    exact (minuteNoticed_frame hmode).dtu

theorem minuteEvent_noticed {s : State} (h : noticing s = true) : NoticeStands .drivetime (minuteEvent s) := by
  have hmode : s.mode ≠ .standby := by
    intro hstandby
    simp [noticing, hstandby] at h
  have hnoticing : noticing (minuteOutputs s) = true := by
    rw [noticing, (minuteOutputs_frame hmode).mode]
    exact h
  rw [minuteEvent_powered hmode]
  exact (placeBroadcast_keepsDrivetime _).noticeStands (placeBroadcast_dtu _) (noticeIfOn_stands hnoticing)

/-! ## The statement of R116 to R119 -/

theorem minuteFinal_eq {s : State} (h : LogLaw s.dtu) :
    minuteFinal s =
      { (minuteCredited s).appendAll (minuteNews s) with
        unsynced := slotUnsynced { s with dtu := minuteFinal s } } := by
  have hslot : slotUnsynced { s with dtu := minuteFinal s } = slotUnsynced { s with dtu := minuteDtu s } := by
    simp only [slotUnsynced, slotDriver_eq_boundRecord]
    rfl
  rw [hslot, ← minuteDtu_eq h, minuteFinal]

theorem minuteFinal_drivers {s : State} (h : LogLaw s.dtu) :
    (minuteFinal s).drivers = s.dtu.drivers.map (minuteRecord s ((s.dtu.minutes + 1) % 16777216)) := by
  rw [minuteFinal_eq h]
  rfl

theorem minuteFinal_boundRecord {s : State} (h : LogLaw s.dtu) (slot : Nat) :
    (minuteFinal s).boundRecord slot = (minuteCredited s).boundRecord slot := by
  rw [minuteFinal_eq h]
  rfl

/-- What `minuteNews` says of a slot, read off the state after the event. -/
theorem minuteNewsOf_eq {s t : State} (h : LogLaw s.dtu) (ht : t.dtu = minuteFinal s) (slot seq : Nat) :
    minuteNewsOf s slot seq =
      activityNews (slotDriver s slot) (slotDriver t slot) slot seq ((s.dtu.minutes + 1) % 16777216) := by
  rw [minuteNewsOf, slotDriver_eq_boundRecord t, ht, minuteFinal_boundRecord h]

theorem minuteFinal_params {s : State} (h : LogLaw s.dtu) : (minuteFinal s).params = s.dtu.params := by
  rw [minuteFinal_eq h]
  rfl

theorem dtu_after_minute {s t : State} (h : LogLaw s.dtu) (ht : t.dtu = minuteFinal s) :
    t.dtu =
      { s.dtu with
        minutes := (s.dtu.minutes + 1) % 16777216, timer := 60000, drivers := t.dtu.drivers
        log := (s.dtu.log ++ minuteNews s).drop (s.dtu.log.length + (minuteNews s).length - 64)
        seq := (s.dtu.seq + (minuteNews s).length) % 65536, unsynced := slotUnsynced t } := by
  have hslot : slotUnsynced t = slotUnsynced { s with dtu := minuteFinal s } := by
    simp only [slotUnsynced, slotDriver_eq_boundRecord, ht]
  rw [hslot, ht]
  conv_lhs => rw [minuteFinal_eq h]
  conv_rhs => rw [minuteFinal_drivers h]
  rfl

/-- Settles O44: the unit's own part from the record's credit and the log's append, the rest from the frames of
the event's steps; in STANDBY the warnings path has nothing to write. -/
theorem minuteEventCreditsEveryRecord : Obligations.MinuteEventCreditsEveryRecord := by
  intro s hdue hdrivers hlog hpower
  have hdtu : (minuteEvent s).dtu = minuteFinal s := minuteEvent_dtu hpower.1
  have hmapped := (congrArg Dtu.drivers hdtu).trans (minuteFinal_drivers hlog)
  have hparams : (minuteEvent s).dtu.params = s.dtu.params := (congrArg Dtu.params hdtu).trans (minuteFinal_params hlog)
  have hwritten (hmode : s.mode ≠ .standby) :
      WarningsOnly (withSlotSignals { s with dtu := (minuteEvent s).dtu })
        (noticeIfOn .drivetime (minuteOutputs s)) := by
    rw [hdtu]
    exact minuteNoticed_frame hmode
  obtain ⟨hok, _, _, _, _, hdistinct, _⟩ := hdrivers
  refine ⟨minuteEvent s, congrArg Host.Outcome.next (after_of_not_due minuteEvent hdue), ⟨?unit, ?count, ?record⟩,
    ?standby, fun hmode => ⟨minuteEvent_noticed, ?frame, ?broadcast⟩⟩
  case unit =>
    have hunit := dtu_after_minute hlog hdtu
    simp only [minuteNews, minuteNewsOf_eq hlog hdtu] at hunit
    exact hunit
  case count => rw [hmapped, List.length_map]
  case record =>
    intro i d hd
    refine ⟨minuteRecord s _ d, by rw [hmapped, List.getElem?_map, hd]; rfl, ?_, minuteRecord_credited s _ d,
      minuteRecord_digest s _ d, minuteRecord_lastPresent_bound _, minuteRecord_lastPresent_unbound _,
      minuteRecord_assessed hok _ d⟩
    rw [minuteRecord_activity, minuteRecord_inferred]
    exact chosenActivity_spec hdistinct d
  case standby =>
    intro hmode
    rw [hdtu]
    exact minuteEvent_standby hmode (hpower.1 hmode)
  case frame =>
    intro hsilent
    have hframe := placeBroadcast_none_frame (hwritten hmode) (hsilent.imp_right (congrArg _ hparams).trans)
    rw [← minuteEvent_powered hmode] at hframe
    exact hframe
  case broadcast =>
    intro ident hsounding hid hroom hnone
    have hframe := placeBroadcast_new_frame (hwritten hmode) hsounding (congrArg _ hparams)
      ((congrArg _ hparams).trans hid) hroom hnone
    rw [← minuteEvent_powered hmode] at hframe
    exact hframe

end Sys2Proof.Machine
end

section
/-! PROOFS. The CRC of a frame (R145): the eight steps of one byte, the residue 0x00 of a body followed by its
register, and the check at EOD, which compares the register of a framed body. -/

namespace Sys2Proof.Machine

/-! ## The register -/

theorem crcByte_eq_iterate (r b : Byte) : crcByte r b = crcStep^[8] (r ^^^ b) := rfl

@[simp] theorem crcStep_zero : crcStep 0#8 = 0#8 := rfl

/-- Adding the register to itself leaves 0x00, and nothing drops out of 0x00. -/
@[simp] theorem crcByte_self (r : Byte) : crcByte r r = 0#8 := by
  rw [crcByte_eq_iterate, BitVec.xor_self, Function.iterate_fixed crcStep_zero]

theorem crc8_append_singleton (bs : List Byte) (b : Byte) : crc8 (bs ++ [b]) = crcByte (crc8 bs) b :=
  List.foldl_concat ..

theorem crc8_append_crc8 (bs : List Byte) : crc8 (bs ++ [crc8 bs]) = 0#8 := by
  rw [crc8_append_singleton, crcByte_self]

/-- The worked body of section 8.2. -/
theorem crc8_worked_body : crc8 [0x01#8, 0x00#8] = 0xE9#8 := by
  have hfirst : crcByte 0#8 0x01#8 = 0x2F#8 := by decide
  have hsecond : crcByte 0x2F#8 0x00#8 = 0xE9#8 := by decide
  rw [crc8, List.foldl_cons, List.foldl_cons, List.foldl_nil, hfirst, hsecond]

/-! ## The check at EOD (R147) -/

theorem headerIsComplete_iff (body : List Byte) :
    headerIsComplete body = true ↔
      2 ≤ body.length ∧ ((headerOf body).kind.addressed = true → 3 ≤ body.length) := by
  unfold headerIsComplete headerBytes
  split
  case isTrue haddressed => simp [haddressed]
  case isFalse haddressed => simp [haddressed]

/-- A complete header, at most twelve body bytes and no stray bits: nothing for the framing check to find. -/
theorem framed_of_headerIsComplete {body : List Byte} (hheader : headerIsComplete body = true)
    (hlength : body.length ≤ 12) (c : Byte) :
    ¬ ((0 : Nat) ≠ 0 ∨ (body ++ [c]).length < 3 ∨ 13 < (body ++ [c]).length ∨
      ((headerOf body).kind.addressed = true ∧ (body ++ [c]).length < 4)) := by
  obtain ⟨htwo, hthree⟩ := (headerIsComplete_iff body).1 hheader
  rw [List.length_append, List.length_singleton]
  rintro (hstray | hshort | hlong | ⟨haddressed, hshort⟩)
  · exact hstray rfl
  · omega
  · omega
  · have := hthree haddressed
    omega

theorem endOfDataFault_eq_crc_iff {body : List Byte} (hheader : headerIsComplete body = true)
    (hlength : body.length ≤ 12) (c : Byte) (binding : Option Binding) :
    endOfDataFault (body ++ [c]) 0 binding = some .crc ↔ c ≠ crc8 body := by
  simp only [endOfDataFault, List.dropLast_concat, List.getLastD_concat,
    if_neg (framed_of_headerIsComplete hheader hlength c)]
  split
  case isTrue hbad => exact iff_of_true rfl hbad
  case isFalse hgood =>
    refine iff_of_false ?_ hgood
    split
    · split <;> simp
    · simp

/-! ## The statement of R145 -/

/-- Settles O7: one byte is eight steps, the residue is the register added to itself, and a framed body meets no
check before that of the CRC. -/
theorem crcIsComputedSentAndChecked : Obligations.CrcIsComputedSentAndChecked :=
  ⟨rfl, fun bs b => (crc8_append_singleton bs b).trans (crcByte_eq_iterate _ b), fun _ => rfl,
    fun _ c binding hheader hlength => endOfDataFault_eq_crc_iff hheader hlength c binding,
    crc8_append_crc8, crc8_worked_body⟩

end Sys2Proof.Machine
end

section
/-! PROOFS. The Table Store and the samples of one command: a WRITE ENTRY that a wave admits is carried out
before the next event of the same wave. -/

namespace Sys2Proof.Machine

/-- WRITE ENTRY of six zero bytes into group 0 of route entry 0, to node address 0. -/
def zeroRouteFrame : Frame :=
  { kind := .cmd, prio := 0, ident := 0, target := 0, source := 1
    payload := 0x11#8 :: List.replicate 8 0#8 }

/-- A display interface in SERVICE that has assembled this frame, one sample before its EOD. -/
def beforeEod : State :=
  { State.reset with
    mode := .service
    run := { Run.initial with
      dli.iface :=
        { line := { filter := { count := 0, dominant := false }, stretch := 59, cell := 94, idle := false }
          rx := .receiving, buffer := frameBytes zeroRouteFrame, bits := 104, binding := some .mu } } }

/-- 21 recessive samples bring the EOD and the turn of the IFR. -/
def eodAndTurn : Wave := [(false, 21)]

/-- At the EOD the command is admitted; before the turn it is carried out. -/
theorem beforeEod_writes :
    ∃ t, exec (.frameAccepted .display eodAndTurn) beforeEod = .next t ∧ t.store ≠ beforeEod.store := by
  refine ⟨_, rfl, ?_⟩
  decide +kernel

/-- Refutes O49: the WRITE ENTRY that the EOD admits is in hand when the next event settles, and not yet in
the state that the command meets. -/
theorem not_ownedStateHasOneWriter : ¬ Obligations.OwnedStateHasOneWriter := by
  intro h
  obtain ⟨t, hexec, hstore⟩ := beforeEod_writes
  obtain ⟨-, cmd, hphase, -⟩ := (h _ _ t hexec).1 hstore
  exact absurd hphase (by decide)

end Sys2Proof.Machine
end

section
/-! PROOFS. The block as a whole: the front command, the passing of a millisecond, and the reset. -/

namespace Sys2Proof.Machine

/-- Settles O29. -/
theorem keepAliveResetFromAnyState : Obligations.KeepAliveResetFromAnyState := by
  intro s straps hdue
  change Host.Outcome.next (after (keepAliveReset straps.val) s) = _
  rw [after_of_not_due _ hdue]
  rfl

/-! ## The empty queue -/

theorem step_cons (c : Instr) (s : State) : step { s with pending := c :: s.pending } = exec c s := rfl

theorem step_nil {s : State} (hempty : s.pending = []) : step s = .next (idle s) := by
  simp only [step, hempty]

theorem idle_of_due {s : State} (hdue : due s = true) : idle s = settle s := by simp [idle, hdue]

theorem idle_of_not_due {s : State} (hdue : due s = false) : idle s = tick s := by simp [idle, hdue]

theorem rest_displaySamplesPerMilli (d : Dli) :
    d.rest Config.displaySamplesPerMilli = if d.sending = none then { d with recessive := 120 } else d := by
  cases hsending : d.sending with
  | some _ => simp [Dli.rest, hsending]
  | none =>
    have hmilli : min Config.wireGap (d.recessive + Config.displaySamplesPerMilli) = 120 := by
      have h120 : Config.wireGap = 120 := rfl
      have hlong : 120 ≤ Config.displaySamplesPerMilli := by norm_num [Config.displaySamplesPerMilli]
      omega
    simp [Dli.rest, hsending, hmilli]

theorem tick_standby {s : State} (h : s.mode = .standby) : (tick s).run = s.run := by
  simp [tick, powered, h]

theorem tick_powered {s : State} (h : s.mode ≠ .standby) : (tick s).run = tickRun s.run := by
  simp [tick, powered, h]

/-- Settles O47. -/
theorem stepTakesTheFrontCommand : Obligations.StepTakesTheFrontCommand := by
  refine ⟨step_cons, fun s hempty hdue => ?_, fun s hempty hdue => ⟨tick s, ?_, rfl, rfl, rfl, rfl, rfl, rfl,
    rfl, hempty, ?_⟩⟩
  · rw [step_nil hempty, idle_of_due hdue]
  · rw [step_nil hempty, idle_of_not_due hdue]
  · by_cases hmode : s.mode = .standby
    · simp [tick_standby hmode, hmode]
    · rw [tick_powered hmode]
      refine ⟨rfl, rfl, rfl, rfl, rfl, ?_, ?_, fun h => absurd h hmode,
        fun _ => rest_displaySamplesPerMilli _⟩ <;> simp [tickRun]

/-! ## The reset state -/

theorem reset_lamps {n : Nat} {r : LampRec} (h : State.reset.run.tu.lamps[n]? = some r) :
    r = LampRec.initial := by
  have hmem : r ∈ List.replicate 32 LampRec.initial := List.mem_of_getElem? h
  exact (List.mem_replicate.mp hmem).2

theorem reset_channels {c : Channel} (h : c ∈ State.reset.run.gu.channels) : c = Channel.initial := by
  have hmem : c ∈ List.replicate 6 Channel.initial := h
  exact (List.mem_replicate.mp hmem).2

theorem getD_replicate_self {α : Type} (n k : Nat) (a : α) : (List.replicate n a).getD k a = a := by
  simp only [List.getD_eq_getElem?_getD, List.getElem?_replicate]
  split <;> rfl

theorem reset_condRec (j : Nat) : condRec State.reset j = CondRec.initial := getD_replicate_self 64 j _

theorem reset_descAt (k : Nat) : descAt State.reset k = none := by
  have h : State.reset.run.tables.signals.getD k .unused = Entry.unused := getD_replicate_self _ k _
  rw [descAt, entryAt, h]; rfl

theorem reset_gaugeAt (n : Nat) : gaugeAt State.reset n = none := by
  have h : State.reset.run.tables.gauges.getD n .unused = Entry.unused := getD_replicate_self _ n _
  rw [gaugeAt, entryAt, h]; rfl

theorem reset_shapeLaw : ShapeLaw State.reset :=
  ⟨List.length_replicate, List.length_replicate, List.length_replicate, List.length_replicate,
    List.length_replicate⟩

theorem reset_driverLaw : DriverLaw State.reset.dtu := by
  refine ⟨by decide, ?_⟩
  simp [State.reset, Dtu.initial]

theorem reset_queueLaw : QueueLaw State.reset := by
  simp [QueueLaw, State.reset, Run.unpowered, Run.initial, Queues.initial, originCount, PriorityOrder]

theorem reset_latchLaw : LatchLaw State.reset :=
  ⟨fun j _ h => by simp [reset_condRec, CondRec.initial] at h, fun _ j _ => by rw [reset_condRec]; rfl⟩

theorem never_within (low high : Int) : SigEntry.initial.within low high := by
  simp [SigEntry.within, SigEntry.initial]

theorem reset_signalLaw : SignalLaw State.reset :=
  ⟨fun k d h => by simp [reset_descAt] at h, never_within _ _, never_within _ _, never_within _ _⟩

theorem reset_flagLaw : FlagLaw State.reset :=
  ⟨by decide, by decide, by decide, by decide, by decide, by decide, by decide, by decide⟩

theorem reset_supplyLaw : SupplyLaw State.reset := by
  refine ⟨fun h => by simp [supplyFault, State.reset, Run.unpowered, Run.initial, Flags.initial] at h,
    fun _ c hc => ?_, fun c hc h => ?_, List.Pairwise.nil, fun h => ?_, fun h => ?_⟩
  · simp [reset_channels hc, Channel.initial]
  · simp [reset_channels hc, Channel.initial] at h
  · rfl
  · simp [State.reset] at h

theorem reset_lampLaw : LampLaw State.reset := by
  intro n r hr
  obtain rfl := reset_lamps hr
  simp [LampRec.initial, LampLit, State.reset, Run.unpowered, Run.initial, Tu.initial]

theorem reset_pointerLaw : PointerLaw State.reset :=
  ⟨fun c hc => by simp [reset_channels hc, Channel.initial], fun n g h => by simp [reset_gaugeAt] at h⟩

/-- Settles O50: each law on the reset state by its own lemma. -/
theorem resetKeepsEveryLaw : Obligations.ResetKeepsEveryLaw := by
  refine ⟨rfl, rfl, rfl, rfl, rfl, rfl, rfl, rfl, rfl, rfl, rfl, rfl, rfl, rfl, reset_shapeLaw,
    ⟨fun _ => rfl, fun _ => rfl⟩, ⟨fun i h => (by cases h), fun h => (by cases h)⟩, reset_driverLaw, ?_,
    reset_queueLaw, ?_, reset_latchLaw, reset_signalLaw, reset_flagLaw, reset_supplyLaw, reset_lampLaw,
    reset_pointerLaw⟩
  · simp [LogLaw, State.reset, Dtu.initial]
  · simp [AlertLaw, State.reset, Run.unpowered, Run.initial, Tu.initial]

end Sys2Proof.Machine
end

section
/-! PROOFS. What a step is made of: the small changes of state, and the relations that each of them keeps.
A law of the state is one such relation, `P s → P t`; that it is kept by every step is proved once, for all of
them, from what the small changes do. -/

namespace Sys2Proof.Machine

/-! ## Small changes -/

/-- `s` with other values in the places that no law of the state speaks of. -/
def State.withAside (s : State) (timer : Option Nat) (din0 : Din0) (minute : Nat) (r : Run) : State :=
  { s with
    shutdownTimer := timer, din0 := din0, dtu.timer := minute
    run := { s.run with
      vli := r.vli, dli := r.dli, mismatch := r.mismatch
      gu := { s.run.gu with timer := r.gu.timer }
      tu := { s.run.tu with blink := r.tu.blink, blinkTimer := r.tu.blinkTimer, loadTimer := r.tu.loadTimer }
      iu := { r.iu with inputs := s.run.iu.inputs }
      mc := { r.mc with disabledCount := s.run.mc.disabledCount }
      mu := { r.mu with phase := s.run.mu.phase, busyQueued := s.run.mu.busyQueued } } }

/-- `t` differs from `s` at most in places that no law of the state speaks of. -/
def Aside (s t : State) : Prop := t = s.withAside t.shutdownTimer t.din0 t.dtu.timer t.run

theorem Aside.eq {s t : State} (h : Aside s t) : t = s.withAside t.shutdownTimer t.din0 t.dtu.timer t.run := h

theorem Aside.mode {s t : State} (h : Aside s t) : t.mode = s.mode := (congrArg (fun u : State => u.mode) h.eq).trans rfl
theorem Aside.phase {s t : State} (h : Aside s t) : t.phase = s.phase := (congrArg (fun u : State => u.phase) h.eq).trans rfl
theorem Aside.nodeAddress {s t : State} (h : Aside s t) : t.nodeAddress = s.nodeAddress := (congrArg (fun u : State => u.nodeAddress) h.eq).trans rfl
theorem Aside.store {s t : State} (h : Aside s t) : t.store = s.store := (congrArg (fun u : State => u.store) h.eq).trans rfl
theorem Aside.pending {s t : State} (h : Aside s t) : t.pending = s.pending := (congrArg (fun u : State => u.pending) h.eq).trans rfl
theorem Aside.flags {s t : State} (h : Aside s t) : t.run.flags = s.run.flags := (congrArg (fun u : State => u.run.flags) h.eq).trans rfl
theorem Aside.tables {s t : State} (h : Aside s t) : t.run.tables = s.run.tables := (congrArg (fun u : State => u.run.tables) h.eq).trans rfl
theorem Aside.queues {s t : State} (h : Aside s t) : t.run.queues = s.run.queues := (congrArg (fun u : State => u.run.queues) h.eq).trans rfl
theorem Aside.signals {s t : State} (h : Aside s t) : t.run.signals = s.run.signals := (congrArg (fun u : State => u.run.signals) h.eq).trans rfl
theorem Aside.channels {s t : State} (h : Aside s t) : t.run.gu.channels = s.run.gu.channels := (congrArg (fun u : State => u.run.gu.channels) h.eq).trans rfl
theorem Aside.cu {s t : State} (h : Aside s t) : t.run.cu = s.run.cu := (congrArg (fun u : State => u.run.cu) h.eq).trans rfl
theorem Aside.lamps {s t : State} (h : Aside s t) : t.run.tu.lamps = s.run.tu.lamps := (congrArg (fun u : State => u.run.tu.lamps) h.eq).trans rfl
theorem Aside.lampCheck {s t : State} (h : Aside s t) : t.run.tu.lampCheck = s.run.tu.lampCheck := (congrArg (fun u : State => u.run.tu.lampCheck) h.eq).trans rfl
theorem Aside.alerts {s t : State} (h : Aside s t) : t.run.tu.alerts = s.run.tu.alerts := (congrArg (fun u : State => u.run.tu.alerts) h.eq).trans rfl
theorem Aside.chimeState {s t : State} (h : Aside s t) : t.run.tu.chime = s.run.tu.chime := (congrArg (fun u : State => u.run.tu.chime) h.eq).trans rfl
theorem Aside.inputs {s t : State} (h : Aside s t) : t.run.iu.inputs = s.run.iu.inputs := (congrArg (fun u : State => u.run.iu.inputs) h.eq).trans rfl
theorem Aside.disabledCount {s t : State} (h : Aside s t) : t.run.mc.disabledCount = s.run.mc.disabledCount := (congrArg (fun u : State => u.run.mc.disabledCount) h.eq).trans rfl
theorem Aside.muPhase {s t : State} (h : Aside s t) : t.run.mu.phase = s.run.mu.phase := (congrArg (fun u : State => u.run.mu.phase) h.eq).trans rfl
theorem Aside.busyQueued {s t : State} (h : Aside s t) : t.run.mu.busyQueued = s.run.mu.busyQueued := (congrArg (fun u : State => u.run.mu.busyQueued) h.eq).trans rfl
theorem Aside.dtu {s t : State} (h : Aside s t) : t.dtu = { s.dtu with timer := t.dtu.timer } :=
  (congrArg State.dtu h.eq).trans rfl

/-- The flags that report nothing held elsewhere in the run domain. -/
def FlagId.free : FlagId → Bool
  | .vlinkStuck | .relayOverflow | .speedMismatch | .addressConflict | .driverUnsynced => true
  | .displayLost | .gatewayLost | .tachoLost | .lampFault | .gaugeFault | .configFault | .underVoltage
  | .overVoltage | .service => false

/-- A change of the chime that the laws of F9, of SHUTDOWN and of the queue's order allow. -/
def ChimeStep (s : State) (c : Chime) : Prop :=
  (ChimeOrder s.run.tu.chime.queue → ChimeOrder c.queue) ∧
    (s.run.flags.underVoltage = true → s.run.tu.chime.playing = none → c.playing = none) ∧
    (s.mode = .shutdown → s.run.tu.chime = Chime.initial → c = Chime.initial)

/-- An Alert List entry with other times alone. -/
def SameAlert (a b : Alert) : Prop := b.cond = a.cond ∧ b.acked = a.acked ∧ b.severity = a.severity

/-- A new copy or broadcast for the VTQ. -/
def Relayed (e : QEntry) : Prop :=
  e.inFlight = false ∧ (e.origin = .broadcast ∨ ∃ n, e.origin = .route n)

/-- The head of the VTQ, begun or gone on with. -/
def HeadStep (e e' : QEntry) : Prop :=
  e'.origin = e.origin ∧ e'.frame0 = e.frame0 ∧ (e.inFlight = true → e'.inFlight = true)

/-- The queues that hold REPLYs are as they were. -/
def SameReplies (s t : State) : Prop :=
  t.run.queues.vtq = s.run.queues.vtq ∧ repliesOf t.run.queues.duq = repliesOf s.run.queues.duq

/-- An entry that the model writes into the internal signals 160 to 162. -/
def InternalEntry (s : State) (k : Nat) (e : SigEntry) : Prop :=
  (k = 160 ∧ ∃ v, e = supplyEntry v) ∨ ∃ slot, (slot = 1 ∨ slot = 2) ∧ k = 160 + slot ∧ e = slotEntry s slot

/-- An entry that a frame or an expiry writes for descriptor `d` of signal `i`. -/
def FrameEntry (s : State) (i : Nat) (d : SigDesc) (e : SigEntry) : Prop :=
  descAt s i = some d ∧ ((∃ payload, e = extractSignal d payload (signalAt s i)) ∨
    e = staleEntry d (signalAt s i))

/-- What the road-speed interlock reads is as it was, but for the internal signals. -/
def SameInterlock (s t : State) : Prop :=
  t.mode = s.mode ∧ t.dtu.params = s.dtu.params ∧ t.run.iu.inputs = s.run.iu.inputs ∧
    t.run.tables.inputs = s.run.tables.inputs ∧ ∀ k, k ≤ 159 → signalAt t k = signalAt s k

/-- A change of the slots that a card event or a new working record makes. -/
def Rebound (u t : Dtu) : Prop :=
  ∃ slot, (slot = 1 ∨ slot = 2) ∧ (t = unbind slot u ∨ ∃ d, t = cardPresent slot d u)

/-- The Drive-Time state after a sync load (R122). -/
def loadedDtu (slot digest cont daily : Nat) (splitDone : Bool) (t : Dtu) : Dtu :=
  let u := updRecord digest (loadRecord t.params cont daily splitDone) t
  match recordOf u digest with
  | some d => logDriver .syncLoad (some slot) d u
  | none => u

/-- A channel's change under a supply that is or is not at fault. -/
def ChannelStep (supply : Bool) (c c' : Channel) : Prop :=
  (supply = true → c.state.freezable = false → c'.state.freezable = false) ∧
    (supply = false → c.state ≠ .frozen → c'.state ≠ .frozen) ∧
    ((c.state = .frozen → c.resume.isSome = true) → c'.state = .frozen → c'.resume.isSome = true)

/-- A channel is in FAULT. -/
def anyFault (l : List Channel) : Bool := l.any fun c => decide (c.state = .fault)

/-- A lamp is OPEN or SHORT. -/
def anyLoadFault (l : List LampRec) : Bool := l.any fun r => decide (r.load ≠ .ok)

/-- What the conditions and the Alert List have made of a lamp. -/
def SameView (r r' : LampRec) : Prop :=
  r'.view = r.view ∧ r'.requested = r.requested ∧ r'.alarmBlink = r.alarmBlink

/-- The lists agree place by place up to a relation. -/
def Pointwise {α : Type} (p : α → α → Prop) (l l' : List α) : Prop :=
  l'.length = l.length ∧ ∀ (n : Nat) (a' : α), l'[n]? = some a' → ∃ a, l[n]? = some a ∧ p a a'

/-- A route as it was, but for its timer. -/
def SameRoute (r r' : LiveRoute) : Prop := r'.cfg = r.cfg ∧ r'.fresh = r.fresh

/-- R9's change of a route. -/
def expiredRoute (r : LiveRoute) : LiveRoute := { r with fresh := .stale, timer := none }

/-- A relation that each small change keeps. -/
structure Core (R : State → State → Prop) : Prop where
  refl : ∀ s, R s s
  trans : ∀ {s t u}, R s t → R t u → R s u
  aside : ∀ {s t}, Aside s t → R s t
  freeFlag : ∀ {f : FlagId}, f.free = true → ∀ v s, R s (putFlag s f v)
  notice : ∀ k s, R s (placeNotice k s)
  watch : ∀ p s, R s (runTasks (watchers s p) s)
  delay : ∀ {s j c r}, condAt s j = some c → delayExpired s j c = some r → R s (changeCondition j r s)
  acknowledge : ∀ found s, R s (acknowledge found s)
  chime : ∀ {s c}, ChimeStep s c → R s { s with run.tu.chime := c }
  alertTimes : ∀ {f : Alert → Alert}, (∀ a, SameAlert a (f a)) → ∀ s,
    R s { s with run.tu.alerts := s.run.tu.alerts.map f }
  condTimes : ∀ s, R s { s with run.cu.recs := s.run.cu.recs.map tickCond }
  relayed : ∀ {s e q} (replaces : Bool), Relayed e →
    (if replaces then vtqLatest e s.run.queues.vtq else vtqNew e s.run.queues.vtq) = some q →
    R s { s with run.queues.vtq := q }
  drq : ∀ {s q}, (s.run.queues.drq.length ≤ 24 → q.length ≤ 24) → R s { s with run.queues.drq := q }
  vtqHead : ∀ {s e rest e'}, s.run.queues.vtq = e :: rest → HeadStep e e' →
    R s { s with run.queues.vtq := e' :: rest }
  vtqPopped : ∀ {s e rest}, s.run.queues.vtq = e :: rest →
    R s (replyLeft e.origin { s with run.queues.vtq := rest })
  duqHead : ∀ {s e rest e'}, s.run.queues.duq = e :: rest → e'.origin = e.origin →
    R s { s with run.queues.duq := e' :: rest }
  duqPopped : ∀ {s e rest}, s.run.queues.duq = e :: rest →
    R s (replyLeft e.origin { s with run.queues := s.run.queues.duqRemoveHead })
  emptied : ∀ s, R s (emptyQueues s)
  muPhase : ∀ {s p}, s.run.mu.phase ≠ .replyQueued → p ≠ .replyQueued → R s { s with run.mu.phase := p }
  replyAwaited : ∀ s, R s { s with run.mu.phase := .replyQueued }
  replyDropped : ∀ {s t}, s.run.mu.phase ≠ .replyQueued → SameReplies s t → R s t →
    R s { t with run.mu.phase := .idle, run.mu.cmd := none }
  replyVtq : ∀ {s e q}, s.run.mu.phase ≠ .replyQueued → e.origin = .resultReply → e.inFlight = false →
    vtqNew e s.run.queues.vtq = some q → R s { s with run.mu.phase := .replyQueued, run.queues.vtq := q }
  replyDuq : ∀ {s e}, s.run.mu.phase ≠ .replyQueued → e.origin = .resultReply →
    R s { s with run.mu.phase := .replyQueued, run.queues.duq := s.run.queues.duq ++ [e] }
  busyPlaced : ∀ {s e}, s.run.mu.busyQueued = false → e.origin = .busyReply →
    R s { s with run.queues.duq := s.run.queues.duq ++ [e], run.mu.busyQueued := true }
  internal : ∀ {s k e}, InternalEntry s k e → R s (putSignal s k e)
  rebound : ∀ {s t}, Rebound s.dtu t → R s { s with dtu := t }
  minute : ∀ s, R s { s with dtu := minuteDtu s }
  loaded : ∀ {cont daily} slot digest splitDone s, cont ≤ daily → daily ≤ 1440 →
    R s { s with dtu := loadedDtu slot digest cont daily splitDone s.dtu }
  channels : ∀ {s l v}, Pointwise (ChannelStep (supplyFault s)) s.run.gu.channels l →
    (s.run.flags.gaugeFault = anyFault s.run.gu.channels → v = anyFault l) →
    R s { s with run.gu.channels := l, run.flags.gaugeFault := v }
  drive : ∀ {s l} check, Pointwise (fun r r' => SameView r r' ∧ r'.load = r.load) s.run.tu.lamps l →
    R s (driveLamps { s with run.tu.lamps := l, run.tu.lampCheck := check })
  loads : ∀ {s l v}, Pointwise SameView s.run.tu.lamps l →
    (∀ (n : Nat) r r', s.run.tu.lamps[n]? = some r → l[n]? = some r' → r.output = lampOutput s n r →
      r'.output = lampOutput s n r') →
    (s.run.flags.lampFault = anyLoadFault s.run.tu.lamps → v = anyLoadFault l) →
    R s { s with run.tu.lamps := l, run.flags.lampFault := v }
  lampCheckTick : ∀ s, R s { s with run.tu.lampCheck := countDown s.run.tu.lampCheck }
  routeTimes : ∀ {f : LiveRoute → LiveRoute}, (∀ r, SameRoute r (f r)) → ∀ s,
    R s { s with run.tables.routes := s.run.tables.routes.map fun e => e.mapTo f }
  freshened : ∀ {s n r}, routeAt s n = some r → r.fresh ≠ .stale → R s (updRoute n refreshed s)
  runs : ∀ {s}, s.mode = .startup → R s { s with mode := .run, phase := .none }
  stored : ∀ payload s, R s (writeEntry payload s)

namespace Core

variable {R : State → State → Prop} (h : Core R)
include h

theorem ite {p : Prop} [Decidable p] {s t : State} (ht : p → R s t) : R s (if p then t else s) := by
  split
  · next hp => exact ht hp
  · exact h.refl s

theorem foldl {α : Type} {f : State → α → State} (hf : ∀ s a, R s (f s a)) (l : List α) (s : State) :
    R s (l.foldl f s) := by
  induction l generalizing s with
  | nil => exact h.refl s
  | cons a l ih => exact h.trans (hf s a) (ih _)

/-! ## The warnings path -/

theorem noticeIfOn (k : NoticeType) (s : State) : R s (noticeIfOn k s) := h.ite fun _ => h.notice k s

/-- What follows the storing of a flag: the conditions that watch it, and the notices. -/
theorem flagDelivered {f : FlagId} {v : Bool} {s t : State} (hput : R s (putFlag t f v)) :
    R s (flagChange f v t) := by
  unfold flagChange
  split
  · next hsame =>
    have hput' : putFlag t f v = t := by
      subst hsame
      cases f <;> rfl
    rwa [hput'] at hput
  · have hdelivered := h.trans hput (h.watch (fun c => decide (c.source = .flag f.number)) _)
    refine h.trans ?_ (h.noticeIfOn .status _)
    split
    · exact h.trans hdelivered (h.noticeIfOn .telltale _)
    · exact hdelivered

theorem flagChange {f : FlagId} (hfree : f.free = true) (v : Bool) (s : State) :
    R s (flagChange f v s) := h.flagDelivered (h.freeFlag hfree v s)

theorem stageChange (slot : Nat) (before : Stage) (s : State) : R s (stageChange slot before s) := by
  unfold Machine.stageChange
  split
  · exact h.refl s
  · exact h.watch _ s

theorem stageChanges (before s : State) : R s (stageChanges before s) :=
  h.trans (h.stageChange 1 _ s) (h.stageChange 2 _ _)

end Core

/-! ## The chime -/

theorem chimeStep_request (p : Pattern) {s : State} (hmode : s.mode ≠ .shutdown)
    (hflag : s.run.flags.underVoltage = false) : ChimeStep s (s.run.tu.chime.request p) := by
  refine ⟨fun hq => ?_, fun hset => absurd hset (by simp [hflag]), fun h => absurd h hmode⟩
  unfold Chime.request
  split
  · exact hq
  · split
    · exact hq
    · exact queuePattern_order p _ hq

theorem chimeStep_queued (p : Pattern) {s : State} (hmode : s.mode ≠ .shutdown) :
    ChimeStep s { s.run.tu.chime with queue := queuePattern p s.run.tu.chime.queue } :=
  ⟨queuePattern_order p _, fun _ => id, fun h => absurd h hmode⟩

/-- A request changes the chime alone. -/
theorem chimeRequest_step (p : Pattern) (s : State) :
    ∃ c, ChimeStep s c ∧ chimeRequest p s = { s with run.tu.chime := c } := by
  unfold chimeRequest
  split
  · next hmode =>
    have hshutdown : s.mode ≠ .shutdown := by rcases hmode with hm | hm <;> simp [hm]
    split
    · exact ⟨_, chimeStep_queued p hshutdown, rfl⟩
    · next hflag => exact ⟨_, chimeStep_request p hshutdown (by simpa using hflag), rfl⟩
  · exact ⟨s.run.tu.chime, ⟨id, fun _ => id, fun _ => id⟩, rfl⟩

theorem chimeStep_initial (s : State) : ChimeStep s Chime.initial :=
  ⟨fun _ => List.Pairwise.nil, fun _ _ => rfl, fun _ _ => rfl⟩

theorem chimeOrder_next {c : Chime} (hq : ChimeOrder c.queue) : ChimeOrder c.next.queue := by
  unfold Chime.next
  split
  · next p rest hqueue =>
    rw [hqueue] at hq
    exact (List.pairwise_cons.1 hq).2
  · exact List.Pairwise.nil

/-- A change of a chime that plays something. -/
theorem chimeStep_of_playing {s : State} {c : Chime} (hplaying : s.run.tu.chime.playing ≠ none)
    (horder : ChimeOrder s.run.tu.chime.queue → ChimeOrder c.queue) : ChimeStep s c :=
  ⟨horder, fun _ h => absurd h hplaying, fun _ h => absurd (by rw [h]; rfl) hplaying⟩

theorem chimeStep_tick (s : State) :
    ChimeStep s { s.run.tu.chime with playing := s.run.tu.chime.playing.map tickPlaying } := by
  refine ⟨id, fun _ h => ?_, fun _ h => ?_⟩ <;> simp [h, Chime.initial]

theorem endingPattern_playing {s : State} (h : endingPattern s = true) : s.run.tu.chime.playing ≠ none := by
  intro hnone
  simp [endingPattern, hnone] at h

theorem repeatPlaying_playing {s : State} (h : repeatPlaying s = true) : s.run.tu.chime.playing ≠ none := by
  intro hnone
  simp [repeatPlaying, hnone] at h

namespace Core

variable {R : State → State → Prop} (h : Core R)
include h

theorem chimeRequest (p : Pattern) (s : State) : R s (chimeRequest p s) := by
  obtain ⟨c, hc, heq⟩ := chimeRequest_step p s
  rw [heq]
  exact h.chime hc

theorem chimeSilence (s : State) : R s (chimeSilence s) := h.chime (chimeStep_initial s)

theorem requestRepeat (s : State) : R s (requestRepeat s) := h.ite fun _ => h.chimeRequest .rep s

theorem escalate (j : Nat) (a : Alert) (s : State) : R s (escalate j a s) := by
  have htimes {f : Alert → Alert} (hf : ∀ a, SameAlert a (f a)) :
      R s { s with run.tu.alerts := updAlert j f s.run.tu.alerts } := by
    refine h.alertTimes (fun a => ?_) s
    split
    · exact hf a
    · exact ⟨rfl, rfl, rfl⟩
  unfold Machine.escalate
  split
  · exact h.trans (htimes (f := fun x => { x with level := 1, timer := some _ })
      fun _ => ⟨rfl, rfl, rfl⟩) (h.chimeRequest .triple _)
  · have hlevel := htimes (f := fun x => { x with level := 2, timer := none }) fun _ => ⟨rfl, rfl, rfl⟩
    dsimp only
    split
    · exact hlevel
    · exact h.trans hlevel (h.chimeRequest .rep _)

/-! ## Queues -/

theorem placeVtq {e : QEntry} (he : Relayed e) (replaces : Bool) (s : State) :
    R s (placeVtq e replaces s) := by
  have hleft (t : State) : replyLeft e.origin t = t := by
    rcases he.2 with ho | ⟨n, ho⟩ <;> rw [ho] <;> rfl
  unfold Machine.placeVtq
  split
  · rw [hleft]
    exact h.refl s
  · split
    · next q hq => exact h.relayed replaces he hq
    · rw [overflow, hleft]
      exact h.flagChange rfl true s

end Core

theorem replyLeft_resultReply {o : Origin} {s : State} (hphase : s.run.mu.phase = .replyQueued)
    (ho : o = .resultReply) : replyLeft o s = { s with run.mu.phase := .idle, run.mu.cmd := none } := by
  subst ho
  exact if_pos hphase

theorem drqNew_length {e : QEntry} {q q' : List QEntry} (hq : drqNew e q = some q') : q'.length ≤ 24 := by
  unfold drqNew at hq
  split at hq
  · next hlen =>
    cases hq
    have hcapacity : Config.drqCapacity = 24 := rfl
    simp only [List.length_append, List.length_singleton]
    omega
  · cases hq

theorem replaceFrame_length (o : Origin) (f : NoticeFrames) (q : List QEntry) :
    (replaceFrame o f q).length = q.length := by
  induction q with
  | nil => rfl
  | cons x xs ih =>
    unfold replaceFrame
    split
    · rfl
    · simp [ih]

theorem drqLatest_length {e : QEntry} {q q' : List QEntry} (hq : drqLatest e q = some q')
    (hlen : q.length ≤ 24) : q'.length ≤ 24 := by
  unfold drqLatest at hq
  split at hq
  · cases hq
    rwa [replaceFrame_length]
  · exact drqNew_length hq

namespace Core

variable {R : State → State → Prop} (h : Core R)
include h

theorem placeDrq {e : QEntry} (he : Relayed e) (replaces : Bool) (s : State) :
    R s (placeDrq e replaces s) := by
  have hleft (t : State) : replyLeft e.origin t = t := by
    rcases he.2 with ho | ⟨n, ho⟩ <;> rw [ho] <;> rfl
  unfold Machine.placeDrq
  split
  · exact h.refl s
  · split
    · next q hq =>
      refine h.drq fun hlen => ?_
      split at hq
      · exact drqLatest_length hq hlen
      · exact drqNew_length hq
    · rw [overflow, hleft]
      exact h.flagChange rfl true s

theorem relayFrame (link : Link) (n : Nat) (relay : Relay) (body : List Byte) (s : State) :
    R s (relayFrame link n relay body s) := by
  have he (f : NoticeFrames) : Relayed (newEntry f (.route n)) := ⟨rfl, .inr ⟨n, rfl⟩⟩
  unfold Machine.relayFrame
  dsimp only
  split
  · exact h.refl s
  · split
    · exact h.placeDrq (he _) false s
    · exact h.placeVtq (he _) false s
  · split
    · exact h.placeDrq (he _) true s
    · exact h.placeVtq (he _) true s

theorem placeBroadcast (s : State) : R s (placeBroadcast s) := by
  unfold Machine.placeBroadcast
  split
  · exact h.refl s
  · exact h.placeVtq ⟨rfl, .inl rfl⟩ true s

/-- R176: a result REPLY, of a command that has none yet. -/
theorem sendResult {s : State} (frames : Command → NoticeFrames) (hphase : s.run.mu.phase ≠ .replyQueued) :
    R s (sendResult frames s) := by
  unfold Machine.sendResult
  split
  · exact h.refl s
  · next c _ =>
    dsimp only
    split
    · unfold Machine.placeVtq
      split
      · exact h.replyDropped (t := { s with run.mu.phase := .replyQueued }) hphase ⟨rfl, rfl⟩
          (h.replyAwaited s)
      · split
        · next q hq => exact h.replyVtq (e := newEntry (frames c) .resultReply) hphase rfl rfl hq
        · have hframe := flagChange_frame .relayOverflow true { s with run.mu.phase := .replyQueued }
          have hmu : (Machine.flagChange .relayOverflow true { s with run.mu.phase := .replyQueued }).run.mu.phase =
              .replyQueued := congrArg Mu.phase hframe.mu
          change R s (replyLeft .resultReply (Machine.flagChange .relayOverflow true _))
          refine (replyLeft_resultReply hmu rfl).symm ▸ h.replyDropped hphase ⟨hframe.vtq, hframe.replies⟩
            (h.trans (h.replyAwaited s) (h.flagChange rfl true _))
    · exact h.replyDuq (e := newEntry (frames c) .resultReply) hphase rfl

theorem answer {s : State} (code : Code) (data : List Byte) (hphase : s.run.mu.phase ≠ .replyQueued) :
    R s (answer code data s) := h.sendResult _ hphase

/-! ## Internal signals and slots -/

theorem writeInternal {s : State} {k : Nat} {e : SigEntry} (he : InternalEntry s k e) :
    R s (writeInternal k e s) := h.trans (h.internal he) (h.watch _ _)

theorem writeSlotSignal {slot : Nat} (hslot : slot = 1 ∨ slot = 2) (s : State) :
    R s (writeSlotSignal slot s) :=
  h.ite fun _ => h.writeInternal (.inr ⟨slot, hslot, rfl, rfl⟩)

theorem writeSlotSignals (s : State) : R s (writeSlotSignals s) :=
  h.trans (h.writeSlotSignal (.inl rfl) s) (h.writeSlotSignal (.inr rfl) _)

theorem refreshUnsynced (s : State) : R s (refreshUnsynced s) := h.flagChange rfl _ s

theorem bindingOutputs {slot : Nat} (hslot : slot = 1 ∨ slot = 2) (before : Stage) (s : State) :
    R s (bindingOutputs slot before s) := by
  unfold Machine.bindingOutputs
  have hstage := h.trans (h.writeSlotSignal hslot s) (h.stageChange slot before _)
  refine h.trans ?_ (h.noticeIfOn .drivetime _)
  split
  · exact h.trans hstage (h.refreshUnsynced _)
  · exact hstage

theorem putBindings {s : State} {t : Dtu} (ht : R s { s with dtu := t }) : R s (putBindings t s) := by
  unfold Machine.putBindings
  dsimp only
  have hfirst : R s (if t.slot1 = s.dtu.slot1 then { s with dtu := t }
      else Machine.bindingOutputs 1 (slotStage s 1) { s with dtu := t }) := by
    split
    · exact ht
    · exact h.trans ht (h.bindingOutputs (.inl rfl) _ _)
  split
  · exact hfirst
  · exact h.trans hfirst (h.bindingOutputs (.inr rfl) _ _)

theorem judgeCard {slot : Nat} (hslot : slot = 1 ∨ slot = 2) (presence : Nat) (s : State) :
    R s (judgeCard slot presence s) := by
  unfold Machine.judgeCard
  split
  · exact h.refl s
  · exact h.putBindings (h.rebound ⟨slot, hslot, .inl rfl⟩)
  · split
    · exact h.putBindings (h.rebound ⟨slot, hslot, .inr ⟨_, rfl⟩⟩)
    · exact h.refl s

theorem cardEvent {slot : Nat} (hslot : slot = 1 ∨ slot = 2) (i : Nat) (s : State) :
    R s (cardEvent slot i s) := by
  unfold Machine.cardEvent
  split
  · exact h.refl s
  · exact h.ite fun _ => h.judgeCard hslot _ s

theorem judgeSpeeds (s : State) : R s (judgeSpeeds s) := by
  unfold Machine.judgeSpeeds
  split
  · exact h.ite fun _ => h.aside rfl
  · exact h.trans (h.aside (t := { s with run.mismatch := none }) rfl) (h.flagChange rfl false _)

theorem speedEvent (i : Nat) (s : State) : R s (speedEvent i s) := by
  unfold Machine.speedEvent
  split
  · exact h.ite fun _ => h.judgeSpeeds s
  · exact h.refl s

theorem minuteEvent (s : State) : R s (minuteEvent s) := by
  unfold Machine.minuteEvent
  have hcredited := h.trans (h.minute s) (h.refreshUnsynced _)
  dsimp only
  split
  · exact h.trans (h.trans (h.trans (h.trans hcredited (h.writeSlotSignals _)) (h.stageChanges s _))
      (h.noticeIfOn .drivetime _)) (h.placeBroadcast _)
  · exact hcredited

theorem syncLoad {slot cont daily : Nat} (hslot : slot = 1 ∨ slot = 2) (digest : Nat) (splitDone : Bool)
    (s : State) (hcont : cont ≤ daily) (hdaily : daily ≤ 1440) :
    R s (syncLoad slot digest cont daily splitDone s) := by
  have hloaded := h.loaded slot digest splitDone s hcont hdaily
  have hstage := h.trans hloaded (h.trans (h.writeSlotSignal hslot _) (h.stageChange slot (slotStage s slot) _))
  refine h.trans ?_ (h.noticeIfOn .drivetime _)
  split
  · exact h.trans hstage (h.refreshUnsynced _)
  · exact hstage

end Core

end Sys2Proof.Machine
end

section
/-! PROOFS. The small changes that gauges, lamps and in-band commands are made of. -/

namespace Sys2Proof.Machine

/-! ## Lists place by place -/

theorem Pointwise.refl {α : Type} {p : α → α → Prop} (hp : ∀ a, p a a) (l : List α) : Pointwise p l l :=
  ⟨rfl, fun _ a ha => ⟨a, ha, hp a⟩⟩

theorem Pointwise.mapFrom {α : Type} {p : α → α → Prop} {f : Nat → α → α} {l : List α}
    (hf : ∀ (n : Nat) a, l[n]? = some a → p a (f n a)) : Pointwise p l (mapFrom f 0 l) := by
  refine ⟨mapFrom_length f 0 l, fun n a' ha' => ?_⟩
  rw [mapFrom_getElem?, Nat.zero_add] at ha'
  obtain ⟨a, ha, rfl⟩ := Option.map_eq_some_iff.1 ha'
  exact ⟨a, ha, hf n a ha⟩

theorem Pointwise.map {α : Type} {p : α → α → Prop} {f : α → α} (hf : ∀ a, p a (f a)) (l : List α) :
    Pointwise p l (l.map f) := by
  refine ⟨List.length_map f, fun n a' ha' => ?_⟩
  rw [List.getElem?_map] at ha'
  obtain ⟨a, ha, rfl⟩ := Option.map_eq_some_iff.1 ha'
  exact ⟨a, ha, hf a⟩

theorem Pointwise.updAt {α : Type} {p : α → α → Prop} (hp : ∀ a, p a a) {f : α → α} {l : List α} {n : Nat}
    (hf : ∀ a, l[n]? = some a → p a (f a)) : Pointwise p l (updAt l n f) := by
  refine ⟨updAt_length l n f, fun k a' ha' => ?_⟩
  rw [updAt_getElem?] at ha'
  split at ha'
  · next hk =>
    obtain ⟨a, ha, rfl⟩ := Option.map_eq_some_iff.1 ha'
    subst hk
    exact ⟨a, ha, hf a ha⟩
  · exact ⟨a', ha', hp a'⟩

theorem Pointwise.mem {α : Type} {p : α → α → Prop} {l l' : List α} (h : Pointwise p l l') {a' : α}
    (ha' : a' ∈ l') : ∃ a ∈ l, p a a' := by
  obtain ⟨n, hn⟩ := List.mem_iff_getElem?.1 ha'
  obtain ⟨a, ha, hp⟩ := h.2 n a' hn
  exact ⟨a, List.mem_of_getElem? ha, hp⟩

theorem Pointwise.imp {α : Type} {p q : α → α → Prop} (hpq : ∀ a b, p a b → q a b) {l l' : List α}
    (h : Pointwise p l l') : Pointwise q l l' :=
  ⟨h.1, fun n a' ha' => (h.2 n a' ha').imp fun a ⟨ha, hp⟩ => ⟨ha, hpq a a' hp⟩⟩

theorem Pointwise.trans {α : Type} {p q r : α → α → Prop} (hr : ∀ a b c, p a b → q b c → r a c)
    {l l' l'' : List α} (h : Pointwise p l l') (h' : Pointwise q l' l'') : Pointwise r l l'' := by
  refine ⟨h'.1.trans h.1, fun n c hc => ?_⟩
  obtain ⟨b, hb, hq⟩ := h'.2 n c hc
  obtain ⟨a, ha, hp⟩ := h.2 n b hb
  exact ⟨a, ha, hr a b c hp hq⟩

/-! ## Channels -/

theorem ChannelStep.refl (supply : Bool) (c : Channel) : ChannelStep supply c c :=
  ⟨fun _ => id, fun _ => id, id⟩

/-- A channel that keeps its state and what it resumes. -/
theorem ChannelStep.of_same {supply : Bool} {c c' : Channel} (hs : c'.state = c.state)
    (hr : c'.resume = c.resume) : ChannelStep supply c c' := by
  rw [ChannelStep, hs, hr]
  exact ChannelStep.refl supply c

/-- A channel that comes to a state which no supply flag concerns. -/
theorem ChannelStep.of_still {supply : Bool} {c c' : Channel} (hs : c'.state.freezable = false)
    (hf : c'.state ≠ .frozen) : ChannelStep supply c c' := ⟨fun _ _ => hs, fun _ _ => hf, fun _ h => absurd h hf⟩

theorem Resume.state_ne_frozen (r : Resume) : r.state ≠ .frozen := by cases r <;> simp [Resume.state]

/-- R56: a moving state is entered FROZEN while the supply is at fault. -/
theorem enterMoving_step (supply : Bool) (r : Resume) (c c' : Channel) :
    ChannelStep supply c (enterMoving supply r c') := by
  cases supply
  · exact ⟨fun h => (by cases h), fun _ _ => r.state_ne_frozen, fun _ h => absurd h r.state_ne_frozen⟩
  · exact ⟨fun _ _ => rfl, fun h => (by cases h), fun _ _ => rfl⟩

theorem faultChannel_step (supply : Bool) (c : Channel) : ChannelStep supply c (faultChannel c) :=
  .of_still rfl (by simp [faultChannel])

theorem homedChannel_step (startup supply : Bool) (g : Gauge) (c : Channel) :
    ChannelStep supply c (homedChannel startup supply g c) := enterMoving_step supply _ c _

theorem releaseChannel_step (supply : Bool) (c : Channel) : ChannelStep supply c (releaseChannel supply c) := by
  unfold releaseChannel
  split
  · exact enterMoving_step supply _ c _
  · exact .refl supply c

theorem forceChannel_step (supply : Bool) (position : Nat) (c : Channel) :
    ChannelStep supply c (forceChannel position c) := .of_still rfl (by simp [forceChannel])

theorem shutdownChannel_step (supply : Bool) (c : Channel) : ChannelStep supply c (shutdownChannel c) := by
  unfold shutdownChannel
  split
  case h_8 | h_9 | h_10 | h_11 => exact .refl supply c
  all_goals exact .of_still rfl (by simp)

theorem placeChannel_step (s : State) (n : Nat) (c : Channel) :
    ChannelStep (supplyFault s) c (placeChannel s n c) := by
  unfold placeChannel
  split
  · exact .of_still rfl (by simp [idleChannel])
  · split
    · exact .refl _ c
    · split
      · split
        · exact enterMoving_step _ _ c _
        · exact enterMoving_step _ _ c _
      · exact .of_still rfl (by simp [homeChannel])

theorem coilCheck_state (sense : CoilSense × CoilSense) (c : Channel) :
    (coilCheck sense c).state = c.state ∧ (coilCheck sense c).resume = c.resume := by
  unfold coilCheck
  split <;> exact ⟨rfl, rfl⟩

/-- A channel that a supply flag would freeze moves on to another such state or to one that none concerns. -/
theorem ChannelStep.of_freezable {supply : Bool} {c c' : Channel} (hc : c.state.freezable = true)
    (hf : c'.state ≠ .frozen) : ChannelStep supply c c' :=
  ⟨fun _ h => absurd h (by simp [hc]), fun _ _ => hf, fun _ h => absurd h hf⟩

theorem moveChannel_step (supply : Bool) (s : State) (g : Gauge) (c : Channel) :
    ChannelStep supply c (moveChannel s g c) := by
  unfold moveChannel
  split
  · exact .of_same rfl rfl
  · next hs =>
    refine .of_freezable (by simp [hs, ChanState.freezable]) ?_
    unfold sweepUpMove
    dsimp only
    split <;> simp [setPos, hs]
  · next hs =>
    refine .of_freezable (by simp [hs, ChanState.freezable]) ?_
    unfold sweepDownMove
    dsimp only
    split <;> simp [setPos, hs]
  · next hs =>
    refine .of_freezable (by simp [hs, ChanState.freezable]) ?_
    unfold trackMove
    split <;> simp [followTarget]
  · next hs =>
    refine .of_freezable (by simp [hs, ChanState.freezable]) ?_
    unfold trackMove
    split <;> simp [followTarget]
  · next hs =>
    unfold returnMove
    dsimp only
    split
    · exact .of_still rfl (by simp)
    · exact .of_same rfl rfl
  · unfold forcedMove
    split
    · exact .of_same rfl rfl
    · exact .refl supply c
  all_goals exact .refl supply c

theorem ChannelStep.of_same_before {supply : Bool} {c c' c'' : Channel} (hs : c'.state = c.state)
    (hr : c'.resume = c.resume) (h : ChannelStep supply c' c'') : ChannelStep supply c c'' := by
  rwa [ChannelStep, hs, hr] at h

theorem updateChannel_step (supply : Bool) (s : State) (sense : List (CoilSense × CoilSense)) (n : Nat)
    (c : Channel) : ChannelStep supply c (updateChannel s sense n c) := by
  unfold updateChannel
  split
  · exact .refl supply c
  · obtain ⟨hs, hr⟩ := coilCheck_state (sense.getD n (.undriven, .undriven)) c
    dsimp only
    split
    · exact .of_same hs hr
    · exact .of_same_before hs hr (moveChannel_step supply s _ _)

/-- A channel that neither enters nor leaves FAULT. -/
def SameFault (c c' : Channel) : Prop := c'.state = .fault ↔ c.state = .fault

theorem enterMoving_fault (supply : Bool) (r : Resume) (c : Channel) :
    (enterMoving supply r c).state ≠ .fault := by
  cases supply
  · cases r <;> simp [enterMoving, Resume.state]
  · simp [enterMoving]

theorem releaseChannel_fault (supply : Bool) (c : Channel) : SameFault c (releaseChannel supply c) := by
  unfold releaseChannel SameFault
  split
  · next hs => simp [enterMoving_fault, hs]
  · rfl

theorem shutdownChannel_fault (c : Channel) : SameFault c (shutdownChannel c) := by
  unfold shutdownChannel SameFault
  split <;> simp [*]

theorem moveChannel_fault (s : State) (g : Gauge) (c : Channel) : SameFault c (moveChannel s g c) := by
  unfold moveChannel SameFault
  split
  · simp [homingMove, *]
  · unfold sweepUpMove
    dsimp only
    split <;> simp [setPos, *]
  · unfold sweepDownMove
    dsimp only
    split <;> simp [setPos, *]
  · unfold trackMove
    split <;> simp [followTarget, *]
  · unfold trackMove
    split <;> simp [followTarget, *]
  · unfold returnMove
    dsimp only
    split <;> simp [setPos, *]
  · unfold forcedMove
    split <;> simp [setPos, *]
  all_goals rfl

theorem updateChannel_fault (s : State) (sense : List (CoilSense × CoilSense)) (n : Nat) (c : Channel) :
    SameFault c (updateChannel s sense n c) := by
  unfold updateChannel
  split
  · exact Iff.rfl
  · obtain ⟨hs, -⟩ := coilCheck_state (sense.getD n (.undriven, .undriven)) c
    dsimp only
    split
    · rw [SameFault, hs]
    · have h := moveChannel_fault s ‹Gauge› (coilCheck (sense.getD n (.undriven, .undriven)) c)
      rwa [SameFault, hs] at h

theorem anyFault_congr {l l' : List Channel} (h : Pointwise SameFault l l') : anyFault l' = anyFault l := by
  rw [Bool.eq_iff_iff, anyFault, anyFault, List.any_eq_true, List.any_eq_true]
  constructor
  · rintro ⟨c', hc', hf⟩
    obtain ⟨c, hc, hsame⟩ := h.mem hc'
    exact ⟨c, hc, decide_eq_true (hsame.1 (of_decide_eq_true hf))⟩
  · rintro ⟨c, hc, hf⟩
    obtain ⟨n, hn⟩ := List.mem_iff_getElem?.1 hc
    have hlen : n < l'.length := h.1 ▸ (List.getElem?_eq_some_iff.1 hn).1
    obtain ⟨c₀, hc₀, hsame⟩ := h.2 n _ (List.getElem?_eq_getElem hlen)
    obtain rfl : c = c₀ := Option.some_inj.1 (hn.symm.trans hc₀)
    exact ⟨_, List.getElem_mem hlen, decide_eq_true (hsame.2 (of_decide_eq_true hf))⟩

namespace Core

variable {R : State → State → Prop} (h : Core R)
include h

/-- Channels that move without entering or leaving FAULT. -/
theorem movedChannels {s : State} {l : List Channel}
    (hstep : Pointwise (ChannelStep (supplyFault s)) s.run.gu.channels l)
    (hfault : Pointwise SameFault s.run.gu.channels l) : R s { s with run.gu.channels := l } :=
  h.channels (v := s.run.flags.gaugeFault) hstep fun hflag => hflag.trans (anyFault_congr hfault).symm

theorem mapChannels {s : State} {f : Nat → Channel → Channel}
    (hf : ∀ n c, ChannelStep (supplyFault s) c (f n c)) (hfault : ∀ n c, SameFault c (f n c)) :
    R s (mapChannels f s) :=
  h.movedChannels (.mapFrom fun n c _ => hf n c) (.mapFrom fun n c _ => hfault n c)

theorem updChannel {s : State} {n : Nat} {f : Channel → Channel}
    (hf : ∀ c, ChannelStep (supplyFault s) c (f c)) (hfault : ∀ c, s.run.gu.channels[n]? = some c → SameFault c (f c)) :
    R s (updChannel n f s) :=
  h.movedChannels (.updAt (ChannelStep.refl _) fun c _ => hf c) (.updAt (p := SameFault) (fun _ => Iff.rfl) hfault)

theorem reportGauges (s : State) : R s (reportGauges s) := h.aside rfl

theorem startupCheck (s : State) : R s (startupCheck s) :=
  h.ite fun hs => h.trans (h.runs hs.1) (h.noticeIfOn .status _)

/-- R55: channels that may enter or leave FAULT, with F6. -/
theorem evaluateF6 {s : State} {l : List Channel}
    (hstep : Pointwise (ChannelStep (supplyFault s)) s.run.gu.channels l) :
    R s (evaluateF6 { s with run.gu.channels := l }) :=
  h.flagDelivered (f := .gaugeFault) (t := { s with run.gu.channels := l }) (h.channels hstep fun _ => rfl)

theorem enterFault (n : Nat) (s : State) : R s (enterFault n s) := by
  refine h.trans ?_ (h.noticeIfOn .status _)
  have hfaulted := h.evaluateF6 (s := s) (l := updAt s.run.gu.channels n faultChannel)
    (.updAt (ChannelStep.refl _) fun c _ => faultChannel_step _ c)
  exact h.trans hfaulted (h.aside rfl)

theorem releaseGauges (s : State) : R s (releaseGauges s) :=
  h.mapChannels (fun _ c => releaseChannel_step _ c) fun _ c => releaseChannel_fault _ c

theorem returnGauges (s : State) : R s (returnGauges s) :=
  h.trans (h.mapChannels (fun _ c => shutdownChannel_step _ c) fun _ c => shutdownChannel_fault c)
    (h.reportGauges _)

/-! ## Lamps -/

theorem drive_same {s : State} {l : List LampRec}
    (hl : Pointwise (fun r r' => SameView r r' ∧ r'.load = r.load) s.run.tu.lamps l) :
    R s (driveLamps { s with run.tu.lamps := l }) := h.drive s.run.tu.lampCheck hl

theorem advanceBlink (s : State) : R s (advanceBlink s) := by
  have hcount : R s { s with run.tu.blink := (s.run.tu.blink + 1) % 64, run.tu.blinkTimer := Config.blinkMicros } :=
    h.aside rfl
  refine h.trans hcount (h.drive_same (l := mapFrom (phaseAt s ((s.run.tu.blink + 1) % 64)) 0 s.run.tu.lamps) ?_)
  refine .mapFrom fun n r _ => ?_
  unfold phaseAt
  split <;> exact ⟨⟨rfl, rfl, rfl⟩, rfl⟩

theorem releaseLamps (s : State) : R s (releaseLamps s) :=
  h.drive_same (.map (fun _ => ⟨⟨rfl, rfl, rfl⟩, rfl⟩) _)

theorem releaseForcings (s : State) : R s (releaseForcings s) :=
  h.trans (h.trans (h.releaseGauges s) (h.releaseLamps _)) (h.chimeSilence _)

theorem forceLamp (n : Nat) (forced : Option Bool) (s : State) : R s (forceLamp n forced s) :=
  h.drive_same (.updAt (fun _ => ⟨⟨rfl, rfl, rfl⟩, rfl⟩) fun _ _ => ⟨⟨rfl, rfl, rfl⟩, rfl⟩)

/-- R90: lamps whose load states have changed, with F5. -/
theorem reportLamps {s t : State} (ht : R s { t with run.flags.lampFault := anyLoadFault t.run.tu.lamps }) :
    R s (reportLamps t) := by
  refine h.trans ?_ (h.noticeIfOn .status _)
  exact h.flagDelivered (f := .lampFault) (h.trans ht (h.aside rfl))

end Core

theorem checkLoad_view (current : BitVec 32) (n : Nat) (r : LampRec) : SameView r (checkLoad current n r) := by
  unfold checkLoad
  split
  · split <;> exact ⟨rfl, rfl, rfl⟩
  · exact ⟨rfl, rfl, rfl⟩

/-- A lamp's output depends on the lamp through these fields. -/
theorem lampOutput_congr {s : State} {n : Nat} {r r' : LampRec} (hload : r'.load = .shorted ↔ r.load = .shorted)
    (hforced : r'.forced = r.forced) (hlit : r'.lit = r.lit) (hview : SameView r r') :
    lampOutput s n r' = lampOutput s n r := by
  obtain ⟨-, hrequested, halarm⟩ := hview
  simp only [lampOutput, hload, hforced, hlit, hrequested, halarm]

theorem checkLoad_output (current : BitVec 32) (s : State) (n : Nat) (r : LampRec)
    (hr : r.output = lampOutput s n r) :
    (checkLoad current n r).output = lampOutput s n (checkLoad current n r) := by
  have hsame : lampOutput s n (checkLoad current n r) = lampOutput s n r := by
    refine lampOutput_congr ?_ ?_ ?_ (checkLoad_view current n r) <;> unfold checkLoad
    · split
      · split
        · dsimp only
          split <;> simp [*]
        · rfl
      · rfl
    · split
      · split <;> rfl
      · rfl
    · split
      · split <;> rfl
      · rfl
  rw [hsame, ← hr]
  unfold checkLoad
  split
  · split <;> rfl
  · rfl

theorem anyLoadFault_congr {l l' : List LampRec} (h : l'.map LampRec.load = l.map LampRec.load) :
    anyLoadFault l' = anyLoadFault l := by
  have heq (k : List LampRec) : anyLoadFault k = (k.map LampRec.load).any fun x => decide (x ≠ .ok) := by
    rw [List.any_map]
    rfl
  rw [heq, heq, h]

namespace Core

variable {R : State → State → Prop} (h : Core R)
include h

theorem loadCheck (current : BitVec 32) (s : State) : R s (loadCheck current s) := by
  have hview : Pointwise SameView s.run.tu.lamps (mapFrom (checkLoad current) 0 s.run.tu.lamps) :=
    .mapFrom fun n r _ => checkLoad_view current n r
  have houtput : ∀ (n : Nat) r r', s.run.tu.lamps[n]? = some r →
      (mapFrom (checkLoad current) 0 s.run.tu.lamps)[n]? = some r' → r.output = lampOutput s n r →
        r'.output = lampOutput s n r' := by
    intro n r r' hr hr' hout
    rw [mapFrom_getElem?, Nat.zero_add, hr, Option.map_some, Option.some_inj] at hr'
    exact hr' ▸ checkLoad_output current s n r hout
  unfold Machine.loadCheck
  dsimp only
  split
  · next hsame =>
    exact h.trans (h.loads (v := s.run.flags.lampFault) hview houtput
      fun hflag => hflag.trans (anyLoadFault_congr hsame).symm) (h.aside rfl)
  · exact h.reportLamps (h.trans (h.loads hview houtput fun _ => rfl) (h.aside rfl))

theorem lampOpenStep (n : Nat) (s : State) : R s (lampOpenStep n s) := by
  refine h.ite fun hdue => h.reportLamps (h.loads ?_ ?_ fun _ => rfl)
  · exact .updAt (fun _ => ⟨rfl, rfl, rfl⟩) fun _ _ => ⟨rfl, rfl, rfl⟩
  · intro k r r' hr hr' hout
    simp only [lampOpenDue, Bool.and_eq_true, decide_eq_true_eq] at hdue
    rw [updAt_getElem?, hr] at hr'
    split at hr'
    · next hk =>
      subst hk
      have hok : r.load = .ok := by
        rw [← hdue.1, lampRec, List.getD_eq_getElem?_getD, hr]
        rfl
      obtain rfl := Option.some_inj.1 hr'
      exact hout.trans (lampOutput_congr (r := r) (r' := { r with load := .opened }) (by simp [hok]) rfl rfl
        ⟨rfl, rfl, rfl⟩).symm
    · obtain rfl := Option.some_inj.1 hr'
      exact hout

/-- Lamps driven after a change of their load states. -/
theorem reportDriven {s : State} {l : List LampRec} (hl : Pointwise SameView s.run.tu.lamps l) :
    R s (Machine.reportLamps (driveLamps { s with run.tu.lamps := l })) := by
  refine h.reportLamps (h.loads (l := (driveLamps { s with run.tu.lamps := l }).run.tu.lamps) ?_ ?_ fun _ => rfl)
  · exact hl.trans (q := SameView) (fun _ _ _ ⟨h1, h2, h3⟩ ⟨k1, k2, k3⟩ => ⟨k1.trans h1, k2.trans h2, k3.trans h3⟩)
      (.mapFrom fun _ _ _ => ⟨rfl, rfl, rfl⟩)
  · intro n r r' _ hr' _
    rw [driveLamps_lamps, mapFrom_getElem?, Nat.zero_add] at hr'
    obtain ⟨r₀, -, rfl⟩ := Option.map_eq_some_iff.1 hr'
    rfl

theorem shortLamp (n : Nat) (s : State) : R s (shortLamp n s) :=
  h.reportDriven (.updAt (fun _ => ⟨rfl, rfl, rfl⟩) fun _ _ => ⟨rfl, rfl, rfl⟩)

theorem clearShorts (s : State) : R s (clearShorts s) := by
  refine h.ite fun _ => h.reportDriven (.map (fun r => ?_) _)
  split <;> exact ⟨rfl, rfl, rfl⟩

theorem startLampCheck (s : State) : R s (startLampCheck s) := by
  unfold Machine.startLampCheck
  dsimp only
  generalize hcheck : (if 100 * s.dtu.params.cluster = 0 then none else some (100 * s.dtu.params.cluster)) = check
  generalize hended : decide (100 * s.dtu.params.cluster = 0) = ended
  obtain ⟨c, hc, heq⟩ := chimeRequest_step .check { s with run.tu.lampCheck := check, run.mc.lampCheckEnded := ended }
  rw [heq]
  have hchime : R s { s with run.tu.chime := c } := h.chime hc
  have hended : R s { s with run.tu.chime := c, run.mc.lampCheckEnded := ended } := h.trans hchime (h.aside rfl)
  exact h.trans hended (h.drive check (.refl (fun _ => ⟨⟨rfl, rfl, rfl⟩, rfl⟩) _))

theorem endLampCheck (s : State) : R s (endLampCheck s) := by
  have hended : R s { s with run.mc.lampCheckEnded := true } := h.aside rfl
  exact h.trans (h.trans hended (h.drive none (.refl (fun _ => ⟨⟨rfl, rfl, rfl⟩, rfl⟩) _))) (h.startupCheck _)

end Core

end Sys2Proof.Machine
end

section
/-! PROOFS. The small changes that in-band commands and the two links are made of. -/

namespace Sys2Proof.Machine

/-! ## The command in progress -/

/-- A command that is due is in EXECUTING, in a mode that admits it. -/
theorem inHand_of_commandDue {s : State} {c : CmdCode} {cmd : Command} (hdue : commandDue s c = some cmd) :
    InHand s c cmd := by
  unfold commandDue at hdue
  split at hdue
  · cases hdue
  · next cmd' hcmd =>
    split at hdue
    · next hall =>
      obtain ⟨hphase, hcode, hmode, -⟩ := hall
      cases hdue
      exact ⟨hphase, hcmd, hcode, hmode⟩
    · cases hdue

theorem inHand_of_forceDue {s : State} {a : ForceAction} {cmd : Command} (hdue : forceDue s a = some cmd) :
    InHand s .forceOutput cmd ∧ forceActionOf cmd.payload = some a := by
  unfold forceDue at hdue
  split at hdue
  · next cmd' hcmd =>
    split at hdue
    · next ha =>
      cases hdue
      exact ⟨inHand_of_commandDue hcmd, ha⟩
    · cases hdue
  · cases hdue

theorem InHand.not_replyQueued {s : State} {c : CmdCode} {cmd : Command} (h : InHand s c cmd) :
    s.run.mu.phase ≠ .replyQueued := by simp [h.1]

theorem executing_phase {s : State} {c : CmdCode} (h : executing s c = true) : s.run.mu.phase = .executing := by
  simp only [executing, Bool.and_eq_true, decide_eq_true_eq] at h
  exact h.1

theorem admissionCode_idle {phase : MuPhase} {mode : Mode} {payload : List Byte}
    (h : admissionCode phase mode payload ≠ .busy) : phase = .idle := by
  unfold admissionCode at h
  split at h
  · exact absurd rfl h
  · next hphase => exact not_not.1 hphase

/-! ## The phase of the command in progress -/

/-- The Management Unit keeps the phase of its command. -/
def SamePhase (s t : State) : Prop := t.run.mu.phase = s.run.mu.phase

theorem SamePhase.trans {s t u : State} (h : SamePhase s t) (h' : SamePhase t u) : SamePhase s u :=
  Eq.trans h' h

theorem WarningsOnly.samePhase {s t : State} (h : WarningsOnly s t) : SamePhase s t := congrArg Mu.phase h.mu

theorem flagChange_samePhase (f : FlagId) (v : Bool) (s : State) : SamePhase s (flagChange f v s) := by
  refine SamePhase.trans (t := putFlag s f v) ?_ (flagChange_frame f v s).samePhase
  cases f <;> rfl

theorem reportLamps_samePhase (s : State) : SamePhase s (reportLamps s) := by
  refine .trans ?_ (noticeIfOn_frame _ _).samePhase
  exact .trans (t := { s with run.mc.openLamps := _, run.mc.shortLamps := _ }) rfl (flagChange_samePhase _ _ _)

theorem clearShorts_samePhase (s : State) : SamePhase s (clearShorts s) := by
  unfold clearShorts
  split
  · exact (driveLamps_frame _).samePhase.trans (reportLamps_samePhase _)
  · rfl

theorem clearStatus_samePhase (s : State) : SamePhase s (clearStatus s) := by
  unfold clearStatus
  refine .trans ?_ (clearShorts_samePhase _)
  refine .trans ?_ (flagChange_samePhase _ _ _)
  exact .trans (t := { s with run.mu.lastLinkError := .none, run.mu.transmitAbandoned := false }) rfl
    (flagChange_samePhase _ _ _)

theorem writeInternal_samePhase (k : Nat) (e : SigEntry) (s : State) : SamePhase s (writeInternal k e s) :=
  .trans (t := putSignal s k e) rfl (conditionsOnSignal_frame k _).samePhase

theorem writeSlotSignal_samePhase (slot : Nat) (s : State) : SamePhase s (writeSlotSignal slot s) := by
  unfold writeSlotSignal
  split
  · exact writeInternal_samePhase _ _ s
  · rfl

theorem syncLoad_samePhase (slot digest cont daily : Nat) (splitDone : Bool) (s : State) :
    SamePhase s (syncLoad slot digest cont daily splitDone s) := by
  unfold syncLoad
  refine .trans ?_ (noticeIfOn_frame _ _).samePhase
  have hstage {t : State} (ht : SamePhase s t) :
      SamePhase s (stageChange slot (slotStage s slot) (writeSlotSignal slot t)) :=
    (ht.trans (writeSlotSignal_samePhase slot _)).trans (stageChange_frame slot _ _).samePhase
  split
  · exact .trans (hstage (by rfl)) (flagChange_samePhase _ _ _)
  · exact hstage (by rfl)

theorem enterService_samePhase (s : State) : SamePhase s (enterService s) := by
  unfold enterService
  refine .trans ?_ (noticeIfOn_frame _ _).samePhase
  exact .trans (t := { s with mode := .service }) rfl (flagChange_samePhase _ _ _)

namespace Core

variable {R : State → State → Prop} (h : Core R)
include h

/-! ## Carrying out -/

theorem clearStatus (s : State) : R s (clearStatus s) := by
  unfold Machine.clearStatus
  refine h.trans ?_ (h.clearShorts _)
  refine h.trans ?_ (h.flagChange rfl _ _)
  exact h.trans (h.aside (t := { s with run.mu.lastLinkError := .none, run.mu.transmitAbandoned := false }) rfl)
    (h.flagChange rfl _ _)

/-- A command that does something and is then answered. -/
theorem answered {s t : State} {c : CmdCode} {cmd : Command} (hcmd : InHand s c cmd) (ht : R s t)
    (hphase : SamePhase s t) (code : Code) (data : List Byte) : R s (Machine.answer code data t) :=
  h.trans ht (h.answer code data (hphase ▸ hcmd.not_replyQueued))

theorem whenDue {run : Command → State → State} {s : State} {due : Option Command}
    (hrun : ∀ c, due = some c → R s (run c s)) : R s (whenDue due run s) := by
  unfold Machine.whenDue
  split
  · next c => exact hrun c rfl
  · exact h.refl s

theorem readStatusStep (s : State) : R s (readStatusStep s) :=
  h.whenDue fun _ hdue => h.answer _ _ (inHand_of_commandDue hdue).not_replyQueued

theorem clearStatusStep (s : State) : R s (clearStatusStep s) :=
  h.whenDue fun _ hdue =>
    h.answered (inHand_of_commandDue hdue) (h.clearStatus s) (clearStatus_samePhase s) _ _

theorem leaveServiceStep (s : State) : R s (leaveServiceStep s) := h.whenDue fun _ _ => h.aside rfl

theorem readEntryStep (s : State) : R s (readEntryStep s) :=
  h.whenDue fun _ hdue => h.answer _ _ (inHand_of_commandDue hdue).not_replyQueued

theorem writeEntryStep (s : State) : R s (writeEntryStep s) :=
  h.whenDue fun _ hdue => h.answered (inHand_of_commandDue hdue) (h.stored _ s) rfl _ _

theorem readSignalStep (s : State) : R s (readSignalStep s) :=
  h.whenDue fun _ hdue => h.answer _ _ (inHand_of_commandDue hdue).not_replyQueued

theorem readLogStep (s : State) : R s (readLogStep s) :=
  h.whenDue fun _ hdue => h.sendResult _ (inHand_of_commandDue hdue).not_replyQueued

theorem readDriverStep (s : State) : R s (readDriverStep s) := by
  refine h.whenDue fun c hdue => ?_
  have hphase := (inHand_of_commandDue hdue).not_replyQueued
  unfold runReadDriver
  split
  · exact h.answer _ _ hphase
  · exact h.sendResult _ hphase

end Core

/-- R182's ranges of SET DRIVE-TIME. -/
theorem setDriveTime_inRange {payload : List Byte} (hrange : CmdCode.setDriveTime.paramsInRange payload = true) :
    ((byteAt payload 1).toNat = 1 ∨ (byteAt payload 1).toNat = 2) ∧
      natAt payload 2 2 ≤ natAt payload 4 2 ∧ natAt payload 4 2 ≤ 1440 := by
  simp only [CmdCode.paramsInRange, Bool.and_eq_true, decide_eq_true_eq] at hrange
  tauto

namespace Core

variable {R : State → State → Prop} (h : Core R)
include h

theorem setDriveTimeStep (s : State) : R s (setDriveTimeStep s) := by
  refine h.whenDue fun c hdue => ?_
  have hcmd := inHand_of_commandDue hdue
  unfold runSetDriveTime
  dsimp only
  split
  · exact h.answer _ _ hcmd.not_replyQueued
  · split
    · next hrange =>
      obtain ⟨hslot, hcont, hdaily⟩ := setDriveTime_inRange hrange
      exact h.answered hcmd (h.syncLoad hslot _ _ s hcont hdaily) (syncLoad_samePhase _ _ _ _ _ s) _ _
    · exact h.answer _ _ hcmd.not_replyQueued

theorem lampOnStep (s : State) : R s (lampOnStep s) :=
  h.whenDue fun _ hdue => h.answered (inHand_of_forceDue hdue).1 (h.forceLamp _ _ s) rfl _ _

theorem lampOffStep (s : State) : R s (lampOffStep s) :=
  h.whenDue fun _ hdue => h.answered (inHand_of_forceDue hdue).1 (h.forceLamp _ _ s) rfl _ _

theorem lampReleaseStep (s : State) : R s (lampReleaseStep s) :=
  h.whenDue fun _ hdue => h.answered (inHand_of_forceDue hdue).1 (h.forceLamp _ _ s) rfl _ _

end Core

theorem channelAt_of_getElem? {s : State} {n : Nat} {c : Channel} (hc : s.run.gu.channels[n]? = some c) :
    channelAt s n = c := by
  rw [channelAt, List.getD_eq_getElem?_getD, hc]
  rfl

theorem canForce_state {g : Option Gauge} {position : Nat} {c : Channel} (hcan : canForce g position c = true) :
    c.state ≠ .fault := by
  unfold canForce at hcan
  split at hcan
  · cases hcan
  · simp only [Bool.and_eq_true, decide_eq_true_eq] at hcan
    rcases hcan.2 with hs | hs | hs | hs <;> simp [hs]

namespace Core

variable {R : State → State → Prop} (h : Core R)
include h

theorem gaugePositionStep (s : State) : R s (gaugePositionStep s) := by
  refine h.whenDue fun c hdue => ?_
  have hcmd := (inHand_of_forceDue hdue).1
  unfold runGaugePosition
  dsimp only
  split
  · next hcan =>
    refine h.answered hcmd (h.trans (h.updChannel (fun c => forceChannel_step _ _ c) fun c hc => ?_)
      (h.reportGauges _)) rfl _ _
    rw [channelAt_of_getElem? hc] at hcan
    simp [SameFault, forceChannel, canForce_state hcan]
  · exact h.answer _ _ hcmd.not_replyQueued

theorem gaugeReleaseStep (s : State) : R s (gaugeReleaseStep s) :=
  h.whenDue fun _ hdue => h.answered (inHand_of_forceDue hdue).1
    (h.updChannel (fun c => releaseChannel_step _ c) fun c _ => releaseChannel_fault _ c) rfl _ _

theorem forceChime {s : State} (hmode : s.mode ≠ .shutdown) (p : Pattern) : R s (forceChime p s) := by
  refine h.chime ⟨id, fun hset _ => ?_, fun hm => absurd hm hmode⟩
  simp [hset]

theorem chimePatternStep (s : State) : R s (chimePatternStep s) := by
  refine h.whenDue fun c hdue => ?_
  have hcmd := (inHand_of_forceDue hdue).1
  unfold runChimePattern
  split
  · exact h.answer _ _ hcmd.not_replyQueued
  · exact h.answer _ _ hcmd.not_replyQueued
  · exact h.answered hcmd (h.forceChime hcmd.mode_ne _) rfl _ _

theorem linkTestStep (s : State) : R s (linkTestStep s) := h.whenDue fun _ _ => h.aside rfl

/-! ## Admission -/

theorem takeAllNodes (c : Command) (s : State) : R s (takeAllNodes c s) := by
  unfold Machine.takeAllNodes
  split
  · exact h.ite fun _ => h.clearStatus s
  · exact h.refl s

/-- A command becomes the one in progress. -/
theorem admitted {s : State} {p : MuPhase} {c : Option Command} (hphase : s.run.mu.phase = .idle)
    (hp : p ≠ .replyQueued) : R s { s with run.mu.phase := p, run.mu.cmd := c } :=
  h.trans (h.muPhase (p := p) (by simp [hphase]) hp) (h.aside rfl)

theorem admitVehicle (c : Command) (s : State) : R s (admitVehicle c s) := by
  unfold Machine.admitVehicle
  dsimp only
  split
  · next hcode =>
    have hphase : s.run.mu.phase = .idle := admissionCode_idle (by rw [hcode]; simp)
    exact h.trans (h.admitted (p := .ifrPending) (c := some c) hphase (by simp)) (h.aside rfl)
  · exact h.aside rfl

theorem placeBusy (c : Command) (s : State) : R s (placeBusy c s) := by
  unfold Machine.placeBusy
  split
  · exact h.refl s
  · next hbusy =>
    exact h.busyPlaced (e := newEntry (replyFrame s c .busy 0 false [], none) .busyReply) (by simpa using hbusy) rfl

theorem admitDisplay (c : Command) (s : State) : R s (admitDisplay c s) := by
  unfold Machine.admitDisplay
  dsimp only
  split
  · next hcode => exact h.admitted (admissionCode_idle (by rw [hcode]; simp)) (by simp)
  · split
    · exact h.placeBusy c s
    · next hbusy =>
      have hphase : s.run.mu.phase = .idle := admissionCode_idle hbusy
      have hcmd : R s { s with run.mu.cmd := some c } := h.aside rfl
      exact h.trans hcmd (h.answer _ _ (by simp [hphase]))

theorem takeCommand (link : Link) (body : List Byte) (s : State) : R s (takeCommand link body s) := by
  unfold Machine.takeCommand
  dsimp only
  split
  · cases link
    · exact h.admitVehicle _ s
    · exact h.admitDisplay _ s
  · exact h.ite fun _ => h.takeAllNodes _ s

theorem ifrWasSent (s : State) : R s (ifrWasSent s) := by
  refine h.ite fun hphase => ?_
  have hnot : s.run.mu.phase ≠ .replyQueued := by simp [hphase]
  split
  · split
    · exact h.muPhase hnot (by simp)
    · exact h.answer _ _ hnot
  · exact h.refl s

/-- A command that has no REPLY yet is dropped. -/
theorem commandDropped {s : State} (hphase : s.run.mu.phase ≠ .replyQueued) :
    R s { s with run.mu.phase := .idle, run.mu.cmd := none } :=
  h.trans (h.muPhase (p := .idle) hphase (by simp)) (h.aside rfl)

theorem ifrFailed (s : State) : R s (ifrFailed s) :=
  h.ite fun hphase => h.commandDropped (by simp [hphase])

theorem abandonCommand (s : State) : R s (abandonCommand s) :=
  h.ite fun hphase => h.commandDropped (by rcases hphase with hp | hp <;> simp [hp])

theorem linkTestReport (code : Code) (stage : Nat) (s : State) : R s (linkTestReport code stage s) :=
  h.ite fun hexec => h.answer _ _ (by simp [executing_phase hexec])

theorem abandonLeaveService (s : State) : R s (abandonLeaveService s) := by
  refine h.ite fun _ => ?_
  have hended : R s { s with run.mc.validation := none } := h.aside rfl
  dsimp only
  split
  · next hexec => exact h.trans hended (h.answer _ _ (by rw [executing_phase hexec]; simp))
  · exact hended

/-! ## The two interfaces -/

theorem setIface (link : Link) (i : Iface) (s : State) : R s (setIface link i s) := by
  cases link <;> exact h.aside rfl

theorem presentHeader (link : Link) (s : State) : R s (presentHeader link s) := by
  unfold Machine.presentHeader
  dsimp only
  split <;> exact h.setIface link _ s

theorem discardFrame (link : Link) (kind : ErrKind) (s : State) : R s (discardFrame link kind s) := by
  have herror : R s { s with run.mu.lastLinkError := .at_ link kind } := h.aside rfl
  exact h.trans herror (h.setIface link _ _)

theorem receiveBit (link : Link) (b : Bool) (s : State) : R s (receiveBit link b s) := by
  unfold Machine.receiveBit
  dsimp only
  split
  · exact h.discardFrame link _ s
  · split
    · exact h.trans (h.setIface link _ s) (h.presentHeader link _)
    · exact h.setIface link _ s

theorem becomeIdle (link : Link) (s : State) : R s (becomeIdle link s) := by
  unfold Machine.becomeIdle
  cases link
  · exact h.trans (h.setIface .vehicle _ s) (h.flagChange rfl _ _)
  · exact h.setIface .display _ s

theorem lineStuck (s : State) : R s (lineStuck s) := by
  have hstuck : R s { s with run.vli.iface := s.run.vli.iface.toState .stuck } := h.aside rfl
  exact h.trans hstuck (h.flagChange rfl _ _)

theorem waitEvent (link : Link) (e : LineEvent) (s : State) : R s (waitEvent link e s) := by
  unfold Machine.waitEvent
  split
  · exact h.ite fun _ => h.setIface link _ s
  · exact h.becomeIdle link s
  all_goals exact h.refl s

theorem setHeard (link : Link) (w : Heard) (s : State) : R s (setHeard link w s) := by
  cases link <;> exact h.aside rfl

/-! ## Transmission -/

theorem removeVtqHead (s : State) : R s (removeVtqHead s) := by
  unfold Machine.removeVtqHead
  split
  · exact h.refl s
  · next hq => exact h.vtqPopped hq

theorem beginAttempt (s : State) : R s (beginAttempt s) := by
  unfold Machine.beginAttempt
  split
  · exact h.refl s
  · next e rest hq => exact h.trans (h.vtqHead hq (e' := e.begin_) ⟨rfl, rfl, fun _ => rfl⟩) (h.aside rfl)

theorem vehicleSent (s : State) : R s (vehicleSent s) := by
  have hsent : R s { s with run.vli.sending := none, run.vli.iface := s.run.vli.iface.toState .ifrWait } :=
    h.aside rfl
  unfold Machine.vehicleSent
  dsimp only
  split
  · exact hsent
  · next e rest hq =>
    split
    · exact h.trans hsent (h.vtqHead hq ⟨rfl, rfl, id⟩)
    · exact h.trans hsent (h.removeVtqHead _)

theorem loseArbitration (s : State) : R s (loseArbitration s) := by
  have hstopped : R s { s with run.vli.sending := none } := h.aside rfl
  have hremoved : R s (if s.mode = .shutdown then Machine.removeVtqHead { s with run.vli.sending := none }
      else { s with run.vli.sending := none }) := by
    split
    · exact h.trans hstopped (h.removeVtqHead _)
    · exact hstopped
  unfold Machine.loseArbitration
  dsimp only
  split
  · exact h.trans hremoved (h.presentHeader .vehicle _)
  · exact hremoved

theorem abandonHead (s : State) : R s (abandonHead s) := by
  have habandoned : R s { s with run.mu.transmitAbandoned := true } := h.aside rfl
  exact h.trans habandoned (h.removeVtqHead _)

theorem failAttempt (s : State) : R s (failAttempt s) := by
  have hfailed : R s { s with run.vli.sending := none, run.vli.iface := s.run.vli.iface.toState .errorWait } :=
    h.aside rfl
  unfold Machine.failAttempt
  dsimp only
  split
  · exact hfailed
  · next e rest hq =>
    split
    · exact h.trans hfailed (h.abandonHead _)
    · exact h.trans hfailed (h.vtqHead hq ⟨rfl, rfl, id⟩)

theorem countIfrBit (link : Link) (s : State) : R s (countIfrBit link s) := h.setIface link _ s

theorem sentIfr (s : State) : R s (sentIfr s) := by
  have hsent : R s { s with run.vli.ifr := none } := h.aside rfl
  exact h.trans hsent (h.ifrWasSent _)

theorem loseIfr (s : State) : R s (loseIfr s) := by
  have hlost : R s { s with run.vli.ifr := none } := h.aside rfl
  exact h.trans (h.trans hlost (h.flagChange rfl _ _)) (h.ifrFailed _)

theorem failIfr (s : State) : R s (failIfr s) := by
  have hfailed : R s { s with run.vli.ifr := none, run.vli.iface := s.run.vli.iface.toState .errorWait } :=
    h.aside rfl
  exact h.trans hfailed (h.ifrFailed _)

theorem beginIfr (s : State) : R s (beginIfr s) := h.aside rfl

theorem ifrEvent (f : Ifr) (e : LineEvent) (s : State) : R s (ifrEvent f e s) := by
  unfold Machine.ifrEvent
  dsimp only
  split
  · split
    · split
      · split
        · exact h.trans (h.countIfrBit .vehicle s) (h.sentIfr _)
        · exact h.countIfrBit .vehicle s
      · exact h.failIfr s
    · exact h.ite fun _ => h.loseIfr s
    · split
      · exact h.refl s
      · exact h.failIfr s
    · exact h.failIfr s
    · exact h.failIfr s
    all_goals exact h.refl s
  · split
    · exact h.beginIfr s
    · exact h.beginIfr s
    all_goals exact h.refl s

theorem quietEvent (link : Link) (e : LineEvent) (s : State) : R s (quietEvent link e s) := by
  unfold Machine.quietEvent
  dsimp only
  split
  · split
    · exact h.countIfrBit link s
    · exact h.discardFrame link _ s
  · split
    · exact h.refl s
    · exact h.discardFrame link _ s
  · split
    · exact h.refl s
    · exact h.discardFrame link _ s
  · exact h.setIface link _ s
  all_goals exact h.refl s

theorem driveDisplay (q : DliQueue) (e : QEntry) (s : State) : R s (driveDisplay q e s) := h.aside rfl

theorem beginDisplay (s : State) : R s (beginDisplay s) := by
  unfold Machine.beginDisplay
  split
  · next e rest hq => exact h.trans (h.duqHead hq (e' := e.begin_) rfl) (h.driveDisplay _ _ _)
  · next e rest hd hq =>
    exact h.trans (h.drq (q := e.begin_ :: rest) fun hlen => by simpa [hq] using hlen) (h.driveDisplay _ _ _)
  · exact h.refl s

theorem urgentSent (s : State) : R s (urgentSent s) := by
  unfold Machine.urgentSent
  split
  · exact h.refl s
  · next e rest hq =>
    split
    · exact h.duqHead hq rfl
    · exact h.duqPopped hq

theorem endTest (read : LoopRead) (s : State) : R s (endTest read s) := by
  unfold Machine.endTest
  exact h.trans (h.aside (by rfl)) (h.linkTestReport _ _ _)

end Core

end Sys2Proof.Machine
end

section
/-! PROOFS. The larger changes, in whose middle a law may fail: the frame signals, the routes' supervision,
the supply flags, SERVICE, and the activation of tables; and what the two links make of them. -/

namespace Sys2Proof.Machine

/-- A relation that each small change keeps, and what a supply flag and the entry into SERVICE bring. -/
structure Calm (R : State → State → Prop) : Prop extends Core R where
  enterService : ∀ {s}, s.mode = .run → interlock s = true → R s (enterService s)
  setUnder : ∀ s, R s (setUnder s)
  clearUnder : ∀ s, R s (clearUnder s)
  setOver : ∀ s, R s (setOver s)
  clearOver : ∀ s, R s (clearOver s)

/-- A relation that each small change keeps, and each larger one from its start to its end. -/
structure Kept (R : State → State → Prop) : Prop extends Calm R where
  forcedExit : ∀ s, R s (forcedExit s)
  signalEvent : ∀ {s t i d e}, FrameEntry s i d e → R (putSignal s i e) t →
    SameInterlock (putSignal s i e) t → R s (roadSpeedEvent i t)
  inputSample : ∀ n s level, R s (inputSample n s level)
  supervised : ∀ {s t n r f}, routeAt s n = some r → (f = refreshed ∨ f = expiredRoute) →
    R (updRoute n f s) t → R s (superviseRoutes t)
  restart : ∀ {s} levels, serviceValidating s = true → R s (restart levels s)

/-! ## What the road-speed interlock reads -/

theorem SameInterlock.refl (s : State) : SameInterlock s s := ⟨rfl, rfl, rfl, rfl, fun _ _ => rfl⟩

theorem SameInterlock.trans {s t u : State} (h : SameInterlock s t) (h' : SameInterlock t u) :
    SameInterlock s u := by
  obtain ⟨hmode, hparams, hinputs, htable, hsignals⟩ := h
  obtain ⟨kmode, kparams, kinputs, ktable, ksignals⟩ := h'
  exact ⟨kmode.trans hmode, kparams.trans hparams, kinputs.trans hinputs, ktable.trans htable,
    fun k hk => (ksignals k hk).trans (hsignals k hk)⟩

theorem WarningsOnly.sameInterlock {s t : State} (h : WarningsOnly s t) : SameInterlock s t :=
  ⟨h.mode, congrArg Dtu.params h.dtu, congrArg Iu.inputs h.iu, congrArg Tables.inputs h.tables,
    fun k _ => congrArg (fun l => l.getD k SigEntry.initial) h.signals⟩

theorem putFlag_sameInterlock (s : State) (f : FlagId) (v : Bool) : SameInterlock s (putFlag s f v) := by
  cases f <;> exact ⟨rfl, rfl, rfl, rfl, fun _ _ => rfl⟩

theorem flagChange_sameInterlock (f : FlagId) (v : Bool) (s : State) : SameInterlock s (flagChange f v s) :=
  (putFlag_sameInterlock s f v).trans (flagChange_frame f v s).sameInterlock

theorem signalAt_putSignal (s : State) (i k : Nat) (e : SigEntry) (h : k ≠ i) :
    signalAt (putSignal s i e) k = signalAt s k := by
  simp only [signalAt, putSignal, List.getD_eq_getElem?_getD, updAt_getElem?]
  rw [if_neg h]

theorem writeInternal_sameInterlock {k : Nat} (hk : 160 ≤ k) (e : SigEntry) (s : State) :
    SameInterlock s (writeInternal k e s) := by
  refine .trans (t := putSignal s k e) ⟨rfl, rfl, rfl, rfl, fun i hi => ?_⟩
    (conditionsOnSignal_frame k _).sameInterlock
  exact signalAt_putSignal s k i e (by omega)

theorem writeSlotSignal_sameInterlock (slot : Nat) (s : State) : SameInterlock s (writeSlotSignal slot s) := by
  unfold writeSlotSignal
  split
  · exact writeInternal_sameInterlock (by omega) _ s
  · exact .refl s

theorem bindingOutputs_sameInterlock (slot : Nat) (before : Stage) (s : State) :
    SameInterlock s (bindingOutputs slot before s) := by
  unfold bindingOutputs
  refine .trans ?_ (noticeIfOn_frame _ _).sameInterlock
  have hstage := (writeSlotSignal_sameInterlock slot s).trans (stageChange_frame slot before _).sameInterlock
  split
  · exact hstage.trans (flagChange_sameInterlock _ _ _)
  · exact hstage

theorem putBindings_sameInterlock {s : State} {t : Dtu} (ht : t.params = s.dtu.params) :
    SameInterlock s (putBindings t s) := by
  have hput : SameInterlock s { s with dtu := t } := ⟨rfl, ht, rfl, rfl, fun _ _ => rfl⟩
  unfold putBindings
  dsimp only
  have hfirst : SameInterlock s (if t.slot1 = s.dtu.slot1 then { s with dtu := t }
      else bindingOutputs 1 (slotStage s 1) { s with dtu := t }) := by
    split
    · exact hput
    · exact hput.trans (bindingOutputs_sameInterlock _ _ _)
  split
  · exact hfirst
  · exact hfirst.trans (bindingOutputs_sameInterlock _ _ _)

/-! ## The working record in a change of the slots -/

@[simp] theorem setSlot_params (slot : Nat) (d : Option Nat) (t : Dtu) : (setSlot slot d t).params = t.params := by
  unfold setSlot
  split <;> rfl

@[simp] theorem logDriver_params (k : LogKind) (slot : Option Nat) (d : Driver) (t : Dtu) :
    (logDriver k slot d t).params = t.params := by
  unfold logDriver appendLog
  rfl

@[simp] theorem unbind_params (slot : Nat) (t : Dtu) : (unbind slot t).params = t.params := by
  unfold unbind
  split
  · rfl
  · dsimp only
    split <;> simp

@[simp] theorem bind_params (slot digest : Nat) (t : Dtu) : (bind slot digest t).params = t.params := by
  unfold bind
  dsimp only
  split <;> simp [updRecord]

@[simp] theorem createRecord_params (digest : Nat) (t : Dtu) : (createRecord digest t).params = t.params := by
  unfold createRecord makeRoom
  dsimp only
  split
  · rfl
  · split <;> simp

@[simp] theorem cardPresent_params (slot digest : Nat) (t : Dtu) :
    (cardPresent slot digest t).params = t.params := by
  unfold cardPresent bindPresent
  split
  · rfl
  · split
    · split <;> simp
    · simp

theorem cardEvent_sameInterlock (slot i : Nat) (s : State) : SameInterlock s (cardEvent slot i s) := by
  unfold cardEvent
  split
  · exact .refl s
  · split
    · unfold judgeCard
      split
      · exact .refl s
      · exact putBindings_sameInterlock (unbind_params _ _)
      · split
        · exact putBindings_sameInterlock (cardPresent_params _ _ _)
        · exact .refl s
    · exact .refl s

theorem speedEvent_sameInterlock (i : Nat) (s : State) : SameInterlock s (speedEvent i s) := by
  unfold speedEvent
  split
  · split
    · unfold judgeSpeeds
      split
      · split
        · exact ⟨rfl, rfl, rfl, rfl, fun _ _ => rfl⟩
        · exact .refl s
      · exact .trans (t := { s with run.mismatch := none }) ⟨rfl, rfl, rfl, rfl, fun _ _ => rfl⟩
          (flagChange_sameInterlock _ _ _)
    · exact .refl s
  · exact .refl s

namespace Calm

variable {R : State → State → Prop} (h : Calm R)
include h

/-! ## SERVICE, and what is carried out there -/

theorem enterServiceStep (s : State) : R s (enterServiceStep s) := by
  refine h.whenDue fun c hdue => ?_
  have hcmd := inHand_of_commandDue hdue
  unfold runEnterService
  split
  · next hlock =>
    have hmode : s.mode = .run := by simpa [CmdCode.inMode] using hcmd.2.2.2
    exact h.answered hcmd (h.enterService hmode hlock) (enterService_samePhase s) _ _
  · exact h.answer _ _ hcmd.not_replyQueued

theorem carryOut (s : State) : R s (carryOut s) := by
  unfold Machine.carryOut
  split
  · exact h.refl s
  · exact h.readStatusStep s
  · exact h.clearStatusStep s
  · exact h.enterServiceStep s
  · exact h.leaveServiceStep s
  · exact h.readEntryStep s
  · exact h.writeEntryStep s
  · exact h.readSignalStep s
  · exact h.readLogStep s
  · exact h.readDriverStep s
  · exact h.setDriveTimeStep s
  · split
    · exact h.refl s
    · exact h.lampOnStep s
    · exact h.lampOffStep s
    · exact h.lampReleaseStep s
    · exact h.gaugePositionStep s
    · exact h.gaugeReleaseStep s
    · exact h.chimePatternStep s
  · exact h.linkTestStep s

end Calm

namespace Kept

variable {R : State → State → Prop} (h : Kept R)
include h

/-! ## Frame signals and routes -/

theorem writeSignal {s : State} {i : Nat} {d : SigDesc} {e : SigEntry} (he : FrameEntry s i d e) :
    R s (writeSignal i e s) := by
  refine h.signalEvent he ?_ ?_
  · exact h.trans (h.trans (h.trans (h.watch _ _) (h.cardEvent (.inl rfl) i _))
      (h.cardEvent (.inr rfl) i _)) (h.speedEvent i _)
  · exact (((conditionsOnSignal_frame i _).sameInterlock.trans (cardEvent_sameInterlock 1 i _)).trans
      (cardEvent_sameInterlock 2 i _)).trans (speedEvent_sameInterlock i _)

theorem extractOne (payload : List Byte) (s : State) (i : Nat) : R s (extractOne payload s i) := by
  unfold Machine.extractOne
  split
  · next d hd => exact h.writeSignal ⟨hd, .inl ⟨payload, rfl⟩⟩
  · exact h.refl s

theorem markStale (s : State) (i : Nat) : R s (markStale s i) := by
  unfold Machine.markStale
  split
  · next d hd => exact h.writeSignal ⟨hd, .inr rfl⟩
  · exact h.refl s

theorem expireRoute {n : Nat} {r : LiveRoute} {s : State} (hr : routeAt s n = some r) :
    R s (expireRoute n r s) :=
  h.supervised hr (.inr rfl) (h.foldl h.markStale _ _)

theorem refreshRoute {n : Nat} {r : LiveRoute} {s : State} (hr : routeAt s n = some r) :
    R s (refreshRoute n r s) := by
  unfold Machine.refreshRoute
  dsimp only
  split
  · exact h.supervised hr (.inl rfl) (h.refl _)
  · next hstale => exact h.freshened hr hstale

theorem driverAction (payload : List Byte) (s : State) : R s (driverAction payload s) := by
  unfold Machine.driverAction
  split
  · exact h.refl s
  · split
    · exact h.acknowledge _ s
    · exact h.acknowledge _ s
    · exact h.refl s

theorem dispatch {n : Nat} {r : LiveRoute} {s : State} (hr : routeAt s n = some r) (link : Link)
    (body : List Byte) : R s (dispatch link n r body s) := by
  unfold Machine.dispatch
  have hrelayed := h.trans (h.trans (h.refreshRoute hr)
    (h.foldl (h.extractOne (payloadOf body)) (routeSignals r.cfg) _)) (h.relayFrame link n r.cfg.relay body _)
  dsimp only
  split
  · exact h.trans hrelayed (h.driverAction _ _)
  · exact hrelayed

theorem deliver (link : Link) (b : Binding) (body : List Byte) (s : State) : R s (deliver link b body s) := by
  unfold Machine.deliver
  split
  · exact h.takeCommand link body s
  · split
    · next r hr => exact h.ite fun _ => h.dispatch hr _ _
    · exact h.refl s

theorem endOfData (link : Link) (s : State) : R s (endOfData link s) := by
  unfold Machine.endOfData
  dsimp only
  split
  · exact h.discardFrame link _ s
  · exact h.trans (h.setIface link _ s) (h.deliver link _ _ _)
  · exact h.setIface link _ s

theorem receiveEvent (link : Link) (e : LineEvent) (s : State) : R s (receiveEvent link e s) := by
  unfold Machine.receiveEvent
  split
  · split
    · exact h.receiveBit link _ s
    · exact h.discardFrame link _ s
  · split
    · exact h.refl s
    · exact h.discardFrame link _ s
  · exact h.endOfData link s
  all_goals exact h.refl s

theorem sendEvent (bytes : List Byte) (e : LineEvent) (s : State) : R s (sendEvent bytes e s) := by
  have hjudged {p : Prop} [Decidable p] : R s (if p then s else Machine.failAttempt s) := by
    split
    · exact h.refl s
    · exact h.failAttempt s
  unfold Machine.sendEvent
  dsimp only
  split
  · split
    · exact h.aside rfl
    · exact h.failAttempt s
    · exact hjudged
    · exact h.failAttempt s
    all_goals exact h.refl s
  · split
    · split
      · exact h.aside rfl
      · exact h.failAttempt s
    · exact h.ite fun _ => h.loseArbitration s
    · split
      · exact h.trans (h.loseArbitration s) (h.ite fun _ => h.receiveEvent .vehicle _ _)
      · exact hjudged
    · split
      · exact h.vehicleSent s
      · exact h.failAttempt s
    all_goals exact h.refl s

theorem vehicleEvent (e : LineEvent) (s : State) : R s (vehicleEvent e s) := by
  unfold Machine.vehicleEvent
  split
  · exact h.lineStuck s
  · split
    · exact h.sendEvent _ e s
    · exact h.receiveEvent .vehicle e s
    · exact h.ifrEvent _ e s
    · exact h.quietEvent .vehicle e s
    all_goals exact h.waitEvent .vehicle e s

theorem displayEvent (e : LineEvent) (s : State) : R s (displayEvent e s) := by
  unfold Machine.displayEvent
  split
  · exact h.receiveEvent .display e s
  · exact h.quietEvent .display e s
  all_goals exact h.waitEvent .display e s

theorem lineEvent (link : Link) (e : LineEvent) (s : State) : R s (lineEvent link e s) := by
  cases link
  · exact h.vehicleEvent e s
  · exact h.displayEvent e s

theorem failLeaveService {s : State} (hval : serviceValidating s = true) : R s (failLeaveService s) := by
  simp only [serviceValidating, Bool.and_eq_true] at hval
  have hended : R s { s with run.mc.validation := none } := h.aside rfl
  unfold Machine.failLeaveService
  split
  · exact h.refl s
  · exact h.trans hended (h.answer _ _ (by rw [executing_phase hval.2]; simp))

theorem passLeaveService {s : State} (levels : BitVec 16) (hval : serviceValidating s = true) :
    R s (passLeaveService levels s) := h.ite fun _ => h.restart levels hval

/-! ## The end of a STARTUP validation -/

theorem beginGaugesAndLamps (s : State) :
    R { s with phase := .gaugesAndLamps } (beginGaugesAndLamps s) := by
  have hbegun : R { s with phase := .gaugesAndLamps }
      { s with phase := .gaugesAndLamps, run.mc.lampCheckEnded := false } := h.aside rfl
  have hplaced := h.evaluateF6 (s := { s with phase := .gaugesAndLamps, run.mc.lampCheckEnded := false })
    (.mapFrom fun n c _ => placeChannel_step { s with phase := .gaugesAndLamps, run.mc.lampCheckEnded := false } n c)
  unfold Machine.beginGaugesAndLamps
  exact h.trans (h.trans (h.trans (h.trans (h.trans hbegun hplaced) (h.reportGauges _)) (h.startLampCheck _))
    (h.notice .telltale _)) (h.startupCheck _)

end Kept

end Sys2Proof.Machine
end

section
/-! PROOFS. The larger changes, taken apart: for a relation that holds in their middle too, each follows from
the small changes and from the one or two that are its own. -/

namespace Sys2Proof.Machine

/-! ## Supply flags and channels -/

theorem freezeChannel_fault (c : Channel) : SameFault c (freezeChannel c) := by
  unfold freezeChannel SameFault
  split
  · next r hr =>
    have hs : c.state ≠ .fault := by
      intro hs
      rw [hs] at hr
      cases hr
    simp [hs]
  · rfl

theorem freezeChannel_step (c : Channel) : ChannelStep true c (freezeChannel c) := by
  unfold freezeChannel
  split
  · exact ⟨fun _ _ => rfl, fun h => (by cases h), fun _ _ => rfl⟩
  · exact .refl true c

theorem resumeChannel_fault (c : Channel) : SameFault c (resumeChannel c) := by
  unfold resumeChannel SameFault
  split
  · next r hs _ => cases r <;> simp [hs, Resume.state]
  · rfl

theorem resumeChannel_step (c : Channel) : ChannelStep false c (resumeChannel c) := by
  refine ⟨fun h => (by cases h), fun _ hc => ?_, fun hc hf => ?_⟩
  · unfold resumeChannel
    split
    · next r _ _ => exact r.state_ne_frozen
    · exact hc
  · unfold resumeChannel at hf ⊢
    split at hf
    · next r _ _ => exact absurd hf r.state_ne_frozen
    · exact hc hf

theorem supplyFault_flagChange_under (v : Bool) (s : State) :
    supplyFault (flagChange .underVoltage v s) = (v || s.run.flags.overVoltage) := by
  have hu := getFlag_flagChange .underVoltage .underVoltage v s
  have ho := getFlag_flagChange .underVoltage .overVoltage v s
  simp only [getFlag, FlagId.number, flagNumber, reduceCtorEq, if_true, if_false] at hu ho
  rw [supplyFault, hu, ho]

theorem supplyFault_flagChange_over (v : Bool) (s : State) :
    supplyFault (flagChange .overVoltage v s) = (s.run.flags.underVoltage || v) := by
  have hu := getFlag_flagChange .overVoltage .underVoltage v s
  have ho := getFlag_flagChange .overVoltage .overVoltage v s
  simp only [getFlag, FlagId.number, flagNumber, reduceCtorEq, if_true, if_false] at hu ho
  rw [supplyFault, hu, ho]

theorem chimeStep_abandon (s : State) : ChimeStep s s.run.tu.chime.abandon := by
  unfold Chime.abandon
  split
  · next cur hplaying =>
    refine chimeStep_of_playing (by simp [hplaying]) fun hq => ?_
    dsimp only
    split
    · exact queuePattern_order _ _ hq
    · exact hq
  · exact ⟨id, fun _ => id, fun _ => id⟩

namespace Core

variable {R : State → State → Prop} (h : Core R)
include h

theorem freezeGauges {s : State} (hsupply : supplyFault s = true) : R s (freezeGauges s) :=
  h.mapChannels (fun _ c => hsupply ▸ freezeChannel_step c) fun _ c => freezeChannel_fault c

theorem resumeGauges (s : State) : R s (resumeGauges s) := by
  unfold Machine.resumeGauges
  split
  · exact h.refl s
  · next hsupply =>
    exact h.mapChannels (fun _ c => (Bool.eq_false_iff.2 hsupply) ▸ resumeChannel_step c)
      fun _ c => resumeChannel_fault c

theorem abandonChime (s : State) : R s (abandonChime s) := h.chime (chimeStep_abandon s)

theorem chimeResume (s : State) : R s (chimeResume s) := by
  refine h.ite fun hsilent => h.chime ⟨fun hq => chimeOrder_next hq, fun hset => ?_, fun _ hc => ?_⟩
  · rw [hsilent.2] at hset
    cases hset
  · rw [hc]
    rfl

theorem setUnder_of (hput : ∀ s v, R s (putFlag s .underVoltage v)) (s : State) : R s (setUnder s) := by
  have hcounts : R s { s with run.iu.low := 0, run.iu.lowClear := 0 } := h.aside rfl
  exact h.trans (h.trans (h.trans hcounts (h.flagDelivered (hput _ true)))
    (h.freezeGauges (by rw [supplyFault_flagChange_under]; rfl))) (h.abandonChime _)

theorem clearUnder_of (hput : ∀ s v, R s (putFlag s .underVoltage v)) (s : State) : R s (clearUnder s) := by
  have hcounts : R s { s with run.iu.low := 0, run.iu.lowClear := 0 } := h.aside rfl
  exact h.trans (h.trans (h.trans hcounts (h.flagDelivered (hput _ false))) (h.resumeGauges _)) (h.chimeResume _)

theorem driveLamps (s : State) : R s (driveLamps s) :=
  h.drive_same (.refl (fun _ => ⟨⟨rfl, rfl, rfl⟩, rfl⟩) _)

theorem setOver_of (hput : ∀ s v, R s (putFlag s .overVoltage v)) (s : State) : R s (setOver s) := by
  have hcounts : R s { s with run.iu.high := 0, run.iu.highClear := 0 } := h.aside rfl
  exact h.trans (h.trans (h.trans hcounts (h.flagDelivered (hput _ true)))
    (h.freezeGauges (by rw [supplyFault_flagChange_over, Bool.or_true]))) (h.driveLamps _)

theorem clearOver_of (hput : ∀ s v, R s (putFlag s .overVoltage v)) (s : State) : R s (clearOver s) := by
  have hcounts : R s { s with run.iu.high := 0, run.iu.highClear := 0 } := h.aside rfl
  exact h.trans (h.trans (h.trans hcounts (h.flagDelivered (hput _ false))) (h.resumeGauges _)) (h.driveLamps _)

/-! ## SERVICE -/

/-- What follows the fall of F13 at the forced exit. -/
theorem forcedExit_left {s u : State} (hservice : s.mode = .service)
    (hput : R u (putFlag { s with mode := .run } .service false)) : R u (forcedExit s) := by
  unfold forcedExit
  rw [if_pos hservice]
  have hleft := h.flagDelivered hput
  exact h.trans (h.trans (h.trans (h.trans hleft (h.releaseForcings _)) (h.requestRepeat _))
    (h.abandonLeaveService _)) (h.noticeIfOn .status _)

theorem forcedExit_of (hmode : ∀ s, s.mode = .service → R s { s with mode := .run })
    (hput : ∀ s v, R s (putFlag s .service v)) (s : State) : R s (forcedExit s) := by
  by_cases hservice : s.mode = .service
  · exact h.forcedExit_left hservice (h.trans (hmode s hservice) (hput _ false))
  · unfold forcedExit
    rw [if_neg hservice]
    exact h.refl s

/-- What follows the rise of F13 at the entry into SERVICE. -/
theorem enterService_entered {s u : State} (hput : R u (putFlag { s with mode := .service } .service true)) :
    R u (enterService s) :=
  h.trans (h.trans (h.flagDelivered hput) (h.chimeSilence _)) (h.noticeIfOn .status _)

theorem enterService_of (hmode : ∀ s, s.mode = .run → R s { s with mode := .service })
    (hput : ∀ s v, R s (putFlag s .service v)) {s : State} (hrun : s.mode = .run) : R s (enterService s) :=
  h.enterService_entered (h.trans (hmode s hrun) (hput _ true))

/-! ## Frame signals, inputs and routes -/

theorem roadSpeedEvent_of (hexit : ∀ s, R s (forcedExit s)) (i : Nat) (s : State) :
    R s (roadSpeedEvent i s) := by
  unfold Machine.roadSpeedEvent
  split
  · split
    · exact h.ite fun _ => hexit s
    · exact h.refl s
  · exact h.refl s

theorem inputEdge_of (hexit : ∀ s, R s (forcedExit s)) (n : Nat) (role : Role) (active : Bool) (s : State) :
    R s (inputEdge n role active s) := by
  have hconditions : R s (conditionsOnInput n s) := h.watch _ s
  unfold inputEdge
  dsimp only
  split
  · exact hconditions
  · split
    · exact h.trans hconditions (h.acknowledge _ _)
    · exact hconditions
  · split
    · exact hconditions
    · exact h.trans hconditions (hexit _)

theorem inputSample_of
    (hinput : ∀ (s : State) (n : Nat) (d : Debounce), R s { s with run.iu.inputs := updAt s.run.iu.inputs n fun _ => d })
    (hexit : ∀ s, R s (forcedExit s)) (n : Nat) (s : State) (level : Bool) : R s (inputSample n s level) := by
  refine h.ite fun _ => ?_
  split
  · dsimp only
    split
    · exact h.trans (hinput s n _) (h.inputEdge_of hexit _ _ _ _)
    · exact hinput s n _
  · exact h.refl s
  · exact h.refl s

theorem superviseRoutes_of (hdisplay : ∀ s v, R s (putFlag s .displayLost v))
    (hgateway : ∀ s v, R s (putFlag s .gatewayLost v)) (htacho : ∀ s v, R s (putFlag s .tachoLost v))
    (s : State) : R s (superviseRoutes s) :=
  h.trans (h.trans (h.flagDelivered (hdisplay _ _)) (h.flagDelivered (hgateway _ _)))
    (h.flagDelivered (htacho _ _))

/-! ## Activation -/

theorem unboundUnobserved (s : State) : R s { s with dtu := unbindUnobserved s.dtu } := by
  have hunbind (slot : Nat) (hslot : slot = 1 ∨ slot = 2) (t : Dtu) :
      R { s with dtu := t } { s with dtu := unbind slot t } :=
    h.rebound (s := { s with dtu := t }) ⟨slot, hslot, .inl rfl⟩
  unfold unbindUnobserved
  dsimp only
  split <;> split
  · exact h.trans (hunbind 1 (.inl rfl) s.dtu) (hunbind 2 (.inr rfl) _)
  · exact hunbind 1 (.inl rfl) s.dtu
  · exact hunbind 2 (.inr rfl) s.dtu
  · exact h.refl s

theorem mismatchCleared (s : State) :
    R s (Machine.flagChange .speedMismatch false { s with run.mismatch := none }) := by
  have hstopped : R s { s with run.mismatch := none } := h.aside rfl
  exact h.trans hstopped (h.flagChange rfl _ _)

theorem replaceParams_of {p : DriveParams} {w : WorkState}
    (hparams : ∀ s, R s { s with dtu.params := p, dtu.paramState := w })
    (hassessed : ∀ s, R s { s with dtu.drivers := s.dtu.drivers.map (assess p) }) (s : State) :
    R s (replaceParams p w s) := by
  have hbound := h.trans (hparams s) (h.putBindings (h.unboundUnobserved _))
  have hlimits := h.trans (h.trans hbound (h.mismatchCleared _)) (hassessed _)
  exact h.trans (h.trans (h.trans (h.trans hlimits (h.writeSlotSignals _)) (h.stageChanges s _))
    (h.refreshUnsynced _)) (h.noticeIfOn .drivetime _)

theorem activate_of {new : NewTables} {levels : BitVec 16}
    (hcount : ∀ (s : State) (n : Nat), R s { s with run.mc.disabledCount := n, run.flags.configFault := decide (n ≠ 0) })
    (htables : ∀ s, R s { s with run.tables := new.working })
    (hsampling : ∀ s, R s (startSampling levels s))
    (hreplaced : ∀ s, R s (replaceParams new.params new.drive.workState s))
    (hfilter : ∀ s, R s (filterAlerts s)) (hfirst : ∀ s, R s (firstEvaluation s)) (s : State) :
    R s (activate new levels s) := by
  have hstore : R { s with run.mc.disabledCount := new.failures.length
                           run.flags.configFault := decide (new.failures.length ≠ 0) }
      (putFlag { s with run.mc.disabledCount := new.failures.length, run.mu.storeDiffers := false } .configFault
        (decide (new.failures.length ≠ 0))) := h.aside rfl
  have hflag := h.flagDelivered (f := .configFault) (h.trans (hcount s new.failures.length) hstore)
  exact h.trans (h.trans (h.trans (h.trans (h.trans hflag (htables _)) (hsampling _)) (hreplaced _)) (hfilter _))
    (hfirst _)

end Core

/-! ## The phase through an activation -/

theorem bindingOutputs_samePhase (slot : Nat) (before : Stage) (s : State) :
    SamePhase s (bindingOutputs slot before s) := by
  unfold bindingOutputs
  refine .trans ?_ (noticeIfOn_frame _ _).samePhase
  have hstage := (writeSlotSignal_samePhase slot s).trans (stageChange_frame slot before _).samePhase
  split
  · exact hstage.trans (flagChange_samePhase _ _ _)
  · exact hstage

theorem putBindings_samePhase (t : Dtu) (s : State) : SamePhase s (putBindings t s) := by
  have hfirst : SamePhase s (if t.slot1 = s.dtu.slot1 then { s with dtu := t }
      else bindingOutputs 1 (slotStage s 1) { s with dtu := t }) := by
    split
    · rfl
    · exact bindingOutputs_samePhase 1 _ { s with dtu := t }
  unfold putBindings
  dsimp only
  split
  · exact hfirst
  · exact hfirst.trans (bindingOutputs_samePhase _ _ _)

theorem writeSlotSignals_samePhase (s : State) : SamePhase s (writeSlotSignals s) :=
  (writeSlotSignal_samePhase 1 s).trans (writeSlotSignal_samePhase 2 _)

theorem replaceParams_samePhase (p : DriveParams) (w : WorkState) (s : State) :
    SamePhase s (replaceParams p w s) := by
  unfold replaceParams
  refine .trans ?_ (noticeIfOn_frame _ _).samePhase
  refine .trans ?_ (flagChange_samePhase _ _ _)
  refine .trans ?_ ((stageChange_frame 1 _ _).samePhase.trans (stageChange_frame 2 _ _).samePhase)
  refine .trans ?_ (writeSlotSignals_samePhase _)
  have hbound := putBindings_samePhase
    (unbindUnobserved { s.dtu with params := p, paramState := w }) { s with dtu.params := p, dtu.paramState := w }
  exact .trans (t := flagChange .speedMismatch false { putBindings _ _ with run.mismatch := none })
    (.trans hbound (flagChange_samePhase _ _ { putBindings _ _ with run.mismatch := none })) rfl

theorem activate_samePhase (new : NewTables) (levels : BitVec 16) (s : State) :
    SamePhase s (activate new levels s) := by
  unfold activate
  refine .trans ?_ (runTasks_frame _ _).samePhase
  refine .trans (t := filterAlerts _) ?_ rfl
  refine .trans ?_ (filterAlerts_frame _).samePhase
  refine .trans ?_ (replaceParams_samePhase _ _ _)
  exact .trans (t := flagChange _ _ { s with run.mc.disabledCount := _, run.mu.storeDiffers := false })
    (flagChange_samePhase _ _ { s with run.mc.disabledCount := _, run.mu.storeDiffers := false }) rfl

theorem releaseForcings_samePhase (s : State) : SamePhase s (releaseForcings s) := rfl

/-- R168 step 2: the state of the restart after the reset. -/
def restartReset (s : State) : State := { releaseForcings s with run := restartRun (releaseForcings s).run }

/-- R168 step 4: the channels under the new tables. -/
def restartPlaced (s : State) : State := reportGauges (mapChannels (restartChannel s) s)

/-- R168 step 5: the outputs, and the Tell-tale notice. -/
def restartShown (s : State) : State := placeNotice .telltale (driveLamps (writeSlotSignals s))

/-- R168 step 5: RUN, with the STATUS notice. -/
def restartRuns (s : State) : State := noticeIfOn .status { s with mode := .run }

/-- The state of the restart before its REPLY. -/
def restarted (levels : BitVec 16) (s : State) : State :=
  restartRuns (restartShown (restartPlaced
    (activate (validate (restartReset s).store) levels (restartReset s))))

theorem restart_eq (levels : BitVec 16) (s : State) : restart levels s = answer .ok [] (restarted levels s) := rfl

theorem restartReset_samePhase (s : State) : SamePhase s (restartReset s) := rfl

theorem restartPlaced_samePhase (s : State) : SamePhase s (restartPlaced s) := rfl

theorem restartShown_samePhase (s : State) : SamePhase s (restartShown s) :=
  ((writeSlotSignals_samePhase s).trans (driveLamps_frame _).samePhase).trans (placeNotice_frame _ _).samePhase

theorem restartRuns_samePhase (s : State) : SamePhase s (restartRuns s) :=
  .trans (t := { s with mode := .run }) rfl (noticeIfOn_frame _ _).samePhase

theorem restarted_samePhase (levels : BitVec 16) (s : State) : SamePhase s (restarted levels s) :=
  ((((restartReset_samePhase s).trans (activate_samePhase _ levels _)).trans (restartPlaced_samePhase _)).trans
    (restartShown_samePhase _)).trans (restartRuns_samePhase _)

namespace Core

variable {R : State → State → Prop} (h : Core R)
include h

theorem restartShown (s : State) : R s (restartShown s) :=
  h.trans (h.trans (h.writeSlotSignals s) (h.driveLamps _)) (h.notice .telltale _)

/-- The restart, for a relation that holds before its REPLY. -/
theorem restart_of_restarted {s : State} {levels : BitVec 16} (hval : serviceValidating s = true)
    (hr : R s (restarted levels s)) : R s (restart levels s) := by
  simp only [serviceValidating, Bool.and_eq_true] at hval
  rw [restart_eq]
  exact h.trans hr (h.answer _ _ (by rw [restarted_samePhase levels s, executing_phase hval.2]; simp))

theorem restarted_of {levels : BitVec 16} (hrun : ∀ s, R s { s with run := restartRun s.run })
    (hactivate : ∀ s, R s (activate (validate s.store) levels s))
    (hplaced : ∀ s, R s (Machine.mapChannels (restartChannel s) s))
    (hmode : ∀ s, R s { s with mode := .run }) (s : State) : R s (restarted levels s) := by
  have hreset : R s (restartReset s) := h.trans (h.releaseForcings s) (hrun _)
  have hgauges := h.trans (h.trans (h.trans hreset (hactivate _)) (hplaced _)) (h.reportGauges _)
  exact h.trans (h.trans (h.trans hgauges (h.restartShown _)) (hmode _)) (h.noticeIfOn .status _)

theorem restart_of {s : State} {levels : BitVec 16} (hval : serviceValidating s = true)
    (hrun : ∀ s, R s { s with run := restartRun s.run })
    (hactivate : ∀ s, R s (activate (validate s.store) levels s))
    (hplaced : ∀ s, R s (Machine.mapChannels (restartChannel s) s))
    (hmode : ∀ s, R s { s with mode := .run }) : R s (restart levels s) :=
  h.restart_of_restarted hval (h.restarted_of hrun hactivate hplaced hmode s)

end Core

end Sys2Proof.Machine
end

section
/-! PROOFS. Paths: what holds of every relation that the small and the larger changes keep; and the modes
along a path. -/

namespace Sys2Proof.Machine

/-- `t` is reached from `s` by the changes that every relation of a kind keeps. -/
def PathOf (K : (State → State → Prop) → Prop) (s t : State) : Prop := ∀ R, K R → R s t

theorem pathOf_core {K : (State → State → Prop) → Prop} (h : ∀ R, K R → Core R) : Core (PathOf K) where
  refl s R hR := (h R hR).refl s
  trans hst htu R hR := (h R hR).trans (hst R hR) (htu R hR)
  aside ha R hR := (h R hR).aside ha
  freeFlag hf v s R hR := (h R hR).freeFlag hf v s
  notice k s R hR := (h R hR).notice k s
  watch p s R hR := (h R hR).watch p s
  delay hc hr R hR := (h R hR).delay hc hr
  acknowledge found s R hR := (h R hR).acknowledge found s
  chime hc R hR := (h R hR).chime hc
  alertTimes hf s R hR := (h R hR).alertTimes hf s
  condTimes s R hR := (h R hR).condTimes s
  relayed replaces he hq R hR := (h R hR).relayed replaces he hq
  drq hq R hR := (h R hR).drq hq
  vtqHead hq he R hR := (h R hR).vtqHead hq he
  vtqPopped hq R hR := (h R hR).vtqPopped hq
  duqHead hq he R hR := (h R hR).duqHead hq he
  duqPopped hq R hR := (h R hR).duqPopped hq
  emptied s R hR := (h R hR).emptied s
  muPhase hs hp R hR := (h R hR).muPhase hs hp
  replyAwaited s R hR := (h R hR).replyAwaited s
  replyDropped hs hsame hst R hR := (h R hR).replyDropped hs hsame (hst R hR)
  replyVtq hs he hf hq R hR := (h R hR).replyVtq hs he hf hq
  replyDuq hs he R hR := (h R hR).replyDuq hs he
  busyPlaced hs he R hR := (h R hR).busyPlaced hs he
  internal he R hR := (h R hR).internal he
  rebound ht R hR := (h R hR).rebound ht
  minute s R hR := (h R hR).minute s
  loaded slot digest splitDone s hc hd R hR := (h R hR).loaded slot digest splitDone s hc hd
  channels hl hv R hR := (h R hR).channels hl hv
  drive check hl R hR := (h R hR).drive check hl
  loads hl hout hv R hR := (h R hR).loads hl hout hv
  lampCheckTick s R hR := (h R hR).lampCheckTick s
  routeTimes hf s R hR := (h R hR).routeTimes hf s
  freshened hr hf R hR := (h R hR).freshened hr hf
  runs hs R hR := (h R hR).runs hs
  stored payload s R hR := (h R hR).stored payload s

/-- `t` is reached from `s` by small changes, changes of the supply flags and entries into SERVICE. -/
def CalmPath : State → State → Prop := PathOf Calm

/-- `t` is reached from `s` by small and larger changes. -/
def Path : State → State → Prop := PathOf Kept

theorem calmPath_core : Core CalmPath := pathOf_core fun _ h => h.toCore

theorem calmPath_calm : Calm CalmPath where
  toCore := calmPath_core
  enterService hm hl _ h := h.enterService hm hl
  setUnder s _ h := h.setUnder s
  clearUnder s _ h := h.clearUnder s
  setOver s _ h := h.setOver s
  clearOver s _ h := h.clearOver s

theorem path_core : Core Path := pathOf_core fun _ h => h.toCore

theorem path_kept : Kept Path where
  toCore := path_core
  enterService hm hl _ h := h.enterService hm hl
  setUnder s _ h := h.setUnder s
  clearUnder s _ h := h.clearUnder s
  setOver s _ h := h.setOver s
  clearOver s _ h := h.clearOver s
  forcedExit s _ h := h.forcedExit s
  signalEvent he hst hsame R h := h.signalEvent he (hst R h) hsame
  inputSample n s level _ h := h.inputSample n s level
  supervised hr hf hst R h := h.supervised hr hf (hst R h)
  restart levels hv _ h := h.restart levels hv

theorem CalmPath.path {s t : State} (h : CalmPath s t) : Path s t := fun R hR => h R hR.toCalm

/-! ## The modes along a path -/

/-- The modes that a path does not leave: STANDBY, SHUTDOWN, and the three in which the ignition is on. -/
def Mode.ignition : Mode → Option Bool
  | .standby => none
  | .shutdown => some false
  | .startup | .run | .service => some true

/-- The ignition's part of the mode is as it was. -/
def SameIgnition (s t : State) : Prop := t.mode.ignition = s.mode.ignition

theorem SameIgnition.of_mode {s t : State} (h : t.mode = s.mode) : SameIgnition s t := congrArg Mode.ignition h

theorem SameIgnition.trans {s t u : State} (h : SameIgnition s t) (h' : SameIgnition t u) : SameIgnition s u :=
  Eq.trans h' h

theorem replyLeft_mode (o : Origin) (s : State) : (replyLeft o s).mode = s.mode := by
  unfold replyLeft
  split
  · split <;> rfl
  all_goals rfl

theorem reportRemoved_mode (l : List QEntry) (s : State) : (reportRemoved l s).mode = s.mode := by
  unfold reportRemoved
  induction l generalizing s with
  | nil => rfl
  | cons e l ih => exact (ih _).trans (replyLeft_mode _ s)

theorem flagChange_mode (f : FlagId) (v : Bool) (s : State) : (flagChange f v s).mode = s.mode :=
  (flagChange_frame f v s).mode.trans (putFlag_mode s f v)

theorem ignition_core : Core SameIgnition where
  refl _ := rfl
  trans h h' := h.trans h'
  aside ha := .of_mode ha.mode
  freeFlag _ v s := .of_mode (putFlag_mode s _ v)
  notice k s := .of_mode (placeNotice_frame k s).mode
  watch _ s := .of_mode (runTasks_frame _ s).mode
  delay _ _ := .of_mode (changeCondition_frame _ _ _).mode
  acknowledge found s := .of_mode (acknowledge_frame found s).mode
  chime _ := rfl
  alertTimes _ _ := rfl
  condTimes _ := rfl
  relayed _ _ _ := rfl
  drq _ := rfl
  vtqHead _ _ := rfl
  vtqPopped _ := .of_mode (replyLeft_mode _ _)
  duqHead _ _ := rfl
  duqPopped _ := .of_mode (replyLeft_mode _ _)
  emptied _ := .of_mode (reportRemoved_mode _ _)
  muPhase _ _ := rfl
  replyAwaited _ := rfl
  replyDropped _ _ h := h
  replyVtq _ _ _ _ := rfl
  replyDuq _ _ := rfl
  busyPlaced _ _ := rfl
  internal _ := rfl
  rebound _ := rfl
  minute _ := rfl
  loaded _ _ _ _ _ _ := rfl
  channels _ _ := rfl
  drive _ _ := rfl
  loads _ _ _ := rfl
  lampCheckTick _ := rfl
  routeTimes _ _ := rfl
  freshened _ _ := rfl
  runs hs := by rw [SameIgnition, hs]; rfl
  stored _ _ := rfl

theorem SameIgnition.put (s : State) (f : FlagId) (v : Bool) : SameIgnition s (putFlag s f v) :=
  .of_mode (putFlag_mode s f v)

theorem SameIgnition.forcedExit (s : State) : SameIgnition s (forcedExit s) :=
  ignition_core.forcedExit_of (fun s hs => by rw [SameIgnition, hs]; rfl) (fun s => .put s _) s

theorem ignition_kept : Kept SameIgnition where
  toCore := ignition_core
  forcedExit := .forcedExit
  signalEvent _ h _ := SameIgnition.trans h (ignition_core.roadSpeedEvent_of .forcedExit _ _)
  inputSample := ignition_core.inputSample_of (fun _ _ _ => rfl) .forcedExit
  enterService hrun _ :=
    ignition_core.enterService_of (fun s hs => by rw [SameIgnition, hs]; rfl) (fun s => .put s _) hrun
  supervised _ _ h :=
    SameIgnition.trans h (ignition_core.superviseRoutes_of (fun s => .put s _) (fun s => .put s _) (fun s => .put s _) _)
  setUnder := ignition_core.setUnder_of fun s => .put s _
  clearUnder := ignition_core.clearUnder_of fun s => .put s _
  setOver := ignition_core.setOver_of fun s => .put s _
  clearOver := ignition_core.clearOver_of fun s => .put s _
  restart := by
    intro s levels hval
    refine ignition_core.restart_of_restarted hval ?_
    simp only [serviceValidating, Bool.and_eq_true, decide_eq_true_eq] at hval
    refine .trans ?_ (ignition_core.noticeIfOn _ _)
    rw [SameIgnition, hval.1.1]
    rfl

/-- A path stays in the ignition's part of the mode. -/
theorem Path.ignition {s t : State} (h : Path s t) : t.mode.ignition = s.mode.ignition := h _ ignition_kept

theorem Mode.ignition_standby {m : Mode} : m.ignition = none ↔ m = .standby := by cases m <;> simp [Mode.ignition]

theorem Mode.ignition_shutdown {m : Mode} : m.ignition = some false ↔ m = .shutdown := by
  cases m <;> simp [Mode.ignition]

theorem Path.standby_iff {s t : State} (h : Path s t) : t.mode = .standby ↔ s.mode = .standby := by
  rw [← Mode.ignition_standby, ← Mode.ignition_standby, h.ignition]

theorem Path.shutdown_iff {s t : State} (h : Path s t) : t.mode = .shutdown ↔ s.mode = .shutdown := by
  rw [← Mode.ignition_shutdown, ← Mode.ignition_shutdown, h.ignition]

end Sys2Proof.Machine
end

section
/-! PROOFS. The due steps, and that they do not end SHUTDOWN between the events of one wave. -/

namespace Sys2Proof.Machine

/-! ## A part that acts is awake -/

/-- The run domain is powered, or it is not at the values that stand for an unpowered one. -/
def Awake (s : State) : Prop := s.mode ≠ .standby ∨ s.run ≠ Run.unpowered

theorem Awake.of_powered {s : State} (h : powered s = true) : Awake s := .inl (by simpa [powered] using h)

theorem Awake.of_run {s : State} (h : s.run = Run.unpowered → False) : Awake s := .inr h

theorem entryAt_replicate_unused {α : Type} (n i : Nat) :
    entryAt (List.replicate n (Entry.unused : Entry α)) i = none := by
  simp only [entryAt, List.getD_eq_getElem?_getD, List.getElem?_replicate]
  split <;> rfl

theorem Awake.of_gauge {s : State} {n : Nat} {g : Gauge} (hg : gaugeAt s n = some g) : Awake s :=
  .of_run fun hrun => by
    have hnone : gaugeAt s n = none := by
      rw [gaugeAt, hrun]
      exact entryAt_replicate_unused 6 n
    simp [hnone] at hg

theorem Awake.of_cond {s : State} {j : Nat} {c : Condition} (hc : condAt s j = some c) : Awake s :=
  .of_run fun hrun => by
    have hnone : condAt s j = none := by
      rw [condAt, hrun]
      exact entryAt_replicate_unused 64 j
    simp [hnone] at hc

theorem Awake.of_route {s : State} {n : Nat} {r : LiveRoute} (hr : routeAt s n = some r) : Awake s :=
  .of_run fun hrun => by
    have hnone : routeAt s n = none := by
      rw [routeAt, hrun]
      exact entryAt_replicate_unused 96 n
    simp [hnone] at hr

theorem channelAt_unpowered {s : State} (hrun : s.run = Run.unpowered) (n : Nat) :
    channelAt s n = Channel.initial := by
  rw [channelAt, hrun]
  simp only [Run.unpowered, Run.initial, Gu.initial, List.getD_eq_getElem?_getD, List.getElem?_replicate]
  split <;> rfl

theorem Awake.of_coilDue {s : State} {n : Nat} (h : coilDue s n = true) : Awake s :=
  .of_run fun hrun => by
    rw [coilDue, channelAt_unpowered hrun] at h
    exact absurd h (by decide)

theorem lampRec_unpowered {s : State} (hrun : s.run = Run.unpowered) (n : Nat) :
    lampRec s n = LampRec.initial := by
  rw [lampRec, hrun]
  simp only [Run.unpowered, Run.initial, Tu.initial, List.getD_eq_getElem?_getD, List.getElem?_replicate]
  split <;> rfl

theorem Awake.of_lampOpenDue {s : State} {n : Nat} (h : lampOpenDue s n = true) : Awake s :=
  .of_run fun hrun => by
    rw [lampOpenDue, lampRec_unpowered hrun] at h
    exact absurd h (by decide)

theorem Awake.of_output {s : State} {n : Nat} (h : (lampRec s n).output = true) : Awake s :=
  .of_run fun hrun => by
    rw [lampRec_unpowered hrun] at h
    exact absurd h (by decide)

/-! ## Settling -/

/-- A relation that the due steps keep. -/
structure Calming (R : State → State → Prop) : Prop where
  refl : ∀ s, R s s
  trans : ∀ {s t u}, R s t → R t u → R s u
  calm : ∀ {s t}, Awake s → CalmPath s t → R s t
  standby : ∀ {s}, s.mode = .shutdown → R s (enterStandby s)

namespace Calming

variable {R : State → State → Prop} (h : Calming R)
include h

theorem ite {p : Prop} [Decidable p] {s t : State} (ht : p → R s t) : R s (if p then t else s) := by
  split
  · next hp => exact ht hp
  · exact h.refl s

theorem foldl {α : Type} {f : State → α → State} (hf : ∀ s a, R s (f s a)) (l : List α) (s : State) :
    R s (l.foldl f s) := by
  induction l generalizing s with
  | nil => exact h.refl s
  | cons a l ih => exact h.trans (hf s a) (ih _)

theorem standbyCheck (s : State) : R s (standbyCheck s) := h.ite fun hs => h.standby hs.1

theorem gaugesMoved {s : State} (hs : Awake s) : R s (gaugesMoved s) :=
  h.trans (h.calm hs (calmPath_core.trans (calmPath_core.reportGauges s) (calmPath_core.startupCheck _))) (h.standbyCheck _)

/-- A path in an awake part, and then the gauges' reports. -/
theorem gaugesMoved_after {s t : State} (hs : Awake s) (hst : CalmPath s t) : R s (Machine.gaugesMoved t) :=
  h.trans (h.calm hs (calmPath_core.trans hst (calmPath_core.trans (calmPath_core.reportGauges t) (calmPath_core.startupCheck _))))
    (h.standbyCheck _)

theorem overSetStep (s : State) : R s (overSetStep s) := by
  refine h.ite fun hdue => h.calm (.of_run fun hrun => ?_) (calmPath_calm.setOver s)
  rw [overSetDue, hrun] at hdue
  exact absurd hdue (by decide)

theorem underSetStep (s : State) : R s (underSetStep s) := by
  refine h.ite fun hdue => h.calm (.of_run fun hrun => ?_) (calmPath_calm.setUnder s)
  rw [underSetDue, hrun] at hdue
  exact absurd hdue (by decide)

theorem underClearStep (s : State) : R s (underClearStep s) := by
  refine h.trans (h.overSetStep s) (h.ite fun hdue => h.calm (.of_run fun hrun => ?_) (calmPath_calm.clearUnder _))
  rw [underClearDue, hrun] at hdue
  exact absurd hdue (by decide)

theorem overClearStep (s : State) : R s (overClearStep s) := by
  refine h.trans (h.underSetStep s) (h.ite fun hdue => h.calm (.of_run fun hrun => ?_) (calmPath_calm.clearOver _))
  rw [overClearDue, hrun] at hdue
  exact absurd hdue (by decide)

theorem homingStep (n : Nat) (s : State) : R s (homingStep n s) := by
  unfold Machine.homingStep
  split
  · next g hg =>
    refine h.ite fun hdue => h.gaugesMoved_after (.of_gauge hg) (calmPath_core.updChannel
      (fun c => homedChannel_step _ _ g c) fun c hc => ?_)
    have hs : c.state = .homing := by
      simp only [homingDue, Bool.and_eq_true, decide_eq_true_eq] at hdue
      rw [← channelAt_of_getElem? hc]
      exact hdue.1
    simp [SameFault, homedChannel, enterMoving_fault, hs]
  · exact h.refl s

theorem coilStep (n : Nat) (s : State) : R s (coilStep n s) :=
  h.ite fun hdue => h.gaugesMoved_after (.of_coilDue hdue) (calmPath_core.enterFault n s)

theorem lampOpenStep (n : Nat) (s : State) : R s (lampOpenStep n s) := by
  by_cases hdue : lampOpenDue s n = true
  · exact h.calm (.of_lampOpenDue hdue) (calmPath_core.lampOpenStep n s)
  · rw [Machine.lampOpenStep, if_neg hdue]
    exact h.refl s

end Calming

theorem carryOut_of_no_command {s : State} (hcmd : s.run.mu.cmd = none) : carryOut s = s := by
  simp only [carryOut, hcmd, Option.bind_none]

namespace Calming

variable {R : State → State → Prop} (h : Calming R)
include h

theorem carryOut (s : State) : R s (carryOut s) := by
  by_cases hcmd : s.run.mu.cmd = none
  · rw [carryOut_of_no_command hcmd]
    exact h.refl s
  · refine h.calm (.of_run fun hrun => hcmd ?_) (calmPath_calm.carryOut s)
    rw [hrun]
    rfl

theorem settleSupply (s : State) : R s (settleSupply s) :=
  h.trans (h.trans (h.trans (h.overSetStep s) (h.underSetStep _)) (h.underClearStep _)) (h.overClearStep _)

theorem settleGauges (s : State) : R s (settleGauges s) := by
  unfold Machine.settleGauges
  generalize List.range 6 = channels
  exact h.trans (h.foldl (fun t n => h.homingStep n t) channels s)
    (h.foldl (fun t n => h.coilStep n t) channels _)

theorem settleLamps (s : State) : R s (settleLamps s) := by
  unfold Machine.settleLamps
  generalize List.range 32 = lamps
  exact h.foldl (fun t n => h.lampOpenStep n t) lamps s

theorem settle (s : State) : R s (settle s) :=
  h.ite fun _ => h.trans (h.trans (h.trans (h.settleSupply s) (h.settleGauges _)) (h.settleLamps _)) (h.carryOut _)

end Calming

/-- A relation that the due steps keep, and every path of an awake part. -/
structure Settling (R : State → State → Prop) : Prop where
  refl : ∀ s, R s s
  trans : ∀ {s t u}, R s t → R t u → R s u
  path : ∀ {s t}, Awake s → Path s t → R s t
  standby : ∀ {s}, s.mode = .shutdown → R s (enterStandby s)

namespace Settling

variable {R : State → State → Prop} (h : Settling R)
include h

theorem calming : Calming R := ⟨h.refl, h.trans, fun hs hst => h.path hs hst.path, h.standby⟩

theorem ite {p : Prop} [Decidable p] {s t : State} (ht : p → R s t) : R s (if p then t else s) := h.calming.ite ht

theorem foldl {α : Type} {f : State → α → State} (hf : ∀ s a, R s (f s a)) (l : List α) (s : State) :
    R s (l.foldl f s) := h.calming.foldl hf l s

theorem standbyCheck (s : State) : R s (standbyCheck s) := h.calming.standbyCheck s

theorem overSetStep (s : State) : R s (overSetStep s) := h.calming.overSetStep s
theorem underSetStep (s : State) : R s (underSetStep s) := h.calming.underSetStep s
theorem underClearStep (s : State) : R s (underClearStep s) := h.calming.underClearStep s
theorem overClearStep (s : State) : R s (overClearStep s) := h.calming.overClearStep s
theorem homingStep (n : Nat) (s : State) : R s (homingStep n s) := h.calming.homingStep n s
theorem coilStep (n : Nat) (s : State) : R s (coilStep n s) := h.calming.coilStep n s
theorem lampOpenStep (n : Nat) (s : State) : R s (lampOpenStep n s) := h.calming.lampOpenStep n s
theorem settle (s : State) : R s (settle s) := h.calming.settle s

/-- A path in an awake part, and then the gauges' reports. -/
theorem gaugesMoved_after {s t : State} (hs : Awake s) (hst : Path s t) : R s (gaugesMoved t) :=
  h.trans (h.path hs (path_core.trans hst (path_core.trans (path_core.reportGauges t) (path_core.startupCheck _))))
    (h.standbyCheck _)

end Settling

/-! ## Modes along the due steps -/

/-- The due steps leave no mode but SHUTDOWN, and that for STANDBY. -/
def SettledMode (s t : State) : Prop :=
  t.mode.ignition = s.mode.ignition ∨ (s.mode = .shutdown ∧ t.mode = .standby)

theorem settledMode_settling : Settling SettledMode where
  refl _ := .inl rfl
  trans := by
    rintro s t u (hst | ⟨hs, ht⟩) (htu | ⟨ht', hu⟩)
    · exact .inl (htu.trans hst)
    · exact .inr ⟨Mode.ignition_shutdown.1 (hst.symm.trans (Mode.ignition_shutdown.2 ht')), hu⟩
    · exact .inr ⟨hs, Mode.ignition_standby.1 (htu.trans (Mode.ignition_standby.2 ht))⟩
    · exact .inr ⟨hs, hu⟩
  path _ hst := .inl hst.ignition
  standby hs := .inr ⟨hs, rfl⟩

theorem SettledMode.shutdown {s t : State} (h : SettledMode s t) (ht : t.mode = .shutdown) : s.mode = .shutdown := by
  rcases h with h | ⟨hs, -⟩
  · exact Mode.ignition_shutdown.1 (h.symm.trans (Mode.ignition_shutdown.2 ht))
  · exact hs

/-- With the ignition on, the due steps leave it on. -/
theorem SettledMode.on {s t : State} (h : SettledMode s t) (hs : s.mode.ignition = some true) :
    t.mode.ignition = some true := by
  rcases h with h | ⟨hs', -⟩
  · exact h.trans hs
  · rw [hs'] at hs
    cases hs

/-! ## What makes a gauge step due -/

/-- A step of the supply monitor or of a gauge channel is due. -/
def gaugeDue (s : State) : Bool :=
  supplyDue s || ((List.range 6).any fun n => (gaugeAt s n).isSome && homingDue s n) ||
    (List.range 6).any fun n => coilDue s n

theorem gaugeDue_eq_false {s : State} :
    gaugeDue s = false ↔ supplyDue s = false ∧
      (∀ n, n < 6 → (gaugeAt s n).isSome = true → homingDue s n = false) ∧ ∀ n, n < 6 → coilDue s n = false := by
  simp [gaugeDue, and_assoc]

theorem gaugeDue_of_not_due {s : State} (h : due s = false) : gaugeDue s = false := by
  simp only [due, Bool.or_eq_false_iff] at h
  simp only [gaugeDue, Bool.or_eq_false_iff]
  exact h.1.1

/-- What the supply monitor and the gauges' due steps read is as it was. -/
def SameSupply (s t : State) : Prop :=
  t.mode = s.mode ∧ t.run.flags.underVoltage = s.run.flags.underVoltage ∧
    t.run.flags.overVoltage = s.run.flags.overVoltage ∧ t.run.iu = s.run.iu

/-- What makes a gauge step due is as it was. -/
def SameGaugeDue (s t : State) : Prop :=
  SameSupply s t ∧ t.run.gu = s.run.gu ∧ t.run.tables.gauges = s.run.tables.gauges

theorem SameSupply.refl (s : State) : SameSupply s s := ⟨rfl, rfl, rfl, rfl⟩

theorem SameSupply.trans {s t u : State} (h : SameSupply s t) (h' : SameSupply t u) : SameSupply s u :=
  ⟨h'.1.trans h.1, h'.2.1.trans h.2.1, h'.2.2.1.trans h.2.2.1, h'.2.2.2.trans h.2.2.2⟩

theorem SameSupply.supplyDue {s t : State} (h : SameSupply s t) : supplyDue t = supplyDue s := by
  obtain ⟨-, hu, ho, hiu⟩ := h
  simp only [Machine.supplyDue, overSetDue, underSetDue, underClearDue, overClearDue, hu, ho, hiu]

theorem SameGaugeDue.refl (s : State) : SameGaugeDue s s := ⟨.refl s, rfl, rfl⟩

theorem SameGaugeDue.trans {s t u : State} (h : SameGaugeDue s t) (h' : SameGaugeDue t u) : SameGaugeDue s u :=
  ⟨h.1.trans h'.1, h'.2.1.trans h.2.1, h'.2.2.trans h.2.2⟩

theorem SameGaugeDue.gaugeDue {s t : State} (h : SameGaugeDue s t) : gaugeDue t = gaugeDue s := by
  obtain ⟨hsupply, hgu, htable⟩ := h
  have hg (n : Nat) : gaugeAt t n = gaugeAt s n := by rw [gaugeAt, htable, ← gaugeAt]
  have hc (n : Nat) : channelAt t n = channelAt s n := by rw [channelAt, hgu, ← channelAt]
  simp only [Machine.gaugeDue, homingDue, coilDue, hg, hc, hsupply.supplyDue]

theorem WarningsOnly.sameGaugeDue {s t : State} (h : WarningsOnly s t) : SameGaugeDue s t :=
  ⟨⟨h.mode, congrArg Flags.underVoltage h.flags, congrArg Flags.overVoltage h.flags, h.iu⟩, h.gu,
    congrArg Tables.gauges h.tables⟩

theorem flagChange_sameGaugeDue {f : FlagId} (hu : f ≠ .underVoltage) (ho : f ≠ .overVoltage) (v : Bool)
    (s : State) : SameGaugeDue s (flagChange f v s) := by
  refine .trans (t := putFlag s f v) ?_ (flagChange_frame f v s).sameGaugeDue
  cases f with
  | underVoltage => exact absurd rfl hu
  | overVoltage => exact absurd rfl ho
  | _ => exact ⟨⟨rfl, rfl, rfl, rfl⟩, rfl, rfl⟩

/-! ## After the supply steps none is due -/

/-- The counts of the supply monitor that a state holds, with its flags. -/
def SupplyCounts (s : State) (f9 f10 : Bool) (u : Iu) : Prop :=
  s.run.flags.underVoltage = f9 ∧ s.run.flags.overVoltage = f10 ∧ s.run.iu = u

theorem flagChange_supply (f : FlagId) (v : Bool) (s : State) :
    SupplyCounts (flagChange f v s) (if f = .underVoltage then v else s.run.flags.underVoltage)
      (if f = .overVoltage then v else s.run.flags.overVoltage) s.run.iu := by
  have hu := getFlag_flagChange f .underVoltage v s
  have ho := getFlag_flagChange f .overVoltage v s
  simp only [getFlag, FlagId.number, flagNumber] at hu ho
  refine ⟨?_, ?_, ?_⟩
  · rw [hu]
    exact if_congr eq_comm rfl rfl
  · rw [ho]
    exact if_congr eq_comm rfl rfl
  · exact (flagChange_frame f v s).iu.trans (putFlag_iu s f v)

theorem setOver_supply (s : State) :
    SupplyCounts (setOver s) s.run.flags.underVoltage true { s.run.iu with high := 0, highClear := 0 } :=
  flagChange_supply .overVoltage true { s with run.iu.high := 0, run.iu.highClear := 0 }

theorem resumeGauges_supply (s : State) :
    SupplyCounts (resumeGauges s) s.run.flags.underVoltage s.run.flags.overVoltage s.run.iu := by
  unfold resumeGauges
  split <;> exact ⟨rfl, rfl, rfl⟩

theorem clearOver_supply (s : State) :
    SupplyCounts (clearOver s) s.run.flags.underVoltage false { s.run.iu with high := 0, highClear := 0 } := by
  obtain ⟨hu, ho, hiu⟩ := flagChange_supply .overVoltage false { s with run.iu.high := 0, run.iu.highClear := 0 }
  obtain ⟨ku, ko, kiu⟩ := resumeGauges_supply
    (flagChange .overVoltage false { s with run.iu.high := 0, run.iu.highClear := 0 })
  exact ⟨ku.trans hu, ko.trans ho, kiu.trans hiu⟩

theorem setUnder_supply (s : State) :
    SupplyCounts (setUnder s) true s.run.flags.overVoltage { s.run.iu with low := 0, lowClear := 0 } :=
  flagChange_supply .underVoltage true { s with run.iu.low := 0, run.iu.lowClear := 0 }

theorem clearUnder_supply (s : State) :
    SupplyCounts (clearUnder s) false s.run.flags.overVoltage { s.run.iu with low := 0, lowClear := 0 } := by
  obtain ⟨hu, ho, hiu⟩ := flagChange_supply .underVoltage false { s with run.iu.low := 0, run.iu.lowClear := 0 }
  obtain ⟨ku, ko, kiu⟩ := resumeGauges_supply
    (flagChange .underVoltage false { s with run.iu.low := 0, run.iu.lowClear := 0 })
  have hresume (t : State) : SupplyCounts (chimeResume t) t.run.flags.underVoltage t.run.flags.overVoltage
      t.run.iu := by
    unfold chimeResume
    split <;> exact ⟨rfl, rfl, rfl⟩
  obtain ⟨ju, jo, jiu⟩ := hresume
    (resumeGauges (flagChange .underVoltage false { s with run.iu.low := 0, run.iu.lowClear := 0 }))
  exact ⟨ju.trans (ku.trans hu), jo.trans (ko.trans ho), jiu.trans (kiu.trans hiu)⟩

/-- Neither flag F10's set nor its clear is due. -/
def overQuiet (s : State) : Prop := overSetDue s = false ∧ overClearDue s = false

/-- Neither flag F9's set nor its clear is due. -/
def underQuiet (s : State) : Prop := underSetDue s = false ∧ underClearDue s = false

theorem overQuiet_setOver (s : State) : overQuiet (setOver s) := by
  obtain ⟨-, ho, hiu⟩ := setOver_supply s
  simp [overQuiet, overSetDue, overClearDue, ho, hiu]

theorem overQuiet_clearOver (s : State) : overQuiet (clearOver s) := by
  obtain ⟨-, ho, hiu⟩ := clearOver_supply s
  simp [overQuiet, overSetDue, overClearDue, ho, hiu]

theorem underQuiet_setUnder (s : State) : underQuiet (setUnder s) := by
  obtain ⟨hu, -, hiu⟩ := setUnder_supply s
  simp [underQuiet, underSetDue, underClearDue, hu, hiu]

theorem underQuiet_clearUnder (s : State) : underQuiet (clearUnder s) := by
  obtain ⟨hu, -, hiu⟩ := clearUnder_supply s
  simp [underQuiet, underSetDue, underClearDue, hu, hiu]

theorem overSetDue_of_under {s t : State} {u : Bool} {low lowClear : Nat}
    (h : SupplyCounts t u s.run.flags.overVoltage { s.run.iu with low := low, lowClear := lowClear }) :
    overSetDue t = overSetDue s := by
  obtain ⟨-, ho, hiu⟩ := h
  simp [overSetDue, ho, hiu]

theorem underDue_of_over {s t : State} {o : Bool} {high highClear : Nat}
    (h : SupplyCounts t s.run.flags.underVoltage o { s.run.iu with high := high, highClear := highClear }) :
    underSetDue t = underSetDue s ∧ underClearDue t = underClearDue s := by
  obtain ⟨hu, -, hiu⟩ := h
  simp [underSetDue, underClearDue, hu, hiu]

theorem overSetStep_quiet (s : State) : overSetDue (overSetStep s) = false := by
  unfold overSetStep
  split
  · exact (overQuiet_setOver s).1
  · next h => exact Bool.eq_false_iff.2 h

theorem underSetStep_quiet (s : State) : underSetDue (underSetStep s) = false := by
  unfold underSetStep
  split
  · exact (underQuiet_setUnder s).1
  · next h => exact Bool.eq_false_iff.2 h

theorem overSetDue_underSetStep (s : State) : overSetDue (underSetStep s) = overSetDue s := by
  unfold underSetStep
  split
  · exact overSetDue_of_under (setUnder_supply s)
  · rfl

theorem overSetStep_of_not_due {s : State} (h : overSetDue s = false) : overSetStep s = s := by
  simp [overSetStep, h]

theorem underSetStep_of_not_due {s : State} (h : underSetDue s = false) : underSetStep s = s := by
  simp [underSetStep, h]

/-- R138: once the sets are taken, the clears leave nothing due. -/
theorem settleSupply_quiet (s : State) : supplyDue (settleSupply s) = false := by
  unfold settleSupply
  have hset : overSetDue (underSetStep (overSetStep s)) = false ∧
      underSetDue (underSetStep (overSetStep s)) = false :=
    ⟨(overSetDue_underSetStep _).trans (overSetStep_quiet s), underSetStep_quiet _⟩
  generalize underSetStep (overSetStep s) = t at hset
  obtain ⟨hover, hunder⟩ := hset
  have hcleared : overSetDue (underClearStep t) = false ∧ underQuiet (underClearStep t) := by
    unfold underClearStep
    rw [overSetStep_of_not_due hover]
    dsimp only
    split
    · exact ⟨(overSetDue_of_under (clearUnder_supply t)).trans hover, underQuiet_clearUnder t⟩
    · next h => exact ⟨hover, hunder, Bool.eq_false_iff.2 h⟩
  generalize underClearStep t = u at hcleared
  obtain ⟨hover', hset', hclear'⟩ := hcleared
  have hlast : overQuiet (overClearStep u) ∧ underQuiet (overClearStep u) := by
    unfold overClearStep
    rw [underSetStep_of_not_due hset']
    dsimp only
    split
    · obtain ⟨hs, hc⟩ := underDue_of_over (clearOver_supply u)
      exact ⟨overQuiet_clearOver u, hs.trans hset', hc.trans hclear'⟩
    · next h => exact ⟨⟨hover', Bool.eq_false_iff.2 h⟩, hset', hclear'⟩
  obtain ⟨⟨h1, h2⟩, h3, h4⟩ := hlast
  simp [supplyDue, h1, h2, h3, h4]

end Sys2Proof.Machine
end

section
/-! PROOFS. In SHUTDOWN the due steps of the supply monitor and of the gauges are taken before a wave is
heard, and no event of the wave makes another one due. -/

namespace Sys2Proof.Machine

/-! ## One channel's step -/

/-- From `s` to `t` at most channel `n` changes, and nothing else that makes a gauge step due. -/
def OneChannel (n : Nat) (s t : State) : Prop :=
  SameSupply s t ∧ t.run.tables.gauges = s.run.tables.gauges ∧ ∀ k, k ≠ n → channelAt t k = channelAt s k

theorem SameGaugeDue.oneChannel {s t : State} (h : SameGaugeDue s t) (n : Nat) : OneChannel n s t :=
  ⟨h.1, h.2.2, fun k _ => by rw [channelAt, h.2.1, ← channelAt]⟩

theorem OneChannel.trans {n : Nat} {s t u : State} (h : OneChannel n s t) (h' : OneChannel n t u) :
    OneChannel n s u :=
  ⟨h.1.trans h'.1, h'.2.1.trans h.2.1, fun k hk => (h'.2.2 k hk).trans (h.2.2 k hk)⟩

theorem updChannel_oneChannel (n : Nat) (f : Channel → Channel) (s : State) :
    OneChannel n s (updChannel n f s) :=
  ⟨⟨rfl, rfl, rfl, rfl⟩, rfl, fun k hk => by rw [channelAt_updChannel, if_neg fun h => hk h.1]⟩

/-- In SHUTDOWN the gauges' reports that do not end it are only kept. -/
theorem gaugesMoved_shutdown {s : State} (h : (gaugesMoved s).mode = .shutdown) :
    gaugesMoved s = reportGauges s := by
  have hstarted : (startupCheck (reportGauges s)).mode = .shutdown := by
    unfold gaugesMoved standbyCheck at h
    split at h
    · cases h
    · exact h
  have hsame : startupCheck (reportGauges s) = reportGauges s := by
    unfold startupCheck at hstarted ⊢
    split
    · next hs =>
      rw [if_pos hs] at hstarted
      rw [(noticeIfOn_frame _ _).mode] at hstarted
      cases hstarted
    · rfl
  unfold gaugesMoved at h ⊢
  rw [hsame] at h ⊢
  unfold standbyCheck at h ⊢
  split
  · next hs =>
    rw [if_pos hs] at h
    cases h
  · rfl

theorem reportGauges_sameGaugeDue (s : State) : SameGaugeDue s (reportGauges s) := ⟨⟨rfl, rfl, rfl, rfl⟩, rfl, rfl⟩

theorem homedChannel_state (startup supply : Bool) (g : Gauge) (c : Channel) :
    (homedChannel startup supply g c).state ≠ .homing := by
  unfold homedChannel
  dsimp only
  split <;> cases supply <;> simp [enterMoving, Resume.state]

theorem homingStep_shutdown {n : Nat} {s : State} (h : (homingStep n s).mode = .shutdown) :
    OneChannel n s (homingStep n s) ∧
      ((gaugeAt (homingStep n s) n).isSome = true → homingDue (homingStep n s) n = false) := by
  unfold homingStep at h ⊢
  split at h
  · next g hg =>
    split at h
    · next hdue =>
      rw [if_pos hdue]
      unfold completeHoming at h ⊢
      rw [gaugesMoved_shutdown h]
      refine ⟨(updChannel_oneChannel n _ s).trans ((reportGauges_sameGaugeDue _).oneChannel n), fun _ => ?_⟩
      have hlen : n < s.run.gu.channels.length := by
        by_contra hlen
        rw [homingDue, channelAt_of_length_le (Nat.not_lt.1 hlen)] at hdue
        exact absurd hdue (by decide)
      have hat : channelAt (reportGauges (updChannel n (homedChannel (decide (s.mode = .startup)) (supplyFault s) g) s)) n =
          homedChannel (decide (s.mode = .startup)) (supplyFault s) g (channelAt s n) := by
        change channelAt (updChannel n _ s) n = _
        rw [channelAt_updChannel, if_pos ⟨rfl, hlen⟩]
      rw [homingDue, hat, Bool.and_eq_false_iff]
      exact .inl (decide_eq_false (homedChannel_state _ _ g _))
    · next hdue =>
      rw [if_neg hdue]
      exact ⟨(SameGaugeDue.refl s).oneChannel n, fun _ => Bool.eq_false_iff.2 hdue⟩
  · next hg => exact ⟨(SameGaugeDue.refl s).oneChannel n, fun hsome => absurd hsome (by simp [hg])⟩

theorem coilStep_shutdown {n : Nat} {s : State} (h : (coilStep n s).mode = .shutdown) :
    OneChannel n s (coilStep n s) ∧ coilDue (coilStep n s) n = false ∧
      (homingDue s n = false → homingDue (coilStep n s) n = false) := by
  unfold coilStep at h ⊢
  split at h
  · next hdue =>
    rw [if_pos hdue, gaugesMoved_shutdown h]
    have hfault : SameGaugeDue (updChannel n faultChannel s) (enterFault n s) := by
      refine .trans ?_ (noticeIfOn_frame _ _).sameGaugeDue
      exact .trans (t := evaluateF6 (updChannel n faultChannel s))
        (flagChange_sameGaugeDue (by simp) (by simp) _ _) ⟨⟨rfl, rfl, rfl, rfl⟩, rfl, rfl⟩
    have hall := hfault.trans (reportGauges_sameGaugeDue _)
    have hlen : n < s.run.gu.channels.length := by
      by_contra hlen
      rw [coilDue, channelAt_of_length_le (Nat.not_lt.1 hlen)] at hdue
      exact absurd hdue (by decide)
    have hat : channelAt (reportGauges (enterFault n s)) n = faultChannel (channelAt s n) := by
      rw [channelAt, hall.2.1, ← channelAt, channelAt_updChannel, if_pos ⟨rfl, hlen⟩]
    refine ⟨(updChannel_oneChannel n _ s).trans (hall.oneChannel n), ?_, fun _ => ?_⟩
    · rw [coilDue, hat]
      simp [coilsOpen, supervised, faultChannel, ChanState.energised]
    · rw [homingDue, hat]
      simp [faultChannel]
  · next hdue =>
    rw [if_neg hdue]
    exact ⟨(SameGaugeDue.refl s).oneChannel n, Bool.eq_false_iff.2 hdue, id⟩

/-! ## All channels' steps -/

/-- What each step of a fold brings about for its own place and keeps for the others holds for all of them. -/
theorem foldl_brings {f : State → Nat → State} {P : Nat → State → Prop} (hown : ∀ t n, P n (f t n))
    (hkeep : ∀ t n k, P k t → P k (f t n)) {l : List Nat} (s : State) {k : Nat} (hk : k ∈ l) :
    P k (l.foldl f s) := by
  induction l generalizing s with
  | nil => cases hk
  | cons n l ih =>
    have hkept (t : State) (ht : P k t) : P k (l.foldl f t) := by
      clear ih hk
      induction l generalizing t with
      | nil => exact ht
      | cons m l ih => exact ih _ (hkeep t m k ht)
    rcases List.mem_cons.1 hk with rfl | hk
    · exact hkept _ (hown s k)
    · exact ih _ hk

theorem foldl_keeps {α : Type} {f : State → α → State} {P : State → Prop} (hkeep : ∀ t a, P t → P (f t a))
    (l : List α) {s : State} (hs : P s) : P (l.foldl f s) := by
  induction l generalizing s with
  | nil => exact hs
  | cons a l ih => exact ih (hkeep s a hs)

/-- In SHUTDOWN channel `n` has no homing to complete. -/
def HomingQuiet (n : Nat) (s : State) : Prop :=
  s.mode = .shutdown → (gaugeAt s n).isSome = true → homingDue s n = false

/-- In SHUTDOWN channel `n` has no coil to fault. -/
def CoilQuiet (n : Nat) (s : State) : Prop := s.mode = .shutdown → coilDue s n = false

/-- In SHUTDOWN no supply step is due. -/
def SupplyQuiet (s : State) : Prop := s.mode = .shutdown → supplyDue s = false

theorem homingStep_modeBefore {n : Nat} {s : State} (h : (homingStep n s).mode = .shutdown) :
    s.mode = .shutdown := (settledMode_settling.homingStep n s).shutdown h

theorem coilStep_modeBefore {n : Nat} {s : State} (h : (coilStep n s).mode = .shutdown) :
    s.mode = .shutdown := (settledMode_settling.coilStep n s).shutdown h

theorem OneChannel.gaugeAt {n : Nat} {s t : State} (h : OneChannel n s t) (k : Nat) :
    gaugeAt t k = gaugeAt s k := by rw [Machine.gaugeAt, h.2.1, ← Machine.gaugeAt]

theorem OneChannel.homingDue {n k : Nat} {s t : State} (h : OneChannel n s t) (hk : k ≠ n) :
    homingDue t k = homingDue s k := by rw [Machine.homingDue, h.2.2 k hk, ← Machine.homingDue]

theorem OneChannel.coilDue {n k : Nat} {s t : State} (h : OneChannel n s t) (hk : k ≠ n) :
    coilDue t k = coilDue s k := by rw [Machine.coilDue, h.2.2 k hk, ← Machine.coilDue]

theorem homingStep_homingQuiet (s : State) (n k : Nat) (h : HomingQuiet k s) : HomingQuiet k (homingStep n s) := by
  intro hmode hsome
  obtain ⟨hone, hown⟩ := homingStep_shutdown hmode
  by_cases hk : k = n
  · subst hk
    exact hown hsome
  · rw [hone.homingDue hk]
    exact h (homingStep_modeBefore hmode) (hone.gaugeAt k ▸ hsome)

theorem coilStep_homingQuiet (s : State) (n k : Nat) (h : HomingQuiet k s) : HomingQuiet k (coilStep n s) := by
  intro hmode hsome
  obtain ⟨hone, -, hown⟩ := coilStep_shutdown hmode
  have hs := h (coilStep_modeBefore hmode) (hone.gaugeAt k ▸ hsome)
  by_cases hk : k = n
  · subst hk
    exact hown hs
  · rw [hone.homingDue hk, hs]

theorem coilStep_coilQuiet (s : State) (n k : Nat) (h : CoilQuiet k s) : CoilQuiet k (coilStep n s) := by
  intro hmode
  obtain ⟨hone, hown, -⟩ := coilStep_shutdown hmode
  by_cases hk : k = n
  · subst hk
    exact hown
  · rw [hone.coilDue hk]
    exact h (coilStep_modeBefore hmode)

theorem homingStep_supplyQuiet (s : State) (n : Nat) (h : SupplyQuiet s) : SupplyQuiet (homingStep n s) :=
  fun hmode => (homingStep_shutdown hmode).1.1.supplyDue.trans (h (homingStep_modeBefore hmode))

theorem coilStep_supplyQuiet (s : State) (n : Nat) (h : SupplyQuiet s) : SupplyQuiet (coilStep n s) :=
  fun hmode => (coilStep_shutdown hmode).1.1.supplyDue.trans (h (coilStep_modeBefore hmode))

/-- After the due steps of supply and gauges, in a part that is still in SHUTDOWN, none of them is due. -/
theorem settleGauges_quiet {s : State} (h : (settleGauges (settleSupply s)).mode = .shutdown) :
    gaugeDue (settleGauges (settleSupply s)) = false := by
  have hsupply : SupplyQuiet (settleGauges (settleSupply s)) := by
    unfold settleGauges
    exact foldl_keeps (fun t n => coilStep_supplyQuiet t n) _
      (foldl_keeps (fun t n => homingStep_supplyQuiet t n) _ fun _ => settleSupply_quiet s)
  have hhoming (k : Nat) (hk : k ∈ List.range 6) : HomingQuiet k (settleGauges (settleSupply s)) := by
    unfold settleGauges
    exact foldl_keeps (fun t n => coilStep_homingQuiet t n k) _
      (foldl_brings (P := HomingQuiet) (fun t n hmode => (homingStep_shutdown hmode).2)
        (fun t n k => homingStep_homingQuiet t n k) _ hk)
  have hcoil (k : Nat) (hk : k ∈ List.range 6) : CoilQuiet k (settleGauges (settleSupply s)) := by
    unfold settleGauges
    exact foldl_brings (P := CoilQuiet) (fun t n hmode => (coilStep_shutdown hmode).2.1)
      (fun t n k => coilStep_coilQuiet t n k) _ hk
  exact gaugeDue_eq_false.2 ⟨hsupply h, fun n hn => hhoming n (List.mem_range.2 hn) h,
    fun n hn => hcoil n (List.mem_range.2 hn) h⟩

/-! ## Lamps and commands -/

theorem reportLamps_sameGaugeDue (s : State) : SameGaugeDue s (reportLamps s) := by
  refine .trans ?_ (noticeIfOn_frame _ _).sameGaugeDue
  exact .trans (t := { s with run.mc.openLamps := _, run.mc.shortLamps := _ }) ⟨⟨rfl, rfl, rfl, rfl⟩, rfl, rfl⟩
    (flagChange_sameGaugeDue (by simp) (by simp) _ _)

theorem settleLamps_sameGaugeDue (s : State) : SameGaugeDue s (settleLamps s) := by
  refine foldl_keeps (P := SameGaugeDue s) (fun t n ht => ht.trans ?_) _ (.refl s)
  unfold lampOpenStep
  split
  · exact .trans (t := updLamp n _ t) ⟨⟨rfl, rfl, rfl, rfl⟩, rfl, rfl⟩ (reportLamps_sameGaugeDue _)
  · exact .refl t

theorem commandDue_shutdown {s : State} (h : s.mode = .shutdown) (c : CmdCode) : commandDue s c = none := by
  cases hdue : commandDue s c with
  | none => rfl
  | some cmd => exact absurd h (inHand_of_commandDue hdue).mode_ne

theorem carryOut_shutdown {s : State} (h : s.mode = .shutdown) : carryOut s = s := by
  have hdue := commandDue_shutdown h
  have hforce (a : ForceAction) : forceDue s a = none := by simp [forceDue, hdue]
  unfold carryOut
  split
  all_goals first
    | rfl
    | (split <;> first
        | rfl
        | simp only [lampOnStep, lampOffStep, lampReleaseStep, gaugePositionStep, gaugeReleaseStep,
            chimePatternStep, whenDue, hforce])
    | simp only [readStatusStep, clearStatusStep, enterServiceStep, leaveServiceStep, readEntryStep,
        writeEntryStep, readSignalStep, readLogStep, readDriverStep, setDriveTimeStep, linkTestStep, whenDue, hdue]

/-- The due steps, in a part that is in SHUTDOWN after them, leave no gauge step due. -/
theorem settle_quiet {s : State} (h : (settle s).mode = .shutdown) : gaugeDue (settle s) = false := by
  unfold settle at h ⊢
  split at h
  · next hdue =>
    rw [if_pos hdue]
    have hlamps : (settleLamps (settleGauges (settleSupply s))).mode = .shutdown :=
      (settledMode_settling.calming.carryOut _).shutdown h
    rw [carryOut_shutdown hlamps]
    have hsame := settleLamps_sameGaugeDue (settleGauges (settleSupply s))
    rw [hsame.gaugeDue]
    exact settleGauges_quiet (hsame.1.1.symm.trans hlamps)
  · next hdue =>
    rw [if_neg hdue]
    exact gaugeDue_of_not_due (Bool.eq_false_iff.2 hdue)

/-- With no gauge step due, the due steps of a part in SHUTDOWN leave it there and make none due. -/
theorem settle_of_quiet {s : State} (hmode : s.mode = .shutdown) (hquiet : gaugeDue s = false) :
    (settle s).mode = .shutdown ∧ gaugeDue (settle s) = false := by
  obtain ⟨hsupply, hhoming, hcoil⟩ := gaugeDue_eq_false.1 hquiet
  have hsame : settleSupply s = s := by
    simp only [supplyDue, Bool.or_eq_false_iff] at hsupply
    obtain ⟨⟨⟨hos, hus⟩, huc⟩, hoc⟩ := hsupply
    simp [settleSupply, overClearStep, underClearStep, overSetStep, underSetStep, hos, hus, huc, hoc]
  have hgauges : settleGauges s = s := by
    have hhomings : (List.range 6).foldl (fun t n => homingStep n t) s = s := by
      refine List.foldlRecOn (motive := fun t => t = s) _ _ rfl fun t ht n hn => ?_
      subst ht
      unfold homingStep
      split
      · next g hg => simp [hhoming n (List.mem_range.1 hn) (by simp [hg])]
      · rfl
    have hcoils : (List.range 6).foldl (fun t n => coilStep n t) s = s := by
      refine List.foldlRecOn (motive := fun t => t = s) _ _ rfl fun t ht n hn => ?_
      subst ht
      simp [coilStep, hcoil n (List.mem_range.1 hn)]
    rw [settleGauges, hhomings, hcoils]
  unfold settle
  split
  · rw [hsame, hgauges]
    have hlamps := settleLamps_sameGaugeDue s
    have hmode' : (settleLamps s).mode = .shutdown := hlamps.1.1.trans hmode
    rw [carryOut_shutdown hmode']
    exact ⟨hmode', hlamps.gaugeDue.trans hquiet⟩
  · exact ⟨hmode, hquiet⟩

end Sys2Proof.Machine
end

section
/-! PROOFS. The events of a line in SHUTDOWN: frames are not routed and commands not carried out, and no step
of the supply monitor or of a gauge becomes due. -/

namespace Sys2Proof.Machine

theorem SameGaugeDue.ite {s t u : State} {p : Prop} [Decidable p] (ht : SameGaugeDue s t)
    (hu : SameGaugeDue s u) : SameGaugeDue s (if p then t else u) := by
  split
  · exact ht
  · exact hu

/-! ## Queues and REPLYs -/

theorem replyLeft_sameGaugeDue (o : Origin) (s : State) : SameGaugeDue s (replyLeft o s) := by
  unfold replyLeft
  split
  · exact .ite ⟨⟨rfl, rfl, rfl, rfl⟩, rfl, rfl⟩ (.refl s)
  all_goals exact ⟨⟨rfl, rfl, rfl, rfl⟩, rfl, rfl⟩

theorem placeVtq_sameGaugeDue (e : QEntry) (replaces : Bool) (s : State) :
    SameGaugeDue s (placeVtq e replaces s) := by
  unfold placeVtq
  split
  · exact replyLeft_sameGaugeDue _ s
  · split
    · exact ⟨⟨rfl, rfl, rfl, rfl⟩, rfl, rfl⟩
    · exact (flagChange_sameGaugeDue (by simp) (by simp) _ _).trans (replyLeft_sameGaugeDue _ _)

theorem sendResult_sameGaugeDue (frames : Command → NoticeFrames) (s : State) :
    SameGaugeDue s (sendResult frames s) := by
  unfold sendResult
  split
  · exact .refl s
  · next c _ =>
    have hqueued : SameGaugeDue s { s with run.mu.phase := .replyQueued } := ⟨⟨rfl, rfl, rfl, rfl⟩, rfl, rfl⟩
    dsimp only
    split
    · exact hqueued.trans (placeVtq_sameGaugeDue _ _ _)
    · exact ⟨⟨rfl, rfl, rfl, rfl⟩, rfl, rfl⟩

theorem removeVtqHead_sameGaugeDue (s : State) : SameGaugeDue s (removeVtqHead s) := by
  unfold removeVtqHead
  split
  · exact .refl s
  · exact .trans (t := { s with run.queues.vtq := _ }) ⟨⟨rfl, rfl, rfl, rfl⟩, rfl, rfl⟩
      (replyLeft_sameGaugeDue _ _)

/-! ## Commands -/

theorem takeAllNodes_shutdown {s : State} (h : s.mode = .shutdown) (c : Command) : takeAllNodes c s = s := by
  unfold takeAllNodes
  split
  · rw [if_neg]
    simp [h, CmdCode.inMode_shutdown]
  · rfl

theorem takeCommand_sameGaugeDue {s : State} (h : s.mode = .shutdown) (link : Link) (body : List Byte) :
    SameGaugeDue s (takeCommand link body s) := by
  unfold takeCommand
  dsimp only
  split
  · cases link
    · unfold admitVehicle
      exact .ite ⟨⟨rfl, rfl, rfl, rfl⟩, rfl, rfl⟩ ⟨⟨rfl, rfl, rfl, rfl⟩, rfl, rfl⟩
    · have hcmd : SameGaugeDue s { s with run.mu.cmd := some (commandOf .display body) } :=
        ⟨⟨rfl, rfl, rfl, rfl⟩, rfl, rfl⟩
      unfold admitDisplay placeBusy
      exact .ite ⟨⟨rfl, rfl, rfl, rfl⟩, rfl, rfl⟩ (.ite (.ite (.refl s) ⟨⟨rfl, rfl, rfl, rfl⟩, rfl, rfl⟩)
        (hcmd.trans (sendResult_sameGaugeDue _ _)))
  · rw [takeAllNodes_shutdown h]
    exact .ite (.refl s) (.refl s)

theorem ifrWasSent_sameGaugeDue (s : State) : SameGaugeDue s (ifrWasSent s) := by
  unfold ifrWasSent
  refine .ite ?_ (.refl s)
  split
  · exact .ite ⟨⟨rfl, rfl, rfl, rfl⟩, rfl, rfl⟩ (sendResult_sameGaugeDue _ s)
  · exact .refl s

theorem ifrFailed_sameGaugeDue (s : State) : SameGaugeDue s (ifrFailed s) :=
  .ite ⟨⟨rfl, rfl, rfl, rfl⟩, rfl, rfl⟩ (.refl s)

/-! ## The interfaces -/

theorem setIface_sameGaugeDue (link : Link) (i : Iface) (s : State) : SameGaugeDue s (setIface link i s) := by
  cases link <;> exact ⟨⟨rfl, rfl, rfl, rfl⟩, rfl, rfl⟩

theorem discardFrame_sameGaugeDue (link : Link) (kind : ErrKind) (s : State) :
    SameGaugeDue s (discardFrame link kind s) :=
  .trans (t := { s with run.mu.lastLinkError := .at_ link kind }) ⟨⟨rfl, rfl, rfl, rfl⟩, rfl, rfl⟩
    (setIface_sameGaugeDue link _ _)

theorem presentHeader_sameGaugeDue (link : Link) (s : State) : SameGaugeDue s (presentHeader link s) := by
  unfold presentHeader
  dsimp only
  split <;> exact setIface_sameGaugeDue link _ s

theorem receiveBit_sameGaugeDue (link : Link) (b : Bool) (s : State) : SameGaugeDue s (receiveBit link b s) := by
  unfold receiveBit
  exact .ite (discardFrame_sameGaugeDue link _ s)
    (.ite ((setIface_sameGaugeDue link _ s).trans (presentHeader_sameGaugeDue link _))
      (setIface_sameGaugeDue link _ s))

theorem endOfData_sameGaugeDue {s : State} (h : s.mode = .shutdown) (link : Link) :
    SameGaugeDue s (endOfData link s) := by
  unfold endOfData
  dsimp only
  split
  · exact discardFrame_sameGaugeDue link _ s
  · have hset := setIface_sameGaugeDue link ((ifaceOf s link).toState (acceptedState link)) s
    have hmode := hset.1.1.trans h
    refine hset.trans ?_
    unfold acceptFrame
    generalize setIface link _ s = t at hmode
    have hrouting : routing t = false := by simp [routing, hmode]
    unfold deliver
    split
    · exact takeCommand_sameGaugeDue hmode link _
    · split
      · simp only [hrouting, Bool.false_eq_true, false_and, if_false]
        exact .refl t
      · exact .refl t
  · exact setIface_sameGaugeDue link _ s

theorem receiveEvent_sameGaugeDue {s : State} (h : s.mode = .shutdown) (link : Link) (e : LineEvent) :
    SameGaugeDue s (receiveEvent link e s) := by
  unfold receiveEvent
  split
  · split
    · exact receiveBit_sameGaugeDue link _ s
    · exact discardFrame_sameGaugeDue link _ s
  · exact .ite (.refl s) (discardFrame_sameGaugeDue link _ s)
  · exact endOfData_sameGaugeDue h link
  all_goals exact .refl s

theorem waitEvent_sameGaugeDue (link : Link) (e : LineEvent) (s : State) : SameGaugeDue s (waitEvent link e s) := by
  unfold waitEvent
  split
  · exact .ite (setIface_sameGaugeDue link _ s) (.refl s)
  · unfold becomeIdle
    cases link
    · exact (setIface_sameGaugeDue .vehicle _ s).trans (flagChange_sameGaugeDue (by simp) (by simp) _ _)
    · exact setIface_sameGaugeDue .display _ s
  all_goals exact .refl s

theorem quietEvent_sameGaugeDue (link : Link) (e : LineEvent) (s : State) :
    SameGaugeDue s (quietEvent link e s) := by
  unfold quietEvent
  dsimp only
  split
  · split
    · exact setIface_sameGaugeDue link _ s
    · exact discardFrame_sameGaugeDue link _ s
  · exact .ite (.refl s) (discardFrame_sameGaugeDue link _ s)
  · exact .ite (.refl s) (discardFrame_sameGaugeDue link _ s)
  · exact setIface_sameGaugeDue link _ s
  all_goals exact .refl s

/-! ## The vehicle link -/

theorem failAttempt_sameGaugeDue (s : State) : SameGaugeDue s (failAttempt s) := by
  unfold failAttempt
  dsimp only
  split
  · exact ⟨⟨rfl, rfl, rfl, rfl⟩, rfl, rfl⟩
  · refine .ite ?_ ⟨⟨rfl, rfl, rfl, rfl⟩, rfl, rfl⟩
    exact .trans (t := { s with run.vli.sending := none, run.vli.iface := _, run.mu.transmitAbandoned := true })
      ⟨⟨rfl, rfl, rfl, rfl⟩, rfl, rfl⟩ (removeVtqHead_sameGaugeDue _)

theorem loseArbitration_sameGaugeDue (s : State) : SameGaugeDue s (loseArbitration s) := by
  have hstopped : SameGaugeDue s { s with run.vli.sending := none } := ⟨⟨rfl, rfl, rfl, rfl⟩, rfl, rfl⟩
  have hremoved : SameGaugeDue s (if s.mode = .shutdown then removeVtqHead { s with run.vli.sending := none }
      else { s with run.vli.sending := none }) :=
    .ite (hstopped.trans (removeVtqHead_sameGaugeDue _)) hstopped
  exact .ite (hremoved.trans (presentHeader_sameGaugeDue .vehicle _)) hremoved

theorem vehicleSent_sameGaugeDue (s : State) : SameGaugeDue s (vehicleSent s) := by
  unfold vehicleSent
  dsimp only
  split
  · exact ⟨⟨rfl, rfl, rfl, rfl⟩, rfl, rfl⟩
  · refine .ite ⟨⟨rfl, rfl, rfl, rfl⟩, rfl, rfl⟩ ?_
    exact .trans (t := { s with run.vli.sending := none, run.vli.iface := _ }) ⟨⟨rfl, rfl, rfl, rfl⟩, rfl, rfl⟩
      (removeVtqHead_sameGaugeDue _)

theorem sendEvent_sameGaugeDue {s : State} (h : s.mode = .shutdown) (bytes : List Byte) (e : LineEvent) :
    SameGaugeDue s (sendEvent bytes e s) := by
  have hfailed := failAttempt_sameGaugeDue s
  have hlost := loseArbitration_sameGaugeDue s
  unfold sendEvent
  dsimp only
  split
  · split
    · exact ⟨⟨rfl, rfl, rfl, rfl⟩, rfl, rfl⟩
    · exact hfailed
    · exact .ite (.refl s) hfailed
    · exact hfailed
    all_goals exact .refl s
  · split
    · exact .ite ⟨⟨rfl, rfl, rfl, rfl⟩, rfl, rfl⟩ hfailed
    · exact .ite hlost (.refl s)
    · exact .ite (.ite (hlost.trans (receiveEvent_sameGaugeDue (hlost.1.1.trans h) .vehicle _)) hlost)
        (.ite (.refl s) hfailed)
    · exact .ite (vehicleSent_sameGaugeDue s) hfailed
    all_goals exact .refl s

theorem ifrEvent_sameGaugeDue (f : Ifr) (e : LineEvent) (s : State) : SameGaugeDue s (ifrEvent f e s) := by
  have hfailed : SameGaugeDue s (failIfr s) :=
    .trans (t := { s with run.vli.ifr := none, run.vli.iface := s.run.vli.iface.toState .errorWait })
      ⟨⟨rfl, rfl, rfl, rfl⟩, rfl, rfl⟩ (ifrFailed_sameGaugeDue _)
  have hlost : SameGaugeDue s (loseIfr s) := by
    refine .trans ?_ (ifrFailed_sameGaugeDue _)
    exact .trans (t := { s with run.vli.ifr := none }) ⟨⟨rfl, rfl, rfl, rfl⟩, rfl, rfl⟩
      (flagChange_sameGaugeDue (by simp) (by simp) _ _)
  have hcounted : SameGaugeDue s (countIfrBit .vehicle s) := setIface_sameGaugeDue .vehicle _ s
  have hsent : SameGaugeDue s (sentIfr (countIfrBit .vehicle s)) :=
    .trans (t := { countIfrBit .vehicle s with run.vli.ifr := none }) ⟨⟨rfl, rfl, rfl, rfl⟩, rfl, rfl⟩
      (ifrWasSent_sameGaugeDue _)
  have hbegun : SameGaugeDue s (beginIfr s) := ⟨⟨rfl, rfl, rfl, rfl⟩, rfl, rfl⟩
  unfold ifrEvent
  dsimp only
  split
  · split
    · exact .ite (.ite hsent hcounted) hfailed
    · exact .ite hlost (.refl s)
    · exact .ite (.refl s) hfailed
    · exact hfailed
    · exact hfailed
    all_goals exact .refl s
  · split
    · exact hbegun
    · exact hbegun
    all_goals exact .refl s

/-- No event of a line makes a gauge step due in SHUTDOWN. -/
theorem lineEvent_sameGaugeDue {s : State} (h : s.mode = .shutdown) (link : Link) (e : LineEvent) :
    SameGaugeDue s (lineEvent link e s) := by
  cases link
  · change SameGaugeDue s (vehicleEvent e s)
    unfold vehicleEvent
    refine .ite ?_ ?_
    · exact .trans (t := { s with run.vli.iface := s.run.vli.iface.toState .stuck })
        ⟨⟨rfl, rfl, rfl, rfl⟩, rfl, rfl⟩ (flagChange_sameGaugeDue (by simp) (by simp) _ _)
    · split
      · exact sendEvent_sameGaugeDue h _ e
      · exact receiveEvent_sameGaugeDue h .vehicle e
      · exact ifrEvent_sameGaugeDue _ e s
      · exact quietEvent_sameGaugeDue .vehicle e s
      all_goals exact waitEvent_sameGaugeDue .vehicle e s
  · change SameGaugeDue s (displayEvent e s)
    unfold displayEvent
    split
    · exact receiveEvent_sameGaugeDue h .display e
    · exact quietEvent_sameGaugeDue .display e s
    all_goals exact waitEvent_sameGaugeDue .display e s

/-! ## Waves -/

/-- The part is powered, and in SHUTDOWN no step of supply or gauges is due. -/
def Listening (s : State) : Prop := s.mode ≠ .standby ∧ (s.mode = .shutdown → gaugeDue s = false)

theorem listening_settle {s : State} (h : powered (settle s) = true) : Listening (settle s) :=
  ⟨by simpa [powered] using h, settle_quiet⟩

theorem ignition_on {m : Mode} (hstandby : m ≠ .standby) (hshutdown : m ≠ .shutdown) : m.ignition = some true := by
  cases m <;> simp_all [Mode.ignition]

theorem Listening.settle {s : State} (h : Listening s) : Listening (settle s) := by
  by_cases hmode : s.mode = .shutdown
  · obtain ⟨hmode', hquiet⟩ := settle_of_quiet hmode (h.2 hmode)
    exact ⟨by simp [hmode'], fun _ => hquiet⟩
  · have hon := (settledMode_settling.settle s).on (ignition_on h.1 hmode)
    exact ⟨fun hs => by simp [hs, Mode.ignition] at hon, fun hs => by simp [hs, Mode.ignition] at hon⟩

theorem Listening.lineEvent {s : State} (h : Listening s) (link : Link) (e : LineEvent) :
    Listening (lineEvent link e s) := by
  have hpath : Path s (Machine.lineEvent link e s) := path_kept.lineEvent link e s
  refine ⟨fun hs => h.1 (hpath.standby_iff.1 hs), fun hs => ?_⟩
  have hmode := hpath.shutdown_iff.1 hs
  rw [(lineEvent_sameGaugeDue hmode link e).gaugeDue]
  exact h.2 hmode

theorem Listening.setHeard {s : State} (h : Listening s) (link : Link) (w : Heard) :
    Listening (setHeard link w s) := by
  cases link <;> exact h

theorem Listening.awake {s : State} (h : Listening s) : Awake s := .inl h.1

/-- A relation that the due steps keep is kept by what a wave brings. -/
theorem Settling.listen {R : State → State → Prop} (h : Settling R) (link : Link) (w : Heard) {s : State}
    (hs : Listening s) : R s (listen link w s) := by
  unfold Machine.listen
  have hheard : Path s (setHeard link w s) := path_core.setHeard link w s
  refine h.trans (h.path hs.awake hheard) ?_
  have hlistening := hs.setHeard link w
  generalize setHeard link w s = t at hlistening
  induction w.events generalizing t with
  | nil => exact h.refl t
  | cons e events ih =>
    have hsettled := hlistening.settle
    exact h.trans (h.trans (h.settle t) (h.path hsettled.awake (path_kept.lineEvent link e _)))
      (ih _ (hsettled.lineEvent link e))

theorem Settling.listenFor {R : State → State → Prop} (h : Settling R) (kind : LineEvent → Bool) (link : Link)
    (w : Heard) (s : State) :
    R (Machine.settle s) (Machine.listenFor kind link w (Machine.settle s)) := by
  refine h.ite fun hhears => h.listen link w (listening_settle ?_)
  have hon := hhears.1
  simp only [hears, Bool.and_eq_true] at hon
  exact hon.1

end Sys2Proof.Machine
end

section
/-! PROOFS. Every command and every step: a relation kept by paths of an awake part and by the changes of
mode that the ignition makes is kept by the machine. -/

namespace Sys2Proof.Machine

/-- A relation that every command keeps but for the end of a STARTUP validation. -/
structure Mostly (R : State → State → Prop) : Prop extends Settling R where
  clocks : ∀ timer din0 minute s, R s { s with shutdownTimer := timer, din0 := din0, dtu.timer := minute }
  asleepMinute : ∀ {s}, s.mode = .standby → R s (minuteEvent s)
  shutdown : ∀ {s}, s.mode.ignition = some true → R s (enterShutdown s)
  warm : ∀ {s}, s.mode = .shutdown → R s (warmStart s)
  cold : ∀ {s}, s.mode = .standby → R s (coldStart s)
  reset : ∀ straps s, R s (keepAliveReset straps s)

/-- A relation that every command keeps. -/
structure Outer (R : State → State → Prop) : Prop extends Mostly R where
  completes : ∀ {s} levels, startupValidating s = true → R s (completeStartup levels s)

/-! ## What the commands of an awake part are made of -/

theorem aside_iu {s : State} {u : Iu} (hu : u.inputs = s.run.iu.inputs) :
    Aside s { s with run.iu := u } := by
  cases u
  subst hu
  rfl

/-- The counters of 1 ms that no law of the state speaks of. -/
theorem aside_clocks (s : State) (shutdown : Option Nat) (minute : Nat) (dli : Dli)
    (gauge blink load supply : Nat) (validation mismatch : Option Nat) :
    Aside s { s with shutdownTimer := shutdown, dtu.timer := minute
                     run := { s.run with
                       dli := dli, gu.timer := gauge, tu.blinkTimer := blink, tu.loadTimer := load
                       iu.timer := supply, mc.validation := validation, mismatch := mismatch } } := rfl

theorem judgeUnder_inputs (code v : Nat) (flag : Bool) (u : Iu) : (judgeUnder code v flag u).inputs = u.inputs := by
  cases flag <;> rfl

theorem judgeOver_inputs (v : Nat) (flag : Bool) (u : Iu) : (judgeOver v flag u).inputs = u.inputs := by
  cases flag <;> rfl

namespace Core

variable {R : State → State → Prop} (h : Core R)
include h

theorem measureSupply (centivolts : Nat) (s : State) : R s (measureSupply centivolts s) := by
  have hwritten := h.writeInternal (s := s) (.inl ⟨rfl, centivolts, rfl⟩)
  exact h.trans hwritten (h.aside (aside_iu (by rw [judgeOver_inputs, judgeUnder_inputs])))

theorem endPattern {s : State} (hplaying : endingPattern s = true) : R s (endPattern s) :=
  h.chime (chimeStep_of_playing (endingPattern_playing hplaying) chimeOrder_next)

theorem restartRepeat {s : State} (hplaying : repeatPlaying s = true) : R s (restartRepeat s) :=
  h.chime (chimeStep_of_playing (repeatPlaying_playing hplaying) id)

theorem mismatchExpired (s : State) :
    R s (Machine.flagChange .speedMismatch true { s with run.mismatch := none }) := by
  have hstopped : R s { s with run.mismatch := none } := h.aside rfl
  exact h.trans hstopped (h.flagChange rfl _ _)

theorem isolate (s : State) : R s (isolate s) := h.aside rfl

theorem movedByUpdate (sense : List (CoilSense × CoilSense)) (s : State) :
    R s (Machine.mapChannels (updateChannel s sense) { s with run.gu.timer := Config.gaugePeriod }) := by
  have htimer : R s { s with run.gu.timer := Config.gaugePeriod } := h.aside rfl
  exact h.trans htimer (h.mapChannels (s := { s with run.gu.timer := Config.gaugePeriod })
    (fun n c => updateChannel_step _ s sense n c) fun n c => updateChannel_fault s sense n c)

theorem displayDriven (s : State) :
    R s { s with run.dli.sending := none, run.dli.recessive := Config.wireAtEod } := h.aside rfl

theorem relayDriven (s : State) : R s { s with run.queues.drq := s.run.queues.drq.drop 1 } :=
  h.drq fun hlen => by
    rw [List.length_drop]
    omega

end Core

namespace Kept

variable {R : State → State → Prop} (h : Kept R)
include h

/-- The end of a STARTUP validation, for a relation that an activation keeps. -/
theorem completeStartup_of {s : State} {levels : BitVec 16} (hval : startupValidating s = true)
    (hactivated : ∀ s : State, s.mode = .startup → s.phase = .validating →
      R s { activate (validate s.store) levels s with phase := .gaugesAndLamps }) :
    R s (completeStartup levels s) := by
  simp only [startupValidating, Bool.and_eq_true, decide_eq_true_eq] at hval
  obtain ⟨⟨hmode, hphase⟩, -⟩ := hval
  have hended : R s { s with run.mc.validation := none } := h.aside rfl
  exact h.trans (h.trans hended (hactivated { s with run.mc.validation := none } hmode hphase))
    (h.beginGaugesAndLamps _)

/-- 1 ms of a powered part. -/
theorem tickPowered {s : State} (hs : powered s = true) : R s (tick s) := by
  have hroutes := h.routeTimes (f := tickRoute) (fun _ => ⟨rfl, rfl⟩) s
  have hconds := h.trans hroutes (h.condTimes _)
  have hcheck := h.trans hconds (h.lampCheckTick _)
  have halerts := h.trans hcheck (h.alertTimes (f := tickAlert) (fun _ => ⟨rfl, rfl, rfl⟩) _)
  have hchime := h.trans halerts (h.chime (chimeStep_tick _))
  have hclocks := h.trans hchime (h.aside (aside_clocks _ (countDown s.shutdownTimer) (s.dtu.timer - 1)
    (s.run.dli.rest Config.displaySamplesPerMilli) (s.run.gu.timer - 1) (s.run.tu.blinkTimer - 1000)
    (s.run.tu.loadTimer - 1) (s.run.iu.timer - 1) (s.run.mc.validation.map (· - 1000))
    (countDown s.run.mismatch)))
  rw [tick, if_pos hs]
  exact hclocks

end Kept

/-! ## Guards of an awake part -/

theorem Awake.of_display {s : State} {x : DliQueue × List Byte} (h : s.run.dli.sending = some x) : Awake s :=
  .of_run fun hrun => by
    rw [hrun] at h
    cases h

theorem Awake.of_testing {s : State} (h : s.run.vli.test = .running) : Awake s :=
  .of_run fun hrun => by
    rw [hrun] at h
    cases h

theorem Awake.of_lampCheck {s : State} (h : s.run.tu.lampCheck.isSome = true) : Awake s :=
  .of_run fun hrun => by
    rw [hrun] at h
    cases h

theorem Awake.of_mismatch {s : State} (h : s.run.mismatch.isSome = true) : Awake s :=
  .of_run fun hrun => by
    rw [hrun] at h
    cases h

theorem Awake.of_playing {s : State} (h : s.run.tu.chime.playing ≠ none) : Awake s :=
  .of_run fun hrun => h (by rw [hrun]; rfl)

theorem Awake.of_escalating {s : State} {j : Nat} {a : Alert} (h : escalating s j = some a) : Awake s :=
  .of_run fun hrun => by
    rw [escalating, hrun] at h
    cases h

theorem Awake.of_sampling {s : State} (h : s.run.iu.sampling = true) : Awake s :=
  .of_run fun hrun => by
    rw [hrun] at h
    cases h

theorem Awake.of_startupValidating {s : State} (h : startupValidating s = true) : Awake s := by
  simp only [startupValidating, Bool.and_eq_true, decide_eq_true_eq] at h
  exact .inl (by simp [h.1.1])

theorem Awake.of_serviceValidating {s : State} (h : serviceValidating s = true) : Awake s := by
  simp only [serviceValidating, Bool.and_eq_true, decide_eq_true_eq] at h
  exact .inl (by simp [h.1.1])

theorem canAttempt_powered {s : State} (h : canAttempt s = true) : powered s = true := by
  simp only [canAttempt, Bool.and_eq_true] at h
  exact h.1.1.1.1.1.1

theorem canTest_powered {s : State} (h : canTest s = true) : powered s = true := by
  simp only [canTest, Bool.and_eq_true] at h
  exact h.1.1.1

theorem canDisplay_powered {s : State} (h : canDisplay s = true) : powered s = true := by
  simp only [canDisplay, Bool.and_eq_true] at h
  exact h.1.1

/-! ## Commands -/

/-- A command that is answered with a state relates the state before to it. -/
def Answers (R : State → State → Prop) (s : State) (o : Host.Outcome State Fault Refusal) : Prop :=
  ∀ t, o = .next t → R s t

theorem Answers.next {R : State → State → Prop} {s t : State} (h : R s t) : Answers R s (.next t) := by
  rintro _ ⟨⟩
  exact h

theorem Answers.answerIf {R : State → State → Prop} {s t : State} {wf : Bool} (h : R s t) :
    Answers R s (answerIf wf t) := by
  cases wf
  · rintro _ ⟨⟩
  · exact .next h

namespace Settling

variable {R : State → State → Prop} (h : Settling R)
include h

theorem after {f : State → State} (hf : ∀ t, R t (f t)) (s : State) : R s (after f s) :=
  h.trans (h.settle s) (hf _)

/-- A command of a powered part. -/
theorem afterPowered {f : State → State} (hf : ∀ t, Path t (f t)) (s : State) :
    R s (Machine.after (fun t => if powered t then f t else t) s) :=
  h.after (fun t => h.ite fun hp => h.path (.of_powered hp) (hf t)) s

/-- A command that hears a wave. -/
theorem afterWave (kind : State → LineEvent → Bool) (link : Link) (w : State → Heard) (s : State) :
    R s (Machine.after (fun t => Machine.listenFor (kind t) link (w t) t) s) :=
  h.trans (h.settle s) (h.listenFor _ link _ s)

/-- A command that hears a wave in some states. -/
theorem afterWaveIf {p : State → Prop} [DecidablePred p] (kind : State → LineEvent → Bool) (link : Link)
    (w : State → Heard) (s : State) :
    R s (Machine.after (fun t => if p t then Machine.listenFor (kind t) link (w t) t else t) s) :=
  h.trans (h.settle s) (h.ite fun _ => h.listenFor _ link _ s)

theorem inputSample (n : Nat) (s : State) (level : Bool) : R s (inputSample n s level) := by
  by_cases hs : s.run.iu.sampling = true
  · exact h.path (.of_sampling hs) (path_kept.inputSample n s level)
  · rw [Machine.inputSample, if_neg hs]
    exact h.refl s

theorem displaySent {s : State} (hs : Awake s) (q : DliQueue) : R s (displaySent q s) := by
  cases q
  · exact h.trans (h.path hs (path_core.trans (path_core.displayDriven s) (path_core.urgentSent _)))
      (h.standbyCheck _)
  · exact h.path hs (path_core.trans (path_core.displayDriven s) (path_core.relayDriven _))

/-- The rows that carry out an in-band command. -/
theorem commandStep {c : CmdCode} {run : Command → State → State} {s : State}
    (hpath : Path s (whenDue (commandDue s c) run s)) : R s (whenDue (commandDue s c) run s) := by
  cases hdue : commandDue s c with
  | none => exact h.refl s
  | some cmd =>
    rw [hdue] at hpath
    refine h.path (.of_run fun hrun => ?_) hpath
    rw [commandDue, hrun] at hdue
    cases hdue

theorem forceStep {a : ForceAction} {run : Command → State → State} {s : State}
    (hpath : Path s (whenDue (forceDue s a) run s)) : R s (whenDue (forceDue s a) run s) := by
  cases hdue : forceDue s a with
  | none => exact h.refl s
  | some cmd =>
    rw [hdue] at hpath
    refine h.path (.of_run fun hrun => ?_) hpath
    rw [forceDue, commandDue, hrun] at hdue
    cases hdue

end Settling

namespace Mostly

variable {R : State → State → Prop} (h : Mostly R)
include h

theorem ignitionEvent (e : IgnitionEvent) (s : State) : R s (ignitionEvent e s) := by
  have hon : R s (ignitionOn s) := by
    unfold ignitionOn
    split
    · next hmode => exact h.cold hmode
    · next hmode => exact h.warm hmode
    all_goals exact h.refl s
  unfold Machine.ignitionEvent
  split
  · exact hon
  · exact hon
  · exact h.refl s
  · unfold ignitionOff
    split
    · next hmode => exact h.shutdown (by rw [hmode]; rfl)
    · next hmode => exact h.shutdown (by rw [hmode]; rfl)
    · next hmode => exact h.shutdown (by rw [hmode]; rfl)
    all_goals exact h.refl s

theorem ignitionSample (s : State) (sample : Bool) : R s (ignitionSample s sample) := by
  have hcounted (d : Din0) : R s { s with din0 := d } := h.clocks _ d _ s
  unfold Machine.ignitionSample
  split
  dsimp only
  split
  · exact h.trans (hcounted _) (h.ignitionEvent _ _)
  · exact hcounted _

theorem ignitionSamples (samples : List Bool) (s : State) : R s (ignitionSamples samples s) :=
  h.foldl h.ignitionSample samples s

theorem minuteEvent (s : State) : R s (minuteEvent s) := by
  by_cases hmode : s.mode = .standby
  · exact h.asleepMinute hmode
  · exact h.path (.inl hmode) (path_core.minuteEvent s)

theorem tick (s : State) : R s (tick s) := by
  by_cases hs : powered s = true
  · exact h.path (.of_powered hs) (path_kept.tickPowered hs)
  · rw [Machine.tick, if_neg hs]
    exact h.clocks _ _ _ s

theorem idle (s : State) : R s (idle s) := by
  unfold Machine.idle
  split
  · exact h.settle s
  · exact h.tick s

/-- Every command but the end of a STARTUP validation keeps the relation. -/
theorem exec_of_ne (c : Instr) (hc : ∀ levels, c ≠ .validationComplete levels) (s : State) :
    Answers R s (exec c s) := by
  cases c
  case validationComplete levels => exact absurd rfl (hc levels)
  case keepAliveReset straps => exact .next (h.after (h.reset straps.val) s)
  case ignitionFinding samples => exact .answerIf (h.after (fun t => h.ite fun _ => h.ignitionSamples samples t) s)
  case ignitionOn samples => exact .answerIf (h.after (fun t => h.ite fun _ => h.ignitionSamples samples t) s)
  case ignitionOff samples => exact .answerIf (h.after (fun t => h.ite fun _ => h.ignitionSamples samples t) s)
  case debouncedEdge input samples =>
    exact .answerIf (h.after (fun t => h.foldl (h.inputSample input.val) samples t) s)
  case supplyMeasurement centivolts => exact .next (h.afterPowered (path_core.measureSupply centivolts) s)
  case underVoltageSet => exact .next (h.underSetStep s)
  case underVoltageClear => exact .next (h.underClearStep s)
  case overVoltageSet => exact .next (h.overSetStep s)
  case overVoltageClear => exact .next (h.overClearStep s)
  case headerComplete link wave => exact .next (h.afterWave _ link _ s)
  case frameAccepted link wave => exact .next (h.afterWave _ link _ s)
  case receiveError link wave => exact .next (h.afterWave _ link _ s)
  case sofReceived link wave => exact .next (h.afterWave _ link _ s)
  case stuckLineTimeout => exact .next (h.afterWave _ .vehicle _ s)
  case ifrWaitSymbolError wave => exact .next (h.afterWave _ .vehicle _ s)
  case lineIdle link => exact .next (h.afterWaveIf _ link _ s)
  case frameSent | arbitrationLoss | transmitError | ifrStart | ifrSent | ifrTransmitError | endOfFrame =>
    exact .next (h.afterWaveIf _ .vehicle _ s)
  case ifrLoss =>
    refine .next (h.trans (h.settle s) ?_)
    dsimp only [Machine.after]
    split
    · exact h.listenFor _ .vehicle _ s
    · exact h.refl _
  case transmitAttemptStart =>
    exact .next (h.after (fun t => h.ite fun hc =>
      h.path (.of_powered (canAttempt_powered hc)) (path_core.beginAttempt t)) s)
  case dliTransmitStart =>
    exact .next (h.after (fun t => h.ite fun hc =>
      h.path (.of_powered (canDisplay_powered hc)) (path_core.beginDisplay t)) s)
  case dliFrameSent =>
    refine .next (h.after (fun t => ?_) s)
    split
    · next q bytes hsending => exact h.displaySent (.of_display hsending) q
    · exact h.refl t
  case linkTestBegin =>
    exact .next (h.after (fun t => h.ite fun hc =>
      h.path (.of_powered (canTest_powered hc)) (path_core.isolate t)) s)
  case linkTestEnd read =>
    exact .next (h.after (fun t => h.ite fun hc => h.path (.of_testing hc) (path_core.endTest read t)) s)
  case routeFreshnessExpiry route =>
    refine .next (h.after (fun t => ?_) s)
    split
    · next r hr => exact h.ite fun _ => h.path (.of_route hr) (path_kept.expireRoute hr)
    · exact h.refl t
  case gaugeUpdate sense =>
    exact .answerIf (h.after (fun t => h.ite fun hp =>
      h.gaugesMoved_after (.of_powered hp) (path_core.movedByUpdate sense t)) s)
  case homingComplete channel => exact .next (h.homingStep channel.val s)
  case coilOpenFault channel => exact .next (h.coilStep channel.val s)
  case blinkTimebaseAdvance => exact .next (h.afterPowered path_core.advanceBlink s)
  case loadCheck current => exact .next (h.afterPowered (path_core.loadCheck current) s)
  case lampOpen lamp => exact .next (h.lampOpenStep lamp.val s)
  case lampOvercurrent lamp =>
    exact .next (h.after (fun t => h.ite fun hout => h.path (.of_output hout) (path_core.shortLamp lamp.val t)) s)
  case lampCheckEnd =>
    exact .next (h.after (fun t => h.ite fun hc => h.path (.of_lampCheck hc) (path_core.endLampCheck t)) s)
  case chimePatternEnd =>
    exact .next (h.after (fun t => h.ite fun hc =>
      h.path (.of_playing (endingPattern_playing hc)) (path_core.endPattern hc)) s)
  case repeatCycle =>
    exact .next (h.after (fun t => h.ite fun hc =>
      h.path (.of_playing (repeatPlaying_playing hc)) (path_core.restartRepeat hc)) s)
  case escalationExpiry condition =>
    refine .next (h.after (fun t => ?_) s)
    split
    · next a ha => exact h.path (.of_escalating ha) (path_core.escalate condition.val a t)
    · exact h.refl t
  case conditionDelayExpiry condition =>
    refine .next (h.after (fun t => ?_) s)
    split
    · next c hc =>
      split
      · next r hr => exact h.path (.of_cond hc) (path_core.delay hc hr)
      · exact h.refl t
    · exact h.refl t
  case minuteEvent => exact .next (h.after h.minuteEvent s)
  case speedMismatchExpiry =>
    exact .next (h.after (fun t => h.ite fun hm => h.path (.of_mismatch hm) (path_core.mismatchExpired t)) s)
  case shutdownTimerExpiry => exact .next (h.after (fun t => h.ite fun hs => h.standby hs.1) s)
  case leaveServiceValidationFail =>
    exact .next (h.after (fun t => h.ite fun hv =>
      h.path (.of_serviceValidating hv) (path_kept.failLeaveService hv)) s)
  case leaveServiceRestart levels =>
    exact .next (h.after (fun t => h.ite fun hv =>
      h.path (.of_serviceValidating hv) (path_kept.passLeaveService levels hv)) s)
  case readStatus => exact .next (h.commandStep (path_core.readStatusStep s))
  case clearStatus => exact .next (h.commandStep (path_core.clearStatusStep s))
  case enterService => exact .next (h.commandStep (path_kept.enterServiceStep s))
  case leaveService => exact .next (h.commandStep (path_core.leaveServiceStep s))
  case readEntry => exact .next (h.commandStep (path_core.readEntryStep s))
  case writeEntry => exact .next (h.commandStep (path_core.writeEntryStep s))
  case readSignal => exact .next (h.commandStep (path_core.readSignalStep s))
  case readLog => exact .next (h.commandStep (path_core.readLogStep s))
  case readDriver => exact .next (h.commandStep (path_core.readDriverStep s))
  case setDriveTime => exact .next (h.commandStep (path_core.setDriveTimeStep s))
  case forceLampOn => exact .next (h.forceStep (path_core.lampOnStep s))
  case forceLampOff => exact .next (h.forceStep (path_core.lampOffStep s))
  case lampRelease => exact .next (h.forceStep (path_core.lampReleaseStep s))
  case gaugeToPosition => exact .next (h.forceStep (path_core.gaugePositionStep s))
  case gaugeRelease => exact .next (h.forceStep (path_core.gaugeReleaseStep s))
  case forceChimePattern => exact .next (h.forceStep (path_core.chimePatternStep s))
  case linkTest => exact .next (h.commandStep (path_core.linkTestStep s))

end Mostly

namespace Outer

variable {R : State → State → Prop} (h : Outer R)
include h

/-- Every command keeps the relation. -/
theorem exec (c : Instr) (s : State) : Answers R s (exec c s) := by
  by_cases hc : ∃ levels, c = .validationComplete levels
  · obtain ⟨levels, rfl⟩ := hc
    exact .next (h.after (fun t => h.ite fun hv => h.completes levels hv) s)
  · exact h.exec_of_ne c (not_exists.1 hc) s

/-- Every step keeps the relation, when the queue of commands has no part in it. -/
theorem step (hpop : ∀ s pending, R s { s with pending := pending }) {s t : State}
    (hstep : step s = .next t) : R s t := by
  unfold Machine.step at hstep
  split at hstep
  · cases hstep
    exact h.idle s
  · exact h.trans (hpop s _) (h.exec _ _ t hstep)

end Outer

end Sys2Proof.Machine
end

section
/-! PROOFS. Relations that the warnings path, the queues and the interfaces have no part in; and the changes
of mode in terms of small changes. -/

namespace Sys2Proof.Machine

/-- What holds before holds after. -/
def Preserves (P : State → Prop) (s t : State) : Prop := P s → P t

/-- The two states agree on what is neither of the warnings path, nor of the queues, nor of the links. -/
structure Quiet (s t : State) : Prop where
  mode : t.mode = s.mode
  phase : t.phase = s.phase
  nodeAddress : t.nodeAddress = s.nodeAddress
  store : t.store = s.store
  pending : t.pending = s.pending
  dtu : t.dtu = { s.dtu with timer := t.dtu.timer, unsynced := t.dtu.unsynced }
  signals : t.run.signals = s.run.signals
  tables : t.run.tables = s.run.tables
  channels : t.run.gu.channels = s.run.gu.channels
  flags : t.run.flags = { s.run.flags with
    vlinkStuck := t.run.flags.vlinkStuck, relayOverflow := t.run.flags.relayOverflow
    speedMismatch := t.run.flags.speedMismatch, addressConflict := t.run.flags.addressConflict
    lampFault := t.run.flags.lampFault }
  inputs : t.run.iu.inputs = s.run.iu.inputs
  disabledCount : t.run.mc.disabledCount = s.run.mc.disabledCount

theorem Quiet.refl (s : State) : Quiet s s := ⟨rfl, rfl, rfl, rfl, rfl, rfl, rfl, rfl, rfl, rfl, rfl, rfl⟩

theorem Quiet.trans {s t u : State} (h : Quiet s t) (h' : Quiet t u) : Quiet s u where
  mode := h'.mode.trans h.mode
  phase := h'.phase.trans h.phase
  nodeAddress := h'.nodeAddress.trans h.nodeAddress
  store := h'.store.trans h.store
  pending := h'.pending.trans h.pending
  dtu := by rw [h'.dtu, h.dtu]
  signals := h'.signals.trans h.signals
  tables := h'.tables.trans h.tables
  channels := h'.channels.trans h.channels
  flags := by rw [h'.flags, h.flags]
  inputs := h'.inputs.trans h.inputs
  disabledCount := h'.disabledCount.trans h.disabledCount

theorem WarningsOnly.quiet {s t : State} (h : WarningsOnly s t) : Quiet s t where
  mode := h.mode
  phase := h.phase
  nodeAddress := h.nodeAddress
  store := h.store
  pending := h.pending
  dtu := by rw [h.dtu]
  signals := h.signals
  tables := h.tables
  channels := congrArg Gu.channels h.gu
  flags := by rw [h.flags]
  inputs := congrArg Iu.inputs h.iu
  disabledCount := congrArg Mc.disabledCount h.mc

theorem Aside.quiet {s t : State} (h : Aside s t) : Quiet s t where
  mode := h.mode
  phase := h.phase
  nodeAddress := h.nodeAddress
  store := h.store
  pending := h.pending
  dtu := by rw [h.dtu]
  signals := h.signals
  tables := h.tables
  channels := h.channels
  flags := by rw [h.flags]
  inputs := h.inputs
  disabledCount := h.disabledCount

theorem putFlag_quiet {f : FlagId} (hf : f.free = true) (v : Bool) (s : State) : Quiet s (putFlag s f v) := by
  cases f
  case vlinkStuck | relayOverflow | speedMismatch | addressConflict | driverUnsynced =>
    exact ⟨rfl, rfl, rfl, rfl, rfl, rfl, rfl, rfl, rfl, rfl, rfl, rfl⟩
  all_goals exact absurd hf (by decide)

theorem replyLeft_quiet (o : Origin) (s : State) : Quiet s (replyLeft o s) := by
  unfold replyLeft
  split
  · split
    · exact ⟨rfl, rfl, rfl, rfl, rfl, rfl, rfl, rfl, rfl, rfl, rfl, rfl⟩
    · exact .refl s
  all_goals exact ⟨rfl, rfl, rfl, rfl, rfl, rfl, rfl, rfl, rfl, rfl, rfl, rfl⟩

theorem reportRemoved_quiet (l : List QEntry) (s : State) : Quiet s (reportRemoved l s) := by
  unfold reportRemoved
  induction l generalizing s with
  | nil => exact .refl s
  | cons e l ih => exact (replyLeft_quiet _ s).trans (ih _)

theorem emptyQueues_quiet (s : State) : Quiet s (emptyQueues s) := by
  refine Quiet.trans (t := { s with
    run.queues.vtq := s.run.queues.vtq.filter (finishes s.run.vli.sending.isSome)
    run.queues.drq := s.run.queues.drq.filter QEntry.inFlight }) ?_ (reportRemoved_quiet _ _)
  exact ⟨rfl, rfl, rfl, rfl, rfl, rfl, rfl, rfl, rfl, rfl, rfl, rfl⟩

/-- A relation is kept by the small changes when it has no part in the quiet ones. -/
theorem Core.of_quiet {R : State → State → Prop} (hquiet : ∀ {s t}, Quiet s t → R s t)
    (htrans : ∀ {s t u}, R s t → R t u → R s u)
    (hinternal : ∀ {s k e}, InternalEntry s k e → R s (putSignal s k e))
    (hrebound : ∀ {s t}, Rebound s.dtu t → R s { s with dtu := t })
    (hminute : ∀ s, R s { s with dtu := minuteDtu s })
    (hloaded : ∀ {cont daily} slot digest splitDone s, cont ≤ daily → daily ≤ 1440 →
      R s { s with dtu := loadedDtu slot digest cont daily splitDone s.dtu })
    (hchannels : ∀ {s l v}, Pointwise (ChannelStep (supplyFault s)) s.run.gu.channels l →
      (s.run.flags.gaugeFault = anyFault s.run.gu.channels → v = anyFault l) →
      R s { s with run.gu.channels := l, run.flags.gaugeFault := v })
    (hrouteTimes : ∀ {f : LiveRoute → LiveRoute}, (∀ r, SameRoute r (f r)) → ∀ s,
      R s { s with run.tables.routes := s.run.tables.routes.map fun e => e.mapTo f })
    (hfreshened : ∀ {s n r}, routeAt s n = some r → r.fresh ≠ .stale → R s (updRoute n refreshed s))
    (hruns : ∀ {s}, s.mode = .startup → R s { s with mode := .run, phase := .none })
    (hstored : ∀ payload s, R s (writeEntry payload s)) : Core R where
  refl s := hquiet (.refl s)
  trans := htrans
  aside ha := hquiet ha.quiet
  freeFlag hf v s := hquiet (putFlag_quiet hf v s)
  notice k s := hquiet (placeNotice_frame k s).quiet
  watch _ s := hquiet (runTasks_frame _ s).quiet
  delay _ _ := hquiet (changeCondition_frame _ _ _).quiet
  acknowledge found s := hquiet (acknowledge_frame found s).quiet
  chime _ := hquiet ⟨rfl, rfl, rfl, rfl, rfl, rfl, rfl, rfl, rfl, rfl, rfl, rfl⟩
  alertTimes _ _ := hquiet ⟨rfl, rfl, rfl, rfl, rfl, rfl, rfl, rfl, rfl, rfl, rfl, rfl⟩
  condTimes _ := hquiet ⟨rfl, rfl, rfl, rfl, rfl, rfl, rfl, rfl, rfl, rfl, rfl, rfl⟩
  relayed _ _ _ := hquiet ⟨rfl, rfl, rfl, rfl, rfl, rfl, rfl, rfl, rfl, rfl, rfl, rfl⟩
  drq _ := hquiet ⟨rfl, rfl, rfl, rfl, rfl, rfl, rfl, rfl, rfl, rfl, rfl, rfl⟩
  vtqHead _ _ := hquiet ⟨rfl, rfl, rfl, rfl, rfl, rfl, rfl, rfl, rfl, rfl, rfl, rfl⟩
  vtqPopped {s _ rest} _ := hquiet (.trans (t := { s with run.queues.vtq := rest })
    ⟨rfl, rfl, rfl, rfl, rfl, rfl, rfl, rfl, rfl, rfl, rfl, rfl⟩ (replyLeft_quiet _ _))
  duqHead _ _ := hquiet ⟨rfl, rfl, rfl, rfl, rfl, rfl, rfl, rfl, rfl, rfl, rfl, rfl⟩
  duqPopped {s _ _} _ := hquiet (.trans (t := { s with run.queues := s.run.queues.duqRemoveHead })
    ⟨rfl, rfl, rfl, rfl, rfl, rfl, rfl, rfl, rfl, rfl, rfl, rfl⟩ (replyLeft_quiet _ _))
  emptied s := hquiet (emptyQueues_quiet s)
  muPhase _ _ := hquiet ⟨rfl, rfl, rfl, rfl, rfl, rfl, rfl, rfl, rfl, rfl, rfl, rfl⟩
  replyAwaited _ := hquiet ⟨rfl, rfl, rfl, rfl, rfl, rfl, rfl, rfl, rfl, rfl, rfl, rfl⟩
  replyDropped _ _ h := htrans h (hquiet ⟨rfl, rfl, rfl, rfl, rfl, rfl, rfl, rfl, rfl, rfl, rfl, rfl⟩)
  replyVtq _ _ _ _ := hquiet ⟨rfl, rfl, rfl, rfl, rfl, rfl, rfl, rfl, rfl, rfl, rfl, rfl⟩
  replyDuq _ _ := hquiet ⟨rfl, rfl, rfl, rfl, rfl, rfl, rfl, rfl, rfl, rfl, rfl, rfl⟩
  busyPlaced _ _ := hquiet ⟨rfl, rfl, rfl, rfl, rfl, rfl, rfl, rfl, rfl, rfl, rfl, rfl⟩
  internal := hinternal
  rebound := hrebound
  minute := hminute
  loaded := hloaded
  channels := hchannels
  drive _ _ := hquiet ⟨rfl, rfl, rfl, rfl, rfl, rfl, rfl, rfl, rfl, rfl, rfl, rfl⟩
  loads _ _ _ := hquiet ⟨rfl, rfl, rfl, rfl, rfl, rfl, rfl, rfl, rfl, rfl, rfl, rfl⟩
  lampCheckTick _ := hquiet ⟨rfl, rfl, rfl, rfl, rfl, rfl, rfl, rfl, rfl, rfl, rfl, rfl⟩
  routeTimes := hrouteTimes
  freshened := hfreshened
  runs := hruns
  stored := hstored

/-! ## Changes of mode -/

theorem abandonCondition_frame (s : State) (j : Nat) : WarningsOnly s (abandonCondition s j) := by
  have hput : WarningsOnly s (putCondRec s j { state := .inactive, remembered := false, timer := none }) :=
    ⟨rfl, rfl⟩
  unfold abandonCondition
  dsimp only
  split
  · exact hput
  · exact hput.trans (telltaleChange_frame _ _ _ _)

theorem WarningsOnly.withConds {s t : State} (h : WarningsOnly s t) (l : List (Entry Condition)) :
    WarningsOnly { s with run.tables.conds := l } { t with run.tables.conds := l } :=
  ⟨by rw [h.1], h.2⟩

/-- R76: the conditions are abandoned by the warnings path alone. -/
theorem abandonConditions_frame (s : State) :
    WarningsOnly { s with run.cu.evaluating := false, run.tables.conds := Tables.initial.conds }
      (abandonConditions s) := by
  unfold abandonConditions
  generalize List.range 64 = conditions
  have hfold : WarningsOnly { s with run.cu.evaluating := false }
      (conditions.foldl abandonCondition { s with run.cu.evaluating := false }) :=
    foldl_keeps (fun t j ht => ht.trans (abandonCondition_frame t j)) conditions (.refl _)
  exact hfold.withConds Tables.initial.conds

/-- SHUTDOWN entry up to the dark lamps (R169). -/
def shutdownDark (s : State) : State :=
  darkenLamps (returnGauges (emptyQueues (stopFreshness
    { s with mode := .shutdown, phase := .none, run.mc.validation := none
             shutdownTimer := some Config.shutdownMillis })))

theorem enterShutdown_eq (s : State) : enterShutdown s =
    placeNotice .status (flagChange .service false
      (abandonCommand { shutdownDark s with run.vli := dropTest (shutdownDark s).run.vli })) := rfl

theorem emptyQueues_mode (s : State) : (emptyQueues s).mode = s.mode := (emptyQueues_quiet s).mode

theorem darkenLamps_mode (s : State) : (darkenLamps s).mode = s.mode := rfl

theorem returnGauges_mode (s : State) : (returnGauges s).mode = s.mode := rfl

theorem shutdownDark_mode (s : State) : (shutdownDark s).mode = .shutdown := by
  rw [shutdownDark, darkenLamps_mode, returnGauges_mode, emptyQueues_mode]
  rfl

theorem abandonCommand_mode (s : State) : (abandonCommand s).mode = s.mode := by
  unfold abandonCommand
  split <;> rfl

theorem aside_vli (s : State) (v : Vli) : Aside s { s with run.vli := v } := rfl

namespace Core

variable {R : State → State → Prop} (h : Core R)
include h

theorem stopFreshness (s : State) : R s (stopFreshness s) :=
  h.routeTimes (f := fun r => { r with timer := none }) (fun _ => ⟨rfl, rfl⟩) s

theorem pausedAlerts (s : State) : R s { s with run.tu.alerts := pauseAlerts s.run.tu.alerts } := by
  refine h.alertTimes (fun a => ?_) s
  split <;> exact ⟨rfl, rfl, rfl⟩

theorem dark_of {s : State}
    (hmode : R s { s with mode := .shutdown, phase := .none })
    (hcheck : ∀ t, R t { t with run.tu.lampCheck := none }) : R s (shutdownDark s) := by
  have htimed := h.trans hmode (h.aside (t := { s with
    mode := .shutdown, phase := .none, run.mc.validation := none
    shutdownTimer := some Config.shutdownMillis }) rfl)
  have hreturned := h.trans (h.trans (h.trans htimed (h.stopFreshness _)) (h.emptied _)) (h.returnGauges _)
  have hdark := h.trans (h.trans hreturned (hcheck _)) (h.pausedAlerts _)
  exact h.trans (h.trans hdark (h.releaseLamps _)) (h.chimeSilence _)

theorem shutdown_of {s : State} (hdark : R s (shutdownDark s))
    (hflag : ∀ t, t.mode = .shutdown → R t (putFlag t .service false)) : R s (enterShutdown s) := by
  have hmode := shutdownDark_mode s
  rw [enterShutdown_eq]
  generalize shutdownDark s = dark at hdark hmode
  have habandoned := h.trans (h.trans hdark (h.aside (aside_vli dark (dropTest dark.run.vli)))) (h.abandonCommand _)
  have hmode' := (abandonCommand_mode { dark with run.vli := dropTest dark.run.vli }).trans hmode
  exact h.trans (h.flagDelivered (h.trans habandoned (hflag _ hmode'))) (h.notice .status _)

theorem cold_of {s : State} (hbegun : R s (beginStartup { s with run := Run.initial })) : R s (coldStart s) :=
  h.trans (h.trans hbegun (h.writeSlotSignals _)) (h.noticeIfOn .status _)

theorem warm_of {s : State} (hstopped : R s (stopSampling (abandonConditions (dropRoutes (beginStartup s))))) :
    R s (warmStart s) :=
  h.trans (h.trans hstopped (h.driveLamps _)) (h.noticeIfOn .status _)

end Core

end Sys2Proof.Machine
end

section
/-! PROOFS. Relations that no larger change breaks in its middle: what is kept of them by every command
follows from the small changes and from the parts of the larger ones. -/

namespace Sys2Proof.Machine

/-- The tables that a validation builds. -/
def Validated (new : NewTables) : Prop := ∃ m, new = validate m

/-- A relation that each part of the larger changes keeps too. -/
structure Leaves (R : State → State → Prop) : Prop extends Core R where
  anyMode : ∀ mode phase s, R s { s with mode := mode, phase := phase }
  clocks : ∀ timer din0 minute s, R s { s with shutdownTimer := timer, din0 := din0, dtu.timer := minute }
  anyFlag : ∀ f : FlagId, f ≠ .lampFault → ∀ s v, R s (putFlag s f v)
  input : ∀ n d s, R s { s with run.iu.inputs := updAt s.run.iu.inputs n fun _ => d }
  frameSignal : ∀ {s i d e}, FrameEntry s i d e → R s (putSignal s i e)
  route : ∀ {s n r f}, routeAt s n = some r → (f = refreshed ∨ f = expiredRoute) → R s (updRoute n f s)
  count : ∀ n s, R s { s with run.mc.disabledCount := n }
  tables : ∀ {new}, Validated new → ∀ s, R s { s with run.tables := new.working }
  noRoutes : ∀ s, R s { s with run.tables.routes := Tables.initial.routes }
  sampling : ∀ levels s, R s (startSampling levels s)
  stopped : ∀ s, R s (stopSampling s)
  replaced : ∀ m s, R s (replaceParams (validate m).params (validate m).drive.workState s)
  filtered : ∀ s, R s (filterAlerts s)
  evaluated : ∀ s, R s (firstEvaluation s)
  abandoned : ∀ s, R s (abandonConditions s)
  checkOff : ∀ s, R s { s with run.tu.lampCheck := none }
  placed : ∀ s, R s (mapChannels (restartChannel s) s)
  restartedRun : ∀ s, R s { s with run := restartRun s.run }
  initialRun : ∀ s, R s { s with run := Run.initial }
  unpoweredRun : ∀ s, R s { s with run := Run.unpowered }
  keepAlive : ∀ straps s, R s (keepAliveReset straps s)

namespace Leaves

variable {R : State → State → Prop} (h : Leaves R)
include h

theorem forcedExit (s : State) : R s (forcedExit s) :=
  h.forcedExit_of (fun s _ => h.anyMode .run s.phase s) (h.anyFlag _ (by decide)) s

theorem activate (m : List Host.Cell) (levels : BitVec 16) (s : State) : R s (activate (validate m) levels s) :=
  h.activate_of (fun s n => h.trans (h.count n s) (h.anyFlag .configFault (by decide) _ _)) (h.tables ⟨m, rfl⟩) (h.sampling levels)
    (h.replaced m) h.filtered h.evaluated s

theorem restarted (levels : BitVec 16) (s : State) : R s (restarted levels s) :=
  h.restarted_of h.restartedRun (fun s => h.activate s.store levels s) h.placed (fun s => h.anyMode .run s.phase s) s

theorem kept : Kept R where
  toCore := h.toCore
  forcedExit := h.forcedExit
  signalEvent he ht _ := h.trans (h.trans (h.frameSignal he) ht) (h.roadSpeedEvent_of h.forcedExit _ _)
  inputSample := h.inputSample_of (fun s n d => h.input n d s) h.forcedExit
  enterService hrun _ := h.enterService_of (fun s _ => h.anyMode .service s.phase s) (h.anyFlag _ (by decide)) hrun
  supervised hr hf ht := h.trans (h.trans (h.route hr hf) ht)
    (h.superviseRoutes_of (h.anyFlag _ (by decide)) (h.anyFlag _ (by decide)) (h.anyFlag _ (by decide)) _)
  setUnder := h.setUnder_of (h.anyFlag _ (by decide))
  clearUnder := h.clearUnder_of (h.anyFlag _ (by decide))
  setOver := h.setOver_of (h.anyFlag _ (by decide))
  clearOver := h.clearOver_of (h.anyFlag _ (by decide))
  restart levels hval := h.restart_of_restarted hval (h.restarted levels _)

theorem enterStandby (s : State) : R s (enterStandby s) := by
  have hmode := h.trans (h.anyMode .standby .none s) (h.clocks none s.din0 s.dtu.timer _)
  exact h.trans hmode (h.unpoweredRun _)

theorem beginStartup (s : State) : R s (beginStartup s) := by
  have hmode := h.anyMode .startup .validating s
  refine h.trans hmode (h.aside ?_)
  rfl

theorem dropRoutes (s : State) : R s (dropRoutes s) :=
  h.trans (h.trans (h.trans (h.noRoutes s) (h.anyFlag _ (by decide) _ _)) (h.anyFlag _ (by decide) _ _)) (h.anyFlag _ (by decide) _ _)

theorem outer : Outer R where
  refl := h.refl
  trans := h.trans
  path _ hpath := hpath R h.kept
  standby _ := h.enterStandby _
  clocks := h.clocks
  asleepMinute _ := h.minuteEvent _
  shutdown _ := h.shutdown_of (h.dark_of (h.anyMode _ _ _) h.checkOff) fun t _ => h.anyFlag _ (by decide) t _
  warm _ := h.warm_of (h.trans (h.trans (h.trans (h.beginStartup _) (h.dropRoutes _)) (h.abandoned _)) (h.stopped _))
  cold _ := h.cold_of (h.trans (h.initialRun _) (h.beginStartup _))
  reset := h.keepAlive
  completes levels hval := h.kept.completeStartup_of hval fun t _ _ =>
    h.trans (h.activate t.store levels t) (h.anyMode _ .gaugesAndLamps _)

end Leaves

end Sys2Proof.Machine
end

section
/-! PROOFS. Every well-formed command is answered with a next state, and the commands that wait stay. -/

namespace Sys2Proof.Machine

/-- The commands that wait are as they were. -/
def SamePending (s t : State) : Prop := t.pending = s.pending

theorem samePending_core : Core SamePending :=
  .of_quiet (fun h => h.pending) (fun h h' => Eq.trans h' h) (fun _ => rfl) (fun _ => rfl) (fun _ => rfl)
    (fun _ _ _ _ _ _ => rfl) (fun _ _ => rfl) (fun _ _ => rfl) (fun _ _ => rfl) (fun _ => rfl) fun _ _ => rfl

theorem samePending_replaceParams (p : DriveParams) (w : WorkState) (s : State) :
    SamePending s (replaceParams p w s) :=
  samePending_core.replaceParams_of (fun _ => rfl) (fun _ => rfl) s


theorem exec_wellFormed {c : Instr} (hc : c.wellFormed = true) (s : State) : ∃ t, exec c s = .next t := by
  cases c
  case ignitionFinding | ignitionOn | ignitionOff | debouncedEdge | gaugeUpdate =>
    exact ⟨_, if_pos hc⟩
  all_goals exact ⟨_, rfl⟩

theorem exec_illFormed {c : Instr} (hc : c.wellFormed = false) (s : State) : exec c s = .refused .illFormed := by
  have hnot : ¬ c.wellFormed = true := by simp [hc]
  cases c
  case ignitionFinding | ignitionOn | ignitionOff | debouncedEdge | gaugeUpdate => exact if_neg hnot
  all_goals exact absurd rfl hnot

theorem samePending_leaves : Leaves SamePending where
  toCore := samePending_core
  anyMode _ _ _ := rfl
  clocks _ _ _ _ := rfl
  anyFlag f _ s v := putFlag_pending s f v
  input _ _ _ := rfl
  frameSignal _ := rfl
  route _ _ := rfl
  count _ _ := rfl
  tables _ _ := rfl
  noRoutes _ := rfl
  sampling _ _ := rfl
  stopped _ := rfl
  replaced _ := samePending_replaceParams _ _
  filtered s := (filterAlerts_frame s).pending
  evaluated _ := (runTasks_frame _ _).pending
  abandoned s := (abandonConditions_frame s).pending
  checkOff _ := rfl
  placed _ := rfl
  restartedRun _ := rfl
  initialRun _ := rfl
  unpoweredRun _ := rfl
  keepAlive _ _ := rfl

/-- Settles O48: `exec` answers by cases on the command, and no part of a command takes from the queue. -/
theorem commandsAreAnswered : Obligations.CommandsAreAnswered := by
  intro c s
  refine ⟨fun hc => ?_, fun hc => exec_illFormed hc s⟩
  obtain ⟨t, ht⟩ := exec_wellFormed hc s
  exact ⟨t, ht, samePending_leaves.outer.exec c s t ht⟩

end Sys2Proof.Machine
end

section
/-! PROOFS. The law of the Activity Log and of the minute counter (R115, R123), kept by every step. -/

namespace Sys2Proof.Machine

/-! ## What is logged -/

/-- The Drive-Time Unit's log and counters are as they were. -/
def SameLog (u t : Dtu) : Prop := t.minutes = u.minutes ∧ t.seq = u.seq ∧ t.log = u.log

theorem LogLaw.of_same {u t : Dtu} (h : SameLog u t) (hu : LogLaw u) : LogLaw t := by
  obtain ⟨hminutes, hseq, hlog⟩ := h
  rwa [LogLaw, hminutes, hseq, hlog]

theorem LogLaw.append (kind : LogKind) (slot : Option Nat) (activity : Activity) (inferred : Bool) (digest : Nat)
    {t : Dtu} (h : LogLaw t) : LogLaw (appendLog kind slot activity inferred digest t) := by
  obtain ⟨hminutes, hseq, hlen, hrun⟩ := h
  have hcapacity : Config.logCapacity = 64 := rfl
  refine ⟨hminutes, Nat.mod_lt _ (by decide), ?_, fun i r hr => ?_⟩
  · simp only [appendLog, List.length_append, List.length_drop, List.length_singleton, hcapacity]
    omega
  · have hseq' : (appendLog kind slot activity inferred digest t).seq = (t.seq + 1) % 65536 := rfl
    rw [hseq']
    simp only [appendLog, List.getElem?_append, List.length_drop, List.getElem?_drop, List.length_append,
      List.length_singleton, hcapacity] at hr ⊢
    split at hr
    · have hold := hrun _ _ hr
      omega
    · obtain ⟨hi, rfl⟩ := List.getElem?_eq_some_iff.1 hr
      simp only [List.length_singleton] at hi
      simp only [List.getElem_singleton]
      omega

theorem LogLaw.logDriver (kind : LogKind) (slot : Option Nat) (d : Driver) {t : Dtu} (h : LogLaw t) :
    LogLaw (logDriver kind slot d t) := h.append _ _ _ _ _

theorem setSlot_sameLog (slot : Nat) (digest : Option Nat) (t : Dtu) : SameLog t (setSlot slot digest t) := by
  unfold setSlot
  split <;> exact ⟨rfl, rfl, rfl⟩

theorem LogLaw.unbind (slot : Nat) {t : Dtu} (h : LogLaw t) : LogLaw (unbind slot t) := by
  have hset := h.of_same (setSlot_sameLog slot none t)
  unfold Machine.unbind
  split
  · exact h
  · dsimp only
    split
    · exact hset.logDriver _ _ _
    · exact hset

theorem LogLaw.bind (slot digest : Nat) {t : Dtu} (h : LogLaw t) : LogLaw (bind slot digest t) := by
  have hset : LogLaw (updRecord digest (fun d => { d with lastPresent := t.minutes }) (setSlot slot (some digest) t)) :=
    (h.of_same (setSlot_sameLog slot (some digest) t)).of_same ⟨rfl, rfl, rfl⟩
  unfold Machine.bind
  dsimp only
  split
  · exact hset.logDriver _ _ _
  · exact hset

theorem LogLaw.createRecord (digest : Nat) {t : Dtu} (h : LogLaw t) : LogLaw (createRecord digest t) := by
  have hroom : LogLaw (makeRoom t) := by
    unfold makeRoom
    split
    · exact h
    · split
      · exact h
      · exact LogLaw.logDriver _ _ _ (h.of_same ⟨rfl, rfl, rfl⟩)
  exact hroom.of_same ⟨rfl, rfl, rfl⟩

theorem LogLaw.cardPresent (slot digest : Nat) {t : Dtu} (h : LogLaw t) : LogLaw (cardPresent slot digest t) := by
  have hfreed := h.unbind slot
  unfold Machine.cardPresent bindPresent
  split
  · exact h
  · split
    · split
      · exact (hfreed.unbind _).bind _ _
      · exact hfreed.bind _ _
    · exact (hfreed.createRecord _).bind _ _

theorem LogLaw.logActivity (old : Dtu) (slot : Nat) {t : Dtu} (h : LogLaw t) : LogLaw (logActivity old slot t) := by
  unfold Machine.logActivity
  split
  · exact h
  · split
    · split
      · exact h
      · exact h.logDriver _ _ _
    · exact h

theorem LogLaw.minute {s : State} (h : LogLaw s.dtu) : LogLaw (minuteDtu s) := by
  unfold minuteDtu
  refine LogLaw.logActivity _ _ (LogLaw.logActivity _ _ ?_)
  exact ⟨Nat.mod_lt _ (by decide), h.2⟩

theorem LogLaw.rebound {u t : Dtu} (h : LogLaw u) (ht : Rebound u t) : LogLaw t := by
  obtain ⟨slot, -, rfl | ⟨digest, rfl⟩⟩ := ht
  · exact h.unbind slot
  · exact h.cardPresent slot digest

theorem LogLaw.loaded (slot digest cont daily : Nat) (splitDone : Bool) {t : Dtu} (h : LogLaw t) :
    LogLaw (loadedDtu slot digest cont daily splitDone t) := by
  have hupd : LogLaw (updRecord digest (loadRecord t.params cont daily splitDone) t) := h.of_same ⟨rfl, rfl, rfl⟩
  unfold loadedDtu
  dsimp only
  split
  · exact hupd.logDriver _ _ _
  · exact hupd

theorem reset_logLaw : LogLaw State.reset.dtu :=
  ⟨by decide, by decide, by decide, fun _ _ h => absurd h (by simp [State.reset, Dtu.initial])⟩

/-! ## Every step -/

theorem putFlag_sameLog (s : State) (f : FlagId) (v : Bool) : SameLog s.dtu (putFlag s f v).dtu := by
  cases f <;> exact ⟨rfl, rfl, rfl⟩

def Logged (s : State) : Prop := LogLaw s.dtu

theorem Logged.of_dtu {s t : State} (h : t.dtu = s.dtu) : Preserves Logged s t := by
  unfold Preserves Logged
  rw [h]
  exact id

theorem logged_core : Core (Preserves Logged) :=
  .of_quiet (fun h hs => hs.of_same (by rw [h.dtu]; exact ⟨rfl, rfl, rfl⟩)) (fun h h' hs => h' (h hs))
    (fun _ => .of_dtu rfl) (fun ht hs => hs.rebound ht) (fun _ hs => hs.minute)
    (fun _ _ _ _ _ _ hs => hs.loaded _ _ _ _ _) (fun _ _ => .of_dtu rfl) (fun _ _ => .of_dtu rfl)
    (fun _ _ => .of_dtu rfl) (fun _ => .of_dtu rfl) fun _ _ => .of_dtu rfl

theorem logged_leaves : Leaves (Preserves Logged) where
  toCore := logged_core
  anyMode _ _ _ := .of_dtu rfl
  clocks _ _ _ _ hs := hs.of_same ⟨rfl, rfl, rfl⟩
  anyFlag f _ s v hs := hs.of_same (putFlag_sameLog s f v)
  input _ _ _ := .of_dtu rfl
  frameSignal _ := .of_dtu rfl
  route _ _ := .of_dtu rfl
  count _ _ := .of_dtu rfl
  tables _ _ := .of_dtu rfl
  noRoutes _ := .of_dtu rfl
  sampling _ _ := .of_dtu rfl
  stopped _ := .of_dtu rfl
  replaced _ s := logged_core.replaceParams_of (fun _ hs => hs.of_same ⟨rfl, rfl, rfl⟩)
    (fun _ hs => hs.of_same ⟨rfl, rfl, rfl⟩) s
  filtered s := .of_dtu (filterAlerts_frame s).dtu
  evaluated _ := .of_dtu (runTasks_frame _ _).dtu
  abandoned s := .of_dtu (abandonConditions_frame s).dtu
  checkOff _ := .of_dtu rfl
  placed _ := .of_dtu rfl
  restartedRun _ := .of_dtu rfl
  initialRun _ := .of_dtu rfl
  unpoweredRun _ := .of_dtu rfl
  keepAlive _ _ _ := reset_logLaw

/-- Settles O53: every change of the log is one append. -/
theorem activityLogLawIsKept : Obligations.ActivityLogLawIsKept := fun _ _ hstep =>
  logged_leaves.outer.step (fun _ _ => .of_dtu rfl) hstep

end Sys2Proof.Machine
end

section
/-! PROOFS. The form of the Table Store and the numbers of the records, kept by every step. -/

namespace Sys2Proof.Machine

/-! ## The store -/

/-- The Table Store is in canonical form. -/
def Canonical (s : State) : Prop := storeWf s.store = true

theorem Canonical.of_store {s t : State} (h : t.store = s.store) : Preserves Canonical s t := by
  unfold Preserves Canonical
  rw [h]
  exact id

theorem canonical_core : Core (Preserves Canonical) :=
  .of_quiet (fun h => .of_store h.store) (fun h h' hs => h' (h hs)) (fun _ => .of_store rfl)
    (fun _ => .of_store rfl) (fun _ => .of_store rfl) (fun _ _ _ _ _ _ => .of_store rfl)
    (fun _ _ => .of_store rfl) (fun _ _ => .of_store rfl) (fun _ _ => .of_store rfl) (fun _ => .of_store rfl)
    fun _ _ => writeGroup_wf _ _ _ _

theorem canonical_leaves : Leaves (Preserves Canonical) where
  toCore := canonical_core
  anyMode _ _ _ := .of_store rfl
  clocks _ _ _ _ := .of_store rfl
  anyFlag f _ s v := .of_store (putFlag_store s f v)
  input _ _ _ := .of_store rfl
  frameSignal _ := .of_store rfl
  route _ _ := .of_store rfl
  count _ _ := .of_store rfl
  tables _ _ := .of_store rfl
  noRoutes _ := .of_store rfl
  sampling _ _ := .of_store rfl
  stopped _ := .of_store rfl
  replaced _ := canonical_core.replaceParams_of (fun _ => .of_store rfl) fun _ => .of_store rfl
  filtered s := .of_store (filterAlerts_frame s).store
  evaluated _ := .of_store (runTasks_frame _ _).store
  abandoned s := .of_store (abandonConditions_frame s).store
  checkOff _ := .of_store rfl
  placed _ := .of_store rfl
  restartedRun _ := .of_store rfl
  initialRun _ := .of_store rfl
  unpoweredRun _ := .of_store rfl
  keepAlive _ _ := .of_store rfl

/-! ## The numbers of the records -/

/-- Each list of records is as long as it was. -/
def SameLengths (s t : State) : Prop :=
  t.run.signals.length = s.run.signals.length ∧ t.run.gu.channels.length = s.run.gu.channels.length ∧
    SameCounts s t ∧ t.run.iu.inputs.length = s.run.iu.inputs.length

theorem SameLengths.shape {s t : State} (h : SameLengths s t) : Preserves ShapeLaw s t := by
  obtain ⟨hsignals, hchannels, ⟨hrecs, hlamps⟩, hinputs⟩ := h
  rintro ⟨h1, h2, h3, h4, h5⟩
  exact ⟨hsignals.trans h1, hchannels.trans h2, hrecs.trans h3, hlamps.trans h4, hinputs.trans h5⟩

theorem Quiet.lengths {s t : State} (h : Quiet s t) (hcounts : SameCounts s t) : SameLengths s t :=
  ⟨by rw [h.signals], by rw [h.channels], hcounts, by rw [h.inputs]⟩

theorem WarningsOnly.lengths {s t : State} (h : WarningsOnly s t) (hcounts : SameCounts s t) : SameLengths s t :=
  h.quiet.lengths hcounts

theorem Aside.counts {s t : State} (h : Aside s t) : SameCounts s t :=
  ⟨by rw [h.cu], by rw [h.lamps]⟩

theorem putFlag_counts (s : State) (f : FlagId) (v : Bool) : SameCounts s (putFlag s f v) := ⟨by simp, by simp⟩

theorem changeCondition_counts (j : Nat) (r : CondRec) (s : State) : SameCounts s (changeCondition j r s) := by
  refine .trans (t := putCondRec s j r) ⟨?_, rfl⟩ (runTasks_counts _ _)
  simp [putCondRec]

theorem acknowledge_counts (found : Option Nat) (s : State) : SameCounts s (acknowledge found s) := by
  unfold acknowledge
  split
  · exact .refl s
  · refine .trans ?_ (telltaleIfChanged_counts _ _)
    refine .trans ?_ (driveLamps_counts _)
    refine .trans ?_ (refreshBlink_counts _)
    refine .trans ?_ (setAlerts_counts _ _)
    exact (setAlerts_counts _ s).trans (runTasks_counts _ _)

theorem replyLeft_counts (o : Origin) (s : State) : SameCounts s (replyLeft o s) := by
  unfold replyLeft
  split
  · split <;> exact ⟨rfl, rfl⟩
  all_goals exact ⟨rfl, rfl⟩

theorem emptyQueues_counts (s : State) : SameCounts s (emptyQueues s) := by
  have hreport (l : List QEntry) (t : State) : SameCounts t (reportRemoved l t) :=
    foldl_keeps (P := SameCounts t) (fun u e hu => hu.trans (replyLeft_counts e.origin u)) l (.refl t)
  exact .trans (t := { s with run.queues.vtq := s.run.queues.vtq.filter (finishes s.run.vli.sending.isSome)
                              run.queues.drq := s.run.queues.drq.filter QEntry.inFlight }) ⟨rfl, rfl⟩ (hreport _ _)

theorem filterAlerts_counts (s : State) : SameCounts s (filterAlerts s) :=
  (((setAlerts_counts _ s).trans (refreshBlink_counts _)).trans (driveLamps_counts _)).trans
    (telltaleIfChanged_counts _ _)

theorem abandonConditions_counts (s : State) : SameCounts s (abandonConditions s) := by
  have hone (t : State) (j : Nat) : SameCounts t (abandonCondition t j) := by
    have hput : SameCounts t (putCondRec t j { state := .inactive, remembered := false, timer := none }) :=
      ⟨by simp [putCondRec], rfl⟩
    unfold abandonCondition
    dsimp only
    split
    · exact hput
    · exact hput.trans (telltaleChange_counts _ _ _ _)
  unfold abandonConditions
  generalize List.range 64 = conditions
  have hfold : SameCounts s (conditions.foldl abandonCondition { s with run.cu.evaluating := false }) :=
    foldl_keeps (fun t j ht => ht.trans (hone t j)) conditions ⟨rfl, rfl⟩
  exact hfold

theorem placeNotice_counts (k : NoticeType) (s : State) : SameCounts s (placeNotice k s) := ⟨rfl, rfl⟩

theorem shape_core : Core (Preserves ShapeLaw) where
  refl _ := id
  trans h h' hs := h' (h hs)
  aside ha := (ha.quiet.lengths ha.counts).shape
  freeFlag hf v s := ((putFlag_quiet hf v s).lengths (putFlag_counts s _ v)).shape
  notice k s := ((placeNotice_frame k s).lengths (placeNotice_counts k s)).shape
  watch _ s := ((runTasks_frame _ s).lengths (runTasks_counts _ s)).shape
  delay _ _ := ((changeCondition_frame _ _ _).lengths (changeCondition_counts _ _ _)).shape
  acknowledge found s := ((acknowledge_frame found s).lengths (acknowledge_counts found s)).shape
  chime _ := id
  alertTimes _ _ := id
  condTimes _ := SameLengths.shape ⟨rfl, rfl, ⟨List.length_map _, rfl⟩, rfl⟩
  relayed _ _ _ := id
  drq _ := id
  vtqHead _ _ := id
  vtqPopped _ := fun hs => ((replyLeft_quiet _ _).lengths (replyLeft_counts _ _)).shape hs
  duqHead _ _ := id
  duqPopped _ := fun hs => ((replyLeft_quiet _ _).lengths (replyLeft_counts _ _)).shape hs
  emptied s := ((emptyQueues_quiet s).lengths (emptyQueues_counts s)).shape
  muPhase _ _ := id
  replyAwaited _ := id
  replyDropped _ _ h := h
  replyVtq _ _ _ _ := id
  replyDuq _ _ := id
  busyPlaced _ _ := id
  internal _ := SameLengths.shape ⟨updAt_length _ _ _, rfl, ⟨rfl, rfl⟩, rfl⟩
  rebound _ := id
  minute _ := id
  loaded _ _ _ _ _ _ := id
  channels hl _ := SameLengths.shape ⟨rfl, hl.1, ⟨rfl, rfl⟩, rfl⟩
  drive _ hl := SameLengths.shape ⟨rfl, rfl, ⟨rfl, (driveLamps_counts _).2.trans hl.1⟩, rfl⟩
  loads hl _ _ := SameLengths.shape ⟨rfl, rfl, ⟨rfl, hl.1⟩, rfl⟩
  lampCheckTick _ := id
  routeTimes _ _ := id
  freshened _ _ := id
  runs _ := id
  stored _ _ := id

theorem initial_shapeLaw {s : State} (h : s.run = Run.initial) : ShapeLaw s := by
  rw [ShapeLaw, h]
  exact ⟨List.length_replicate, List.length_replicate, List.length_replicate, List.length_replicate,
    List.length_replicate⟩

theorem shape_leaves : Leaves (Preserves ShapeLaw) where
  toCore := shape_core
  anyMode _ _ _ := id
  clocks _ _ _ _ := id
  anyFlag f _ s v := SameLengths.shape ⟨by simp, by simp, putFlag_counts s f v, by simp⟩
  input _ _ _ := SameLengths.shape ⟨rfl, rfl, ⟨rfl, rfl⟩, updAt_length _ _ _⟩
  frameSignal _ := SameLengths.shape ⟨updAt_length _ _ _, rfl, ⟨rfl, rfl⟩, rfl⟩
  route _ _ := id
  count _ _ := id
  tables _ _ := id
  noRoutes _ := id
  sampling levels s := by
    rintro ⟨h1, h2, h3, h4, -⟩
    exact ⟨h1, h2, h3, h4, by simp [startSampling, sampleInputs]⟩
  stopped s := by
    rintro ⟨h1, h2, h3, h4, -⟩
    exact ⟨h1, h2, h3, h4, List.length_replicate⟩
  replaced _ := shape_core.replaceParams_of (fun _ => id) fun _ => id
  filtered s := ((filterAlerts_frame s).lengths (filterAlerts_counts s)).shape
  evaluated s := by
    refine fun hs => ((runTasks_frame _ _).lengths (runTasks_counts _ _)).shape ?_
    obtain ⟨h1, h2, -, h4, h5⟩ := hs
    exact ⟨h1, h2, List.length_replicate, h4, h5⟩
  abandoned s := SameLengths.shape ⟨by rw [(abandonConditions_frame s).signals], by rw [(abandonConditions_frame s).gu],
    abandonConditions_counts s, by rw [(abandonConditions_frame s).iu]⟩
  checkOff _ := id
  placed s := SameLengths.shape ⟨rfl, mapFrom_length _ _ _, ⟨rfl, rfl⟩, rfl⟩
  restartedRun s := by
    rintro ⟨-, h2, -⟩
    exact ⟨List.length_replicate, h2, List.length_replicate, List.length_replicate, List.length_replicate⟩
  initialRun s _ := initial_shapeLaw rfl
  unpoweredRun s _ := reset_shapeLaw
  keepAlive _ _ _ := reset_shapeLaw

end Sys2Proof.Machine
end

section
/-! PROOFS. What the Drive-Time Unit's own changes leave alone, and what an activation does. -/

namespace Sys2Proof.Machine

/-- `s` with another Drive-Time state, other signals, and what the warnings path and F7 make of them. -/
def State.withDrive (s : State) (dtu : Dtu) (r : Run) : State :=
  { s with
    dtu := dtu
    run := { s.run with
      signals := r.signals, mismatch := r.mismatch
      flags.speedMismatch := r.flags.speedMismatch
      cu := { s.run.cu with recs := r.cu.recs }
      tu := { s.run.tu with lamps := r.tu.lamps, alerts := r.tu.alerts, chime := r.tu.chime }
      queues := { r.queues with vtq := s.run.queues.vtq, drq := s.run.queues.drq } } }

/-- `t` differs from `s` at most in the Drive-Time state, the signals, F7 with its timer, and the warnings
path. -/
def DriveOnly (s t : State) : Prop := t = s.withDrive t.dtu t.run

theorem DriveOnly.refl (s : State) : DriveOnly s s := rfl

theorem DriveOnly.trans {s t u : State} (h : DriveOnly s t) (h' : DriveOnly t u) : DriveOnly s u := by
  unfold DriveOnly at h h' ⊢
  conv_lhs => rw [h']
  rw [h]
  rfl

theorem WarningsOnly.driveOnly {s t : State} (h : WarningsOnly s t) : DriveOnly s t := by
  unfold DriveOnly
  conv_lhs => rw [h.1]
  conv_rhs => rw [h.1]
  rfl

theorem DriveOnly.eq {s t : State} (h : DriveOnly s t) : t = s.withDrive t.dtu t.run := h

theorem DriveOnly.mode {s t : State} (h : DriveOnly s t) : t.mode = s.mode :=
  (congrArg (fun u : State => u.mode) h.eq).trans rfl
theorem DriveOnly.phase {s t : State} (h : DriveOnly s t) : t.phase = s.phase :=
  (congrArg (fun u : State => u.phase) h.eq).trans rfl
theorem DriveOnly.shutdownTimer {s t : State} (h : DriveOnly s t) : t.shutdownTimer = s.shutdownTimer :=
  (congrArg (fun u : State => u.shutdownTimer) h.eq).trans rfl
theorem DriveOnly.nodeAddress {s t : State} (h : DriveOnly s t) : t.nodeAddress = s.nodeAddress :=
  (congrArg (fun u : State => u.nodeAddress) h.eq).trans rfl
theorem DriveOnly.din0 {s t : State} (h : DriveOnly s t) : t.din0 = s.din0 :=
  (congrArg (fun u : State => u.din0) h.eq).trans rfl
theorem DriveOnly.store {s t : State} (h : DriveOnly s t) : t.store = s.store :=
  (congrArg (fun u : State => u.store) h.eq).trans rfl
theorem DriveOnly.pending {s t : State} (h : DriveOnly s t) : t.pending = s.pending :=
  (congrArg (fun u : State => u.pending) h.eq).trans rfl
theorem DriveOnly.tables {s t : State} (h : DriveOnly s t) : t.run.tables = s.run.tables :=
  (congrArg (fun u : State => u.run.tables) h.eq).trans rfl
theorem DriveOnly.gu {s t : State} (h : DriveOnly s t) : t.run.gu = s.run.gu :=
  (congrArg (fun u : State => u.run.gu) h.eq).trans rfl
theorem DriveOnly.evaluating {s t : State} (h : DriveOnly s t) : t.run.cu.evaluating = s.run.cu.evaluating :=
  (congrArg (fun u : State => u.run.cu.evaluating) h.eq).trans rfl
theorem DriveOnly.blink {s t : State} (h : DriveOnly s t) : t.run.tu.blink = s.run.tu.blink :=
  (congrArg (fun u : State => u.run.tu.blink) h.eq).trans rfl
theorem DriveOnly.blinkTimer {s t : State} (h : DriveOnly s t) : t.run.tu.blinkTimer = s.run.tu.blinkTimer :=
  (congrArg (fun u : State => u.run.tu.blinkTimer) h.eq).trans rfl
theorem DriveOnly.lampCheck {s t : State} (h : DriveOnly s t) : t.run.tu.lampCheck = s.run.tu.lampCheck :=
  (congrArg (fun u : State => u.run.tu.lampCheck) h.eq).trans rfl
theorem DriveOnly.loadTimer {s t : State} (h : DriveOnly s t) : t.run.tu.loadTimer = s.run.tu.loadTimer :=
  (congrArg (fun u : State => u.run.tu.loadTimer) h.eq).trans rfl
theorem DriveOnly.iu {s t : State} (h : DriveOnly s t) : t.run.iu = s.run.iu :=
  (congrArg (fun u : State => u.run.iu) h.eq).trans rfl
theorem DriveOnly.mc {s t : State} (h : DriveOnly s t) : t.run.mc = s.run.mc :=
  (congrArg (fun u : State => u.run.mc) h.eq).trans rfl
theorem DriveOnly.mu {s t : State} (h : DriveOnly s t) : t.run.mu = s.run.mu :=
  (congrArg (fun u : State => u.run.mu) h.eq).trans rfl
theorem DriveOnly.vli {s t : State} (h : DriveOnly s t) : t.run.vli = s.run.vli :=
  (congrArg (fun u : State => u.run.vli) h.eq).trans rfl
theorem DriveOnly.dli {s t : State} (h : DriveOnly s t) : t.run.dli = s.run.dli :=
  (congrArg (fun u : State => u.run.dli) h.eq).trans rfl
theorem DriveOnly.vtq {s t : State} (h : DriveOnly s t) : t.run.queues.vtq = s.run.queues.vtq :=
  (congrArg (fun u : State => u.run.queues.vtq) h.eq).trans rfl
theorem DriveOnly.drq {s t : State} (h : DriveOnly s t) : t.run.queues.drq = s.run.queues.drq :=
  (congrArg (fun u : State => u.run.queues.drq) h.eq).trans rfl
theorem DriveOnly.flags {s t : State} (h : DriveOnly s t) :
    t.run.flags = { s.run.flags with speedMismatch := t.run.flags.speedMismatch } :=
  (congrArg (fun u : State => u.run.flags) h.eq).trans rfl

/-! ## What changes no more than that -/

theorem flagChange_driveOnly {f : FlagId} (hf : f = .driverUnsynced ∨ f = .speedMismatch) (v : Bool) (s : State) :
    DriveOnly s (flagChange f v s) := by
  refine DriveOnly.trans (t := putFlag s f v) ?_ (flagChange_frame f v s).driveOnly
  rcases hf with rfl | rfl <;> rfl

theorem refreshUnsynced_driveOnly (s : State) : DriveOnly s (refreshUnsynced s) :=
  flagChange_driveOnly (.inl rfl) _ s

theorem writeInternal_driveOnly (k : Nat) (e : SigEntry) (s : State) : DriveOnly s (writeInternal k e s) :=
  .trans (t := putSignal s k e) rfl (conditionsOnSignal_frame k _).driveOnly

theorem writeSlotSignal_driveOnly (slot : Nat) (s : State) : DriveOnly s (writeSlotSignal slot s) := by
  unfold writeSlotSignal
  split
  · exact writeInternal_driveOnly _ _ s
  · exact .refl s

theorem writeSlotSignals_driveOnly (s : State) : DriveOnly s (writeSlotSignals s) :=
  (writeSlotSignal_driveOnly 1 s).trans (writeSlotSignal_driveOnly 2 _)

theorem stageChanges_driveOnly (before s : State) : DriveOnly s (stageChanges before s) :=
  ((stageChange_frame 1 _ s).driveOnly).trans (stageChange_frame 2 _ _).driveOnly

theorem bindingOutputs_driveOnly (slot : Nat) (before : Stage) (s : State) :
    DriveOnly s (bindingOutputs slot before s) := by
  unfold bindingOutputs
  refine .trans ?_ (noticeIfOn_frame _ _).driveOnly
  have hstage := (writeSlotSignal_driveOnly slot s).trans (stageChange_frame slot before _).driveOnly
  split
  · exact hstage.trans (refreshUnsynced_driveOnly _)
  · exact hstage

theorem putBindings_driveOnly (t : Dtu) (s : State) : DriveOnly s (putBindings t s) := by
  have hput : DriveOnly s { s with dtu := t } := rfl
  have hfirst : DriveOnly s (if t.slot1 = s.dtu.slot1 then { s with dtu := t }
      else bindingOutputs 1 (slotStage s 1) { s with dtu := t }) := by
    split
    · exact hput
    · exact hput.trans (bindingOutputs_driveOnly _ _ _)
  unfold putBindings
  dsimp only
  split
  · exact hfirst
  · exact hfirst.trans (bindingOutputs_driveOnly _ _ _)

theorem cardEvent_driveOnly (slot i : Nat) (s : State) : DriveOnly s (cardEvent slot i s) := by
  unfold cardEvent
  split
  · exact .refl s
  · split
    · unfold judgeCard
      split
      · exact .refl s
      · exact putBindings_driveOnly _ s
      · split
        · exact putBindings_driveOnly _ s
        · exact .refl s
    · exact .refl s

theorem mismatchCleared_driveOnly (s : State) :
    DriveOnly s (flagChange .speedMismatch false { s with run.mismatch := none }) :=
  .trans (t := { s with run.mismatch := none }) rfl (flagChange_driveOnly (.inr rfl) _ _)

theorem replaceParams_driveOnly (p : DriveParams) (w : WorkState) (s : State) :
    DriveOnly s (replaceParams p w s) := by
  have hparams : DriveOnly s { s with dtu.params := p, dtu.paramState := w } := rfl
  have hbound := hparams.trans (putBindings_driveOnly (unbindUnobserved { s.dtu with params := p, paramState := w }) _)
  have hcleared := hbound.trans (mismatchCleared_driveOnly _)
  have hlimits (t : State) : DriveOnly t { t with dtu.drivers := t.dtu.drivers.map (assess p) } := rfl
  exact ((((hcleared.trans (hlimits _)).trans (writeSlotSignals_driveOnly _)).trans (stageChanges_driveOnly s _)).trans
    (refreshUnsynced_driveOnly _)).trans (noticeIfOn_frame _ _).driveOnly

/-! ## An activation -/

/-- R163, steps 1 to 4: the tables in force, F8, and sampling begun; and evaluation begun (R75). -/
def activationBase (new : NewTables) (levels : BitVec 16) (s : State) : State :=
  let counted : State :=
    { s with run.mc.disabledCount := new.failures.length, run.mu.storeDiffers := false
             run.flags.configFault := decide (new.failures.length ≠ 0), run.tables := new.working }
  { startSampling levels counted with run.cu.evaluating := true }

theorem DriveOnly.sampled {s t : State} (h : DriveOnly s t) (working : Tables) (levels : BitVec 16) :
    DriveOnly (startSampling levels { s with run.tables := working })
      (startSampling levels { t with run.tables := working }) := by
  rw [h.eq]
  rfl

theorem DriveOnly.evaluating_on {s t : State} (h : DriveOnly s t) :
    DriveOnly { s with run.cu.evaluating := true } { t with run.cu.evaluating := true } := by
  rw [h.eq]
  rfl

theorem firstEvaluation_driveOnly (s : State) :
    DriveOnly { s with run.cu.evaluating := true } (firstEvaluation s) :=
  .trans (t := { s with run.cu.evaluating := true, run.cu.recs := List.replicate 64 CondRec.initial }) rfl
    (runTasks_frame _ _).driveOnly

/-- R163: an activation changes no more than the Drive-Time Unit's part and the warnings path beyond its own
steps 1 to 4. -/
theorem activate_driveOnly (new : NewTables) (levels : BitVec 16) (s : State) :
    DriveOnly (activationBase new levels s) (activate new levels s) := by
  have hflag : DriveOnly
      (putFlag { s with run.mc.disabledCount := new.failures.length, run.mu.storeDiffers := false } .configFault
        (decide (new.failures.length ≠ 0)))
      (flagChange .configFault (decide (new.failures.length ≠ 0))
        { s with run.mc.disabledCount := new.failures.length, run.mu.storeDiffers := false }) :=
    (flagChange_frame _ _ _).driveOnly
  have hfiltered := ((hflag.sampled new.working levels).trans
    (replaceParams_driveOnly new.params new.drive.workState _)).trans (filterAlerts_frame _).driveOnly
  exact hfiltered.evaluating_on.trans (firstEvaluation_driveOnly _)

/-! ## Modes of the larger changes -/

theorem enterShutdown_mode (s : State) : (enterShutdown s).mode = .shutdown := by
  rw [enterShutdown_eq, (placeNotice_frame _ _).mode, flagChange_mode, abandonCommand_mode]
  exact shutdownDark_mode s

theorem darkenLamps_phase (s : State) : (darkenLamps s).phase = s.phase := rfl

theorem returnGauges_phase (s : State) : (returnGauges s).phase = s.phase := rfl

theorem enterShutdown_phase (s : State) : (enterShutdown s).phase = .none := by
  have habandon (t : State) : (abandonCommand t).phase = t.phase := by
    unfold abandonCommand
    split <;> rfl
  have hdark : (shutdownDark s).phase = .none := by
    rw [shutdownDark, darkenLamps_phase, returnGauges_phase, (emptyQueues_quiet _).phase]
    rfl
  rw [enterShutdown_eq, (placeNotice_frame _ _).phase, (flagChange_frame _ _ _).phase, putFlag_phase, habandon]
  exact hdark

/-- R170 up to the lamps' outputs. -/
def warmStopped (s : State) : State := stopSampling (abandonConditions (dropRoutes (beginStartup s)))

theorem beginStartup_mode (s : State) : (beginStartup s).mode = .startup := rfl

theorem dropRoutes_mode (s : State) : (dropRoutes s).mode = s.mode := by simp [dropRoutes]

theorem abandonConditions_mode (s : State) : (abandonConditions s).mode = s.mode :=
  (abandonConditions_frame s).mode

theorem stopSampling_mode (s : State) : (stopSampling s).mode = s.mode := rfl

theorem warmStopped_mode (s : State) : (warmStopped s).mode = .startup := by
  rw [warmStopped, stopSampling_mode, abandonConditions_mode, dropRoutes_mode, beginStartup_mode]

/-- R170: what STARTUP from SHUTDOWN sets, but for the warnings path. -/
def warmBase (s : State) : State :=
  { s with
    mode := .startup, phase := .validating, shutdownTimer := none
    run := { s.run with
      mc.validation := some Config.validationMicros
      tables := { s.run.tables with routes := Tables.initial.routes, conds := Tables.initial.conds }
      flags := { s.run.flags with displayLost := false, gatewayLost := false, tachoLost := false }
      iu := { s.run.iu with sampling := false, inputs := Iu.initial.inputs }
      cu.evaluating := false } }

theorem WarningsOnly.stopSampling {s t : State} (h : WarningsOnly s t) :
    WarningsOnly (stopSampling s) (stopSampling t) := by
  refine ⟨?_, h.2⟩
  rw [h.1]
  rfl

theorem warmStopped_frame (s : State) : WarningsOnly (warmBase s) (warmStopped s) :=
  (abandonConditions_frame (dropRoutes (beginStartup s))).stopSampling

theorem warmStart_eq (s : State) : warmStart s = noticeIfOn .status (driveLamps (warmStopped s)) := rfl

theorem warmStart_mode (s : State) : (warmStart s).mode = .startup := by
  rw [warmStart_eq, (noticeIfOn_frame _ _).mode, (driveLamps_frame _).mode, warmStopped_mode]

/-- R170: beyond what it sets, STARTUP from SHUTDOWN writes the warnings path alone. -/
theorem warmStart_frame (s : State) : WarningsOnly (warmBase s) (warmStart s) :=
  ((warmStopped_frame s).trans (driveLamps_frame _)).trans (noticeIfOn_frame _ _)

theorem coldStart_mode (s : State) : (coldStart s).mode = .startup :=
  (noticeIfOn_frame _ _).mode.trans (writeSlotSignals_driveOnly _).mode

theorem restartReset_mode (s : State) : (restartReset s).mode = s.mode := rfl
theorem restartReset_phase (s : State) : (restartReset s).phase = s.phase := rfl
theorem restartPlaced_phase (s : State) : (restartPlaced s).phase = s.phase := rfl

theorem restartShown_driveOnly (s : State) : DriveOnly s (restartShown s) :=
  ((writeSlotSignals_driveOnly s).trans (driveLamps_frame _).driveOnly).trans (placeNotice_frame _ _).driveOnly

theorem restartRuns_frame (s : State) : WarningsOnly { s with mode := .run } (restartRuns s) := noticeIfOn_frame _ _

theorem restartRuns_phase (s : State) : (restartRuns s).phase = s.phase := (restartRuns_frame s).phase

theorem activate_phase (new : NewTables) (levels : BitVec 16) (s : State) :
    (activate new levels s).phase = s.phase := (activate_driveOnly new levels s).phase

theorem restarted_phase (levels : BitVec 16) (s : State) : (restarted levels s).phase = s.phase := by
  rw [restarted, restartRuns_phase, (restartShown_driveOnly _).phase, restartPlaced_phase, activate_phase,
    restartReset_phase]

theorem restarted_mode (levels : BitVec 16) (s : State) : (restarted levels s).mode = .run :=
  (restartRuns_frame _).mode

theorem serviceValidating_mode {s : State} (h : serviceValidating s = true) : s.mode = .service := by
  simp only [serviceValidating, Bool.and_eq_true, decide_eq_true_eq] at h
  exact h.1.1

theorem startupValidating_mode {s : State} (h : startupValidating s = true) : s.mode = .startup := by
  simp only [startupValidating, Bool.and_eq_true, decide_eq_true_eq] at h
  exact h.1.1

theorem activate_mode (new : NewTables) (levels : BitVec 16) (s : State) : (activate new levels s).mode = s.mode :=
  (activate_driveOnly new levels s).mode

theorem completeStartup_ignition {s : State} (levels : BitVec 16) (hval : startupValidating s = true) :
    SameIgnition s (completeStartup levels s) :=
  ignition_kept.completeStartup_of hval fun t _ _ => .of_mode (activate_mode (validate t.store) levels t)

end Sys2Proof.Machine
end

section
/-! PROOFS. The power law: the run domain is unpowered in STANDBY, and a start-up phase belongs to STARTUP
(R157, R170), kept by every step. -/

namespace Sys2Proof.Machine

/-! ## The phase -/

/-- A start-up phase belongs to STARTUP. -/
def PhaseLaw (s : State) : Prop := s.mode ≠ .startup → s.phase = .none

theorem PhaseLaw.of_eq {s t : State} (hmode : t.mode = s.mode) (hphase : t.phase = s.phase) :
    Preserves PhaseLaw s t := by
  unfold Preserves PhaseLaw
  rw [hmode, hphase]
  exact id

theorem DriveOnly.phaseLaw {s t : State} (h : DriveOnly s t) : Preserves PhaseLaw s t := .of_eq h.mode h.phase

theorem PhaseLaw.put (f : FlagId) (s : State) (v : Bool) : Preserves PhaseLaw s (putFlag s f v) :=
  .of_eq (putFlag_mode s f v) (putFlag_phase s f v)

theorem PhaseLaw.entered {s : State} {m : Mode} (hm : s.mode ≠ .startup) :
    Preserves PhaseLaw s { s with mode := m } := fun hs _ => hs hm

theorem phase_core : Core (Preserves PhaseLaw) :=
  .of_quiet (fun h => .of_eq h.mode h.phase) (fun h h' hs => h' (h hs)) (fun _ => .of_eq rfl rfl)
    (fun _ => .of_eq rfl rfl) (fun _ => .of_eq rfl rfl) (fun _ _ _ _ _ _ => .of_eq rfl rfl)
    (fun _ _ => .of_eq rfl rfl) (fun _ _ => .of_eq rfl rfl) (fun _ _ => .of_eq rfl rfl) (fun _ _ _ => rfl)
    fun _ _ => .of_eq rfl rfl

theorem phase_forcedExit (s : State) : Preserves PhaseLaw s (forcedExit s) :=
  phase_core.forcedExit_of (fun _ hs => .entered (by simp [hs])) (PhaseLaw.put _) s

theorem phase_kept : Kept (Preserves PhaseLaw) where
  toCore := phase_core
  forcedExit := phase_forcedExit
  signalEvent _ ht _ hs := phase_core.roadSpeedEvent_of phase_forcedExit _ _ (ht hs)
  inputSample := phase_core.inputSample_of (fun _ _ _ => .of_eq rfl rfl) phase_forcedExit
  enterService hrun _ := phase_core.enterService_of (fun _ hs => .entered (by simp [hs])) (PhaseLaw.put _) hrun
  supervised _ _ ht hs :=
    phase_core.superviseRoutes_of (PhaseLaw.put _) (PhaseLaw.put _) (PhaseLaw.put _) _ (ht hs)
  setUnder := phase_core.setUnder_of (PhaseLaw.put _)
  clearUnder := phase_core.clearUnder_of (PhaseLaw.put _)
  setOver := phase_core.setOver_of (PhaseLaw.put _)
  clearOver := phase_core.clearOver_of (PhaseLaw.put _)
  restart levels hval := phase_core.restart_of_restarted hval fun hs _ =>
    (restarted_phase levels _).trans (hs (by simp [serviceValidating_mode hval]))

theorem phase_outer : Outer (Preserves PhaseLaw) where
  refl _ := id
  trans h h' hs := h' (h hs)
  path _ hpath := hpath _ phase_kept
  standby _ _ _ := rfl
  clocks _ _ _ _ := id
  asleepMinute _ := phase_core.minuteEvent _
  shutdown _ _ _ := enterShutdown_phase _
  warm _ _ hne := absurd (warmStart_mode _) hne
  cold _ _ hne := absurd (coldStart_mode _) hne
  reset _ _ _ _ := rfl
  completes levels hval := phase_kept.completeStartup_of hval fun s hm _ _ hne =>
    absurd ((activate_mode (validate s.store) levels s).trans hm) hne

/-! ## The run domain -/

theorem PowerLaw.of_powered {s : State} (hmode : s.mode ≠ .standby) (hphase : PhaseLaw s) : PowerLaw s :=
  ⟨fun hs => absurd hs hmode, hphase⟩

theorem Path.powerLaw {s t : State} (h : Path s t) (hs : Awake s) : Preserves PowerLaw s t := by
  rintro ⟨hrun, hphase⟩
  refine .of_powered (fun ht => ?_) (h _ phase_kept hphase)
  have hmode := h.standby_iff.1 ht
  exact hs.elim (fun hne => hne hmode) fun hne => hne (hrun hmode)

theorem power_outer : Outer (Preserves PowerLaw) where
  refl _ := id
  trans h h' hs := h' (h hs)
  path hs hpath := hpath.powerLaw hs
  standby _ _ := ⟨fun _ => rfl, fun _ => rfl⟩
  clocks _ _ _ _ := id
  asleepMinute hmode hs := by
    rw [minuteEvent_standby hmode (hs.1 hmode)]
    exact hs
  shutdown hon hs := .of_powered (by simp [enterShutdown_mode]) (phase_outer.shutdown hon hs.2)
  warm hmode hs := .of_powered (by simp [warmStart_mode]) (phase_outer.warm hmode hs.2)
  cold hmode hs := .of_powered (by simp [coldStart_mode]) (phase_outer.cold hmode hs.2)
  reset _ _ _ := ⟨fun _ => rfl, fun _ => rfl⟩
  completes levels hval hs := by
    refine .of_powered (fun ht => ?_) (phase_outer.completes levels hval hs.2)
    have hsame := completeStartup_ignition levels hval
    rw [SameIgnition, ht, startupValidating_mode hval] at hsame
    cases hsame

end Sys2Proof.Machine
end

section
/-! PROOFS. The law of the Driver Accounting Table (R108, R110 to R114, R120): what each operation on the slots
and the records makes of it. -/

namespace Sys2Proof.Machine

/-! ## The law in parts -/

/-- R108: the records and the slots. -/
structure SlotsLaw (t : Dtu) : Prop where
  room : t.drivers.length ≤ 4
  nodup : (t.drivers.map Driver.digest).Nodup
  slot1 : ∀ d, t.slot1 = some d → d ∈ t.drivers.map Driver.digest
  slot2 : ∀ d, t.slot2 = some d → d ∈ t.drivers.map Driver.digest
  apart : ∀ d, t.slot1 = some d → t.slot2 ≠ some d

/-- The counters of a record lie in their ranges. -/
def Counted (r : Driver) : Prop := r.cont ≤ r.daily ∧ r.daily ≤ 1440

theorem driverLaw_iff (t : Dtu) :
    DriverLaw t ↔
      driveOk t.params = true ∧ SlotsLaw t ∧ ∀ r ∈ t.drivers, Counted r ∧ AssessedLaw t.params r := by
  constructor
  · rintro ⟨hok, hroom, hnodup, h1, h2, hapart, hrecords⟩
    exact ⟨hok, ⟨hroom, hnodup, h1, h2, hapart⟩, fun r hr =>
      have ⟨hcont, hdaily, hassessed⟩ := hrecords r hr
      ⟨⟨hcont, hdaily⟩, hassessed⟩⟩
  · rintro ⟨hok, ⟨hroom, hnodup, h1, h2, hapart⟩, hrecords⟩
    exact ⟨hok, hroom, hnodup, h1, h2, hapart, fun r hr =>
      have ⟨⟨hcont, hdaily⟩, hassessed⟩ := hrecords r hr
      ⟨hcont, hdaily, hassessed⟩⟩

/-! ## What the operations write -/

@[simp] theorem logDriver_drivers (k : LogKind) (slot : Option Nat) (d : Driver) (t : Dtu) :
    (logDriver k slot d t).drivers = t.drivers := by
  unfold logDriver appendLog
  rfl
@[simp] theorem logDriver_slot1 (k : LogKind) (slot : Option Nat) (d : Driver) (t : Dtu) :
    (logDriver k slot d t).slot1 = t.slot1 := by
  unfold logDriver appendLog
  rfl
@[simp] theorem logDriver_slot2 (k : LogKind) (slot : Option Nat) (d : Driver) (t : Dtu) :
    (logDriver k slot d t).slot2 = t.slot2 := by
  unfold logDriver appendLog
  rfl
@[simp] theorem setSlot_drivers (slot : Nat) (d : Option Nat) (t : Dtu) : (setSlot slot d t).drivers = t.drivers := by
  unfold setSlot
  split <;> rfl

/-- The same working record, records and slots. -/
def SameTable (u t : Dtu) : Prop :=
  t.params = u.params ∧ t.drivers = u.drivers ∧ t.slot1 = u.slot1 ∧ t.slot2 = u.slot2

theorem SlotsLaw.of_same {u t : Dtu} (h : SameTable u t) (hu : SlotsLaw u) : SlotsLaw t := by
  obtain ⟨-, hdrivers, hslot1, hslot2⟩ := h
  obtain ⟨h1, h2, h3, h4, h5⟩ := hu
  exact ⟨by rwa [hdrivers], by rwa [hdrivers], by rwa [hdrivers, hslot1], by rwa [hdrivers, hslot2],
    by rwa [hslot1, hslot2]⟩

theorem logDriver_sameTable (k : LogKind) (slot : Option Nat) (d : Driver) (t : Dtu) :
    SameTable t (logDriver k slot d t) := ⟨by simp, by simp, by simp, by simp⟩

theorem unbind_sameTable (slot : Nat) (t : Dtu) : SameTable (setSlot slot none t) (unbind slot t) := by
  unfold unbind
  split
  · next hnone =>
    unfold boundTo at hnone
    unfold setSlot
    split
    · next h1 =>
      rw [if_pos h1] at hnone
      exact ⟨rfl, rfl, hnone, rfl⟩
    · next h1 =>
      rw [if_neg h1] at hnone
      exact ⟨rfl, rfl, rfl, hnone⟩
  · dsimp only
    split
    · exact logDriver_sameTable _ _ _ _
    · exact ⟨rfl, rfl, rfl, rfl⟩

theorem bind_sameTable (slot digest : Nat) (t : Dtu) :
    SameTable (updRecord digest (fun d => { d with lastPresent := t.minutes }) (setSlot slot (some digest) t))
      (bind slot digest t) := by
  unfold bind
  dsimp only
  split
  · exact logDriver_sameTable _ _ _ _
  · exact ⟨rfl, rfl, rfl, rfl⟩

theorem updRecord_digests {f : Driver → Driver} (hf : ∀ d, (f d).digest = d.digest) (digest : Nat) (t : Dtu) :
    (updRecord digest f t).drivers.map Driver.digest = t.drivers.map Driver.digest := by
  rw [updRecord, List.map_map]
  refine List.map_congr_left fun d _ => ?_
  dsimp only [Function.comp]
  split
  · exact hf d
  · rfl

theorem SlotsLaw.of_digests {u t : Dtu} (h : SlotsLaw u)
    (hl : t.drivers.map Driver.digest = u.drivers.map Driver.digest) (hslot1 : t.slot1 = u.slot1)
    (hslot2 : t.slot2 = u.slot2) : SlotsLaw t := by
  obtain ⟨h1, h2, h3, h4, h5⟩ := h
  refine ⟨?_, by rwa [hl], by rwa [hl, hslot1], by rwa [hl, hslot2], by rwa [hslot1, hslot2]⟩
  have hlen := congrArg List.length hl
  rw [List.length_map, List.length_map] at hlen
  exact hlen.trans_le h1

theorem SlotsLaw.emptied (slot : Nat) {t : Dtu} (h : SlotsLaw t) : SlotsLaw (setSlot slot none t) := by
  obtain ⟨h1, h2, h3, h4, h5⟩ := h
  unfold setSlot
  split
  · exact ⟨h1, h2, fun d hd => (by cases hd), h4, fun d hd => (by cases hd)⟩
  · exact ⟨h1, h2, h3, fun d hd => (by cases hd), fun d _ hd => (by cases hd)⟩

theorem SlotsLaw.unbind (slot : Nat) {t : Dtu} (h : SlotsLaw t) : SlotsLaw (unbind slot t) :=
  (h.emptied slot).of_same (unbind_sameTable slot t)

/-- A slot takes the digest of a record that is not bound to the other slot. -/
theorem SlotsLaw.taken {slot digest : Nat} {t : Dtu} (h : SlotsLaw t)
    (hmem : digest ∈ t.drivers.map Driver.digest) (hother : boundTo t (otherSlot slot) ≠ some digest) :
    SlotsLaw (setSlot slot (some digest) t) := by
  obtain ⟨h1, h2, h3, h4, h5⟩ := h
  unfold setSlot
  by_cases hslot : slot = 1
  · simp only [otherSlot, hslot, boundTo, if_true] at hother
    rw [if_pos hslot]
    refine ⟨h1, h2, ?_, h4, ?_⟩
    · rintro d ⟨⟩
      exact hmem
    · rintro d ⟨⟩
      exact hother
  · simp only [otherSlot, hslot, boundTo, if_false, if_true] at hother
    rw [if_neg hslot]
    refine ⟨h1, h2, h3, ?_, ?_⟩
    · rintro d ⟨⟩
      exact hmem
    · rintro d hd ⟨⟩
      exact hother hd

theorem SlotsLaw.bind {slot digest : Nat} {t : Dtu} (h : SlotsLaw t)
    (hmem : digest ∈ t.drivers.map Driver.digest) (hother : boundTo t (otherSlot slot) ≠ some digest) :
    SlotsLaw (bind slot digest t) := by
  refine SlotsLaw.of_same (bind_sameTable slot digest t) ?_
  exact (h.taken hmem hother).of_digests (updRecord_digests (by exact fun _ => rfl) _ _) rfl rfl

/-! ## Room for a new record (R112) -/

theorem evictedBefore_iff (t : Dtu) (d e : Driver) :
    evictedBefore t d e = true ↔ ageOf t e < ageOf t d ∨ (ageOf t d = ageOf t e ∧ d.digest < e.digest) := by
  simp [evictedBefore]

theorem oldestUnbound_eq (t : Dtu) :
    oldestUnbound t =
      (t.drivers.filter (isUnbound t)).foldl (List.argAux fun d e => evictedBefore t d e = true) none := by
  unfold oldestUnbound
  congr 1
  funext best d
  cases best <;> rfl

/-- Whichever record a fold by `argAux` finds stands in the list or was there before. -/
theorem mem_of_foldl_argAux {α : Type} (r : α → α → Prop) [DecidableRel r] {l : List α} {o : Option α} {m : α}
    (h : l.foldl (List.argAux r) o = some m) : m ∈ l ∨ o = some m := by
  induction l generalizing o with
  | nil => exact .inr h
  | cons a l ih =>
    rcases ih h with hm | hm
    · exact .inl (List.mem_cons_of_mem a hm)
    · cases o with
      | none =>
        cases hm
        exact .inl List.mem_cons_self
      | some c =>
        simp only [List.argAux] at hm
        split at hm
        · cases hm
          exact .inl List.mem_cons_self
        · exact .inr hm

theorem evictedBefore_irrefl (t : Dtu) : Std.Irrefl fun d e => evictedBefore t d e = true :=
  ⟨fun d hd => by rw [evictedBefore_iff] at hd; omega⟩

theorem evictedBefore_trans (t : Dtu) : IsTrans Driver fun d e => evictedBefore t d e = true :=
  ⟨fun a b c hab hbc => by rw [evictedBefore_iff] at hab hbc ⊢; omega⟩

/-- R112: the record that is evicted is unbound, and no unbound record was present less lately. -/
theorem oldestUnbound_spec {t : Dtu} {old : Driver} (h : oldestUnbound t = some old) :
    (old ∈ t.drivers ∧ isUnbound t old = true) ∧
      ∀ x ∈ t.drivers, isUnbound t x = true →
        ageOf t x < ageOf t old ∨ (ageOf t x = ageOf t old ∧ old.digest ≤ x.digest) := by
  rw [oldestUnbound_eq] at h
  refine ⟨?_, fun x hx hfree => ?_⟩
  · have hmem := (mem_of_foldl_argAux _ h).resolve_right (by simp)
    exact List.mem_filter.1 hmem
  · have hnot := List.not_of_mem_foldl_argAux _ (evictedBefore_irrefl t) (evictedBefore_trans t)
      (List.mem_filter.2 ⟨hx, hfree⟩) h
    rw [evictedBefore_iff] at hnot
    omega

/-- Of four records with distinct digests two at most are bound. -/
theorem oldestUnbound_isSome {t : Dtu} (h : SlotsLaw t) (hfull : 4 ≤ t.drivers.length) :
    ∃ old, oldestUnbound t = some old := by
  rw [← Option.ne_none_iff_exists', oldestUnbound_eq]
  intro hnone
  have hempty := (List.foldl_argAux_eq_none _).1 hnone
  have hbound (d : Nat) (hd : d ∈ t.drivers.map Driver.digest) : d ∈ t.slot1.toList ++ t.slot2.toList := by
    obtain ⟨x, hx, rfl⟩ := List.mem_map.1 hd
    have hfalse := Bool.eq_false_iff.2 (List.filter_eq_nil_iff.1 hempty.1 x hx)
    rw [List.mem_append, Option.mem_toList, Option.mem_toList]
    exact (isUnbound_eq_false_iff t x).1 hfalse
  have hlength := (List.subperm_of_subset h.nodup hbound).length_le
  have hslots (o : Option Nat) : o.toList.length ≤ 1 := by cases o <;> simp
  have h1 := hslots t.slot1
  have h2 := hslots t.slot2
  rw [List.length_map, List.length_append] at hlength
  omega

/-- The table without an evicted record. -/
def Dtu.without (t : Dtu) (old : Driver) : Dtu :=
  { t with drivers := t.drivers.filter fun e => decide (e.digest ≠ old.digest) }

theorem SlotsLaw.without {t : Dtu} {old : Driver} (h : SlotsLaw t) (hold : old ∈ t.drivers)
    (hfree : isUnbound t old = true) : SlotsLaw (t.without old) ∧ (t.without old).drivers.length ≤ 3 := by
  obtain ⟨h1, h2, h3, h4, h5⟩ := h
  have hkept {d : Nat} (hd : d ∈ t.drivers.map Driver.digest) (hne : d ≠ old.digest) :
      d ∈ (t.without old).drivers.map Driver.digest := by
    obtain ⟨x, hx, rfl⟩ := List.mem_map.1 hd
    exact List.mem_map.2 ⟨x, List.mem_filter.2 ⟨hx, by simpa using hne⟩, rfl⟩
  simp only [isUnbound, Bool.and_eq_true, decide_eq_true_eq] at hfree
  have hlen : (t.without old).drivers.length < t.drivers.length :=
    List.length_filter_lt_length_iff_exists.2 ⟨old, hold, by simp⟩
  refine ⟨⟨by omega, h2.sublist (List.filter_sublist.map _), ?_, ?_, h5⟩, by omega⟩
  · rintro d hd
    exact hkept (h3 d hd) fun heq => hfree.1 (heq ▸ hd)
  · rintro d hd
    exact hkept (h4 d hd) fun heq => hfree.2 (heq ▸ hd)

theorem makeRoom_cases {t : Dtu} (h : SlotsLaw t) :
    (t.drivers.length < 4 ∧ makeRoom t = t) ∨
      (4 ≤ t.drivers.length ∧ ∃ old, oldestUnbound t = some old ∧
        makeRoom t = logDriver .recordEvicted none old (t.without old)) := by
  have hcapacity : Config.driverCapacity = 4 := rfl
  unfold makeRoom
  rw [hcapacity]
  split
  · next hroom => exact .inl ⟨hroom, rfl⟩
  · next hfull =>
    obtain ⟨old, hold⟩ := oldestUnbound_isSome h (by omega)
    refine .inr ⟨by omega, old, hold, ?_⟩
    rw [hold]
    rfl

theorem SlotsLaw.makeRoom {t : Dtu} (h : SlotsLaw t) :
    SlotsLaw (makeRoom t) ∧ (makeRoom t).drivers.length ≤ 3 ∧
      ∀ d ∈ (makeRoom t).drivers, d ∈ t.drivers := by
  rcases makeRoom_cases h with ⟨hroom, heq⟩ | ⟨-, old, hold, heq⟩
  · rw [heq]
    exact ⟨h, by omega, fun _ => id⟩
  · obtain ⟨⟨hmem, hfree⟩, -⟩ := oldestUnbound_spec hold
    obtain ⟨hlaw, hlen⟩ := h.without hmem hfree
    rw [heq]
    refine ⟨hlaw.of_same (logDriver_sameTable _ _ _ _), by simpa using hlen, fun d hd => ?_⟩
    rw [logDriver_drivers] at hd
    exact List.mem_of_mem_filter hd

theorem SlotsLaw.created {t : Dtu} {r : Driver} (h : SlotsLaw t) (hlen : t.drivers.length ≤ 3)
    (hnew : r.digest ∉ t.drivers.map Driver.digest) : SlotsLaw { t with drivers := t.drivers ++ [r] } := by
  obtain ⟨h1, h2, h3, h4, h5⟩ := h
  have hmem {d : Nat} (hd : d ∈ t.drivers.map Driver.digest) : d ∈ (t.drivers ++ [r]).map Driver.digest := by
    rw [List.map_append]
    exact List.mem_append_left _ hd
  refine ⟨by rw [List.length_append, List.length_singleton]; omega, ?_, fun d hd => hmem (h3 d hd), fun d hd => hmem (h4 d hd), h5⟩
  rw [List.map_append, List.nodup_append]
  refine ⟨h2, List.nodup_singleton _, fun a ha b hb => ?_⟩
  rintro rfl
  simp only [List.map_cons, List.map_nil, List.mem_singleton] at hb
  exact hnew (hb ▸ ha)

/-! ## Bindings -/

theorem boundTo_setSlot_same (slot : Nat) (d : Option Nat) (t : Dtu) : boundTo (setSlot slot d t) slot = d := by
  unfold boundTo setSlot
  by_cases hslot : slot = 1 <;> simp [hslot]

theorem boundTo_setSlot_other (slot : Nat) (d : Option Nat) (t : Dtu) :
    boundTo (setSlot slot d t) (otherSlot slot) = boundTo t (otherSlot slot) := by
  unfold boundTo setSlot otherSlot
  by_cases hslot : slot = 1 <;> simp [hslot]

theorem SameTable.boundTo {u t : Dtu} (h : SameTable u t) (slot : Nat) : boundTo t slot = boundTo u slot := by
  obtain ⟨-, -, h1, h2⟩ := h
  rw [Machine.boundTo, h1, h2, ← Machine.boundTo]

theorem boundTo_unbind_same (slot : Nat) (t : Dtu) : boundTo (unbind slot t) slot = none :=
  ((unbind_sameTable slot t).boundTo slot).trans (boundTo_setSlot_same slot none t)

theorem boundTo_unbind_other (slot : Nat) (t : Dtu) :
    boundTo (unbind slot t) (otherSlot slot) = boundTo t (otherSlot slot) :=
  ((unbind_sameTable slot t).boundTo _).trans (boundTo_setSlot_other slot none t)

@[simp] theorem unbind_drivers (slot : Nat) (t : Dtu) : (unbind slot t).drivers = t.drivers :=
  (unbind_sameTable slot t).2.1.trans (setSlot_drivers _ _ _)

theorem recordOf_eq_none_iff (t : Dtu) (digest : Nat) :
    recordOf t digest = none ↔ digest ∉ t.drivers.map Driver.digest := by
  simp [recordOf, List.find?_eq_none]

theorem recordOf_isSome {t : Dtu} {digest : Nat} {r : Driver} (h : recordOf t digest = some r) :
    digest ∈ t.drivers.map Driver.digest := by
  by_contra hnot
  rw [(recordOf_eq_none_iff t digest).2 hnot] at h
  cases h

theorem SlotsLaw.boundTo_mem {t : Dtu} (h : SlotsLaw t) {slot d : Nat} (hd : Machine.boundTo t slot = some d) :
    d ∈ t.drivers.map Driver.digest := by
  unfold Machine.boundTo at hd
  split at hd
  · exact h.slot1 d hd
  · exact h.slot2 d hd

theorem freshRecord_digest (t : Dtu) (digest : Nat) : (freshRecord t digest).digest = digest := rfl

theorem SlotsLaw.createRecord {t : Dtu} {digest : Nat} (h : SlotsLaw t)
    (hnew : digest ∉ t.drivers.map Driver.digest) : SlotsLaw (createRecord digest t) := by
  obtain ⟨hlaw, hlen, hsub⟩ := h.makeRoom
  refine hlaw.created hlen fun hmem => hnew ?_
  obtain ⟨x, hx, hdigest⟩ := List.mem_map.1 hmem
  exact List.mem_map.2 ⟨x, hsub x hx, hdigest⟩

theorem makeRoom_slots {t : Dtu} (h : SlotsLaw t) (slot : Nat) : boundTo (makeRoom t) slot = boundTo t slot := by
  rcases makeRoom_cases h with ⟨-, heq⟩ | ⟨-, old, -, heq⟩
  · rw [heq]
  · rw [heq, (logDriver_sameTable _ _ _ _).boundTo]
    rfl

theorem SlotsLaw.cardPresent {t : Dtu} (h : SlotsLaw t) (slot digest : Nat) : SlotsLaw (cardPresent slot digest t) := by
  have hfreed := h.unbind slot
  unfold Machine.cardPresent bindPresent
  split
  · exact h
  · split
    · next r hr =>
      have hmem := recordOf_isSome hr
      split
      · refine (hfreed.unbind (otherSlot slot)).bind (by rwa [unbind_drivers]) ?_
        rw [boundTo_unbind_same]
        simp
      · next hother => exact hfreed.bind hmem hother
    · next hnone =>
      have hnew := (recordOf_eq_none_iff _ digest).1 hnone
      refine (hfreed.createRecord hnew).bind ?_ fun hother => ?_
      · exact List.mem_map.2 ⟨freshRecord _ digest, List.mem_append_right _ (List.mem_singleton_self _),
          freshRecord_digest _ digest⟩
      · refine hnew (hfreed.boundTo_mem (slot := otherSlot slot) ?_)
        rw [← makeRoom_slots hfreed]
        exact hother

/-! ## The records -/

/-- Every record of a table keeps a property. -/
def AllRecords (Q : Driver → Prop) (t : Dtu) : Prop := ∀ r ∈ t.drivers, Q r

theorem AllRecords.of_drivers {Q : Driver → Prop} {u t : Dtu} (h : t.drivers = u.drivers) (hu : AllRecords Q u) :
    AllRecords Q t := by
  unfold AllRecords at hu ⊢
  rwa [h]

theorem AllRecords.mapped {Q : Driver → Prop} {u t : Dtu} {f : Driver → Driver} (h : t.drivers = u.drivers.map f)
    (hu : AllRecords Q u) (hf : ∀ r, Q r → Q (f r)) : AllRecords Q t := by
  intro r hr
  rw [h] at hr
  obtain ⟨x, hx, rfl⟩ := List.mem_map.1 hr
  exact hf x (hu x hx)

theorem AllRecords.upd {Q : Driver → Prop} {t : Dtu} {f : Driver → Driver} (digest : Nat) (h : AllRecords Q t)
    (hf : ∀ r, Q r → Q (f r)) : AllRecords Q (updRecord digest f t) :=
  h.mapped rfl fun r hr => by
    split
    · exact hf r hr
    · exact hr

section Rebound

variable {Q : Driver → Prop} (hpresent : ∀ r minutes, Q r → Q { r with lastPresent := minutes })
include hpresent

theorem AllRecords.bind {t : Dtu} (slot digest : Nat) (h : AllRecords Q t) : AllRecords Q (bind slot digest t) := by
  refine AllRecords.of_drivers (bind_sameTable slot digest t).2.1 (AllRecords.upd digest ?_ fun r => hpresent r _)
  exact h.of_drivers (setSlot_drivers _ _ _)

omit hpresent in
theorem makeRoom_sub (t : Dtu) : ∀ r ∈ (Machine.makeRoom t).drivers, r ∈ t.drivers := by
  unfold Machine.makeRoom
  split
  · exact fun _ => id
  · split
    · exact fun _ => id
    · intro r hr
      rw [logDriver_drivers] at hr
      exact List.mem_of_mem_filter hr

omit hpresent in
theorem makeRoom_params (t : Dtu) : (Machine.makeRoom t).params = t.params := by
  unfold Machine.makeRoom
  split
  · rfl
  · split
    · rfl
    · exact logDriver_params _ _ _ _

theorem AllRecords.cardPresent {t : Dtu} (hfresh : ∀ u digest, u.params = t.params → Q (freshRecord u digest))
    (slot digest : Nat) (h : AllRecords Q t) : AllRecords Q (cardPresent slot digest t) := by
  have hfreed : AllRecords Q (Machine.unbind slot t) := h.of_drivers (unbind_drivers slot t)
  unfold Machine.cardPresent bindPresent
  split
  · exact h
  · split
    · split
      · exact AllRecords.bind hpresent _ _ (hfreed.of_drivers (unbind_drivers _ _))
      · exact AllRecords.bind hpresent _ _ hfreed
    · refine AllRecords.bind hpresent _ _ fun r hr => ?_
      rcases List.mem_append.1 hr with hr | hr
      · exact hfreed r (makeRoom_sub _ r hr)
      · rw [List.mem_singleton.1 hr]
        exact hfresh _ _ ((makeRoom_params _).trans (unbind_params slot t))

theorem AllRecords.rebound {u t : Dtu} (hfresh : ∀ v digest, v.params = u.params → Q (freshRecord v digest))
    (h : AllRecords Q u) (ht : Rebound u t) : AllRecords Q t := by
  obtain ⟨slot, -, rfl | ⟨digest, rfl⟩⟩ := ht
  · exact h.of_drivers (unbind_drivers slot u)
  · exact AllRecords.cardPresent hpresent hfresh slot digest h

end Rebound

theorem rebound_params {u t : Dtu} (h : Rebound u t) : t.params = u.params := by
  obtain ⟨slot, -, rfl | ⟨digest, rfl⟩⟩ := h
  · exact unbind_params slot u
  · exact cardPresent_params slot digest u

theorem freshRecord_law {p : DriveParams} (hok : driveOk p = true) (t : Dtu) (digest : Nat) (ht : t.params = p) :
    Counted (freshRecord t digest) ∧ AssessedLaw p (freshRecord t digest) := by
  subst ht
  exact ⟨⟨Nat.le_refl 0, Nat.zero_le 1440⟩, assess_law hok _⟩

/-! ## The whole law -/

theorem DriverLaw.rebound {u t : Dtu} (h : DriverLaw u) (ht : Rebound u t) : DriverLaw t := by
  rw [driverLaw_iff] at h ⊢
  obtain ⟨hok, hslots, hrecords⟩ := h
  have hrecords' := AllRecords.rebound (fun _ _ => id) (fun v digest => freshRecord_law hok v digest) hrecords ht
  rw [rebound_params ht]
  refine ⟨hok, ?_, hrecords'⟩
  obtain ⟨slot, -, rfl | ⟨digest, rfl⟩⟩ := ht
  · exact hslots.unbind slot
  · exact hslots.cardPresent slot digest

theorem credit_counted {d : Driver} (h : Counted d) (p : DriveParams) (a : Activity) (inferred : Bool) :
    Counted (credit p a inferred d) := by
  obtain ⟨hrest, hother⟩ := credit_credited p a inferred d
  obtain ⟨hcont, hdaily⟩ := h
  unfold Counted
  by_cases ha : a = .rest
  · obtain ⟨-, -, hc, -, hd, -⟩ := hrest ha
    rw [hc, hd]
    split_ifs <;> omega
  · obtain ⟨-, -, -, hc, hd, -⟩ := hother ha
    rw [hc, hd]
    dsimp only
    split_ifs <;> omega

theorem minuteRecord_counted {s : State} {d : Driver} (h : Counted d) (minutes : Nat) :
    Counted (minuteRecord s minutes d) := by
  rw [minuteRecord_eq]
  exact credit_counted h s.dtu.params _ (chosenActivity s d).2

theorem logActivity_sameTable (old : Dtu) (slot : Nat) (t : Dtu) : SameTable t (logActivity old slot t) := by
  have hsame : SameTable t t := ⟨rfl, rfl, rfl, rfl⟩
  unfold logActivity
  split
  · exact hsame
  · split
    · split
      · exact hsame
      · exact logDriver_sameTable _ _ _ _
    · exact hsame

theorem SameTable.driverLaw {u t : Dtu} (h : SameTable u t) (hu : DriverLaw u) : DriverLaw t := by
  rw [driverLaw_iff] at hu ⊢
  obtain ⟨hok, hslots, hrecords⟩ := hu
  refine ⟨by rwa [h.1], hslots.of_same h, ?_⟩
  rw [h.1, h.2.1]
  exact hrecords

theorem SameTable.trans {t u v : Dtu} (h : SameTable t u) (h' : SameTable u v) : SameTable t v := by
  obtain ⟨h1, h2, h3, h4⟩ := h
  obtain ⟨k1, k2, k3, k4⟩ := h'
  exact ⟨k1.trans h1, k2.trans h2, k3.trans h3, k4.trans h4⟩

/-- R115: a minute event credits every record. -/
theorem minuteDtu_table (s : State) :
    SameTable { s.dtu with drivers := s.dtu.drivers.map (minuteRecord s ((s.dtu.minutes + 1) % Config.minuteModulus)) }
      (minuteDtu s) := by
  unfold minuteDtu
  refine SameTable.trans ?_ (logActivity_sameTable _ 2 _)
  exact SameTable.trans ⟨rfl, rfl, rfl, rfl⟩ (logActivity_sameTable _ 1 _)

theorem DriverLaw.minute {s : State} (h : DriverLaw s.dtu) : DriverLaw (minuteDtu s) := by
  refine (minuteDtu_table s).driverLaw ?_
  rw [driverLaw_iff] at h ⊢
  obtain ⟨hok, hslots, hrecords⟩ := h
  refine ⟨hok, ?_, ?_⟩
  · refine hslots.of_digests ?_ rfl rfl
    rw [List.map_map]
    exact List.map_congr_left fun d _ => minuteRecord_digest s _ d
  · exact AllRecords.mapped (u := s.dtu) rfl hrecords fun r hr =>
      ⟨minuteRecord_counted hr.1 _, minuteRecord_assessed hok _ r⟩

/-- R122: a sync load writes one record. -/
theorem loadedDtu_table (slot digest cont daily : Nat) (splitDone : Bool) (t : Dtu) :
    SameTable (updRecord digest (loadRecord t.params cont daily splitDone) t)
      (loadedDtu slot digest cont daily splitDone t) := by
  unfold loadedDtu
  dsimp only
  split
  · exact logDriver_sameTable _ _ _ _
  · exact ⟨rfl, rfl, rfl, rfl⟩

theorem DriverLaw.loaded {t : Dtu} {cont daily : Nat} (slot digest : Nat) (splitDone : Bool) (hcont : cont ≤ daily)
    (hdaily : daily ≤ 1440) (h : DriverLaw t) : DriverLaw (loadedDtu slot digest cont daily splitDone t) := by
  refine (loadedDtu_table slot digest cont daily splitDone t).driverLaw ?_
  rw [driverLaw_iff] at h ⊢
  obtain ⟨hok, hslots, hrecords⟩ := h
  exact ⟨hok, hslots.of_digests (updRecord_digests (by exact fun _ => rfl) _ _) rfl rfl,
    AllRecords.upd digest hrecords fun r _ => ⟨⟨hcont, hdaily⟩, assess_law hok _⟩⟩

/-! ## A new working record (R107) -/

/-- The Drive-Time state is as it was but for F12. -/
def SameUnits (s t : State) : Prop := t.dtu = { s.dtu with unsynced := t.dtu.unsynced }

theorem SameUnits.trans {s t u : State} (h : SameUnits s t) (h' : SameUnits t u) : SameUnits s u := by
  unfold SameUnits at h h' ⊢
  rw [h', h]

theorem WarningsOnly.sameUnits {s t : State} (h : WarningsOnly s t) : SameUnits s t := by
  rw [SameUnits, h.dtu]

theorem flagChange_sameUnits (f : FlagId) (v : Bool) (s : State) : SameUnits s (flagChange f v s) := by
  refine SameUnits.trans (t := putFlag s f v) ?_ (flagChange_frame f v s).sameUnits
  cases f <;> rfl

theorem writeSlotSignal_sameUnits (slot : Nat) (s : State) : SameUnits s (writeSlotSignal slot s) := by
  unfold writeSlotSignal
  split
  · exact SameUnits.trans (t := putSignal s _ _) rfl (conditionsOnSignal_frame _ _).sameUnits
  · rfl

theorem bindingOutputs_sameUnits (slot : Nat) (before : Stage) (s : State) :
    SameUnits s (bindingOutputs slot before s) := by
  unfold bindingOutputs
  refine SameUnits.trans ?_ (noticeIfOn_frame _ _).sameUnits
  have hstage := (writeSlotSignal_sameUnits slot s).trans (stageChange_frame slot before _).sameUnits
  split
  · exact hstage.trans (flagChange_sameUnits _ _ _)
  · exact hstage

theorem putBindings_sameUnits (t : Dtu) (s : State) : SameUnits { s with dtu := t } (putBindings t s) := by
  have hput : SameUnits { s with dtu := t } { s with dtu := t } := rfl
  have hfirst : SameUnits { s with dtu := t } (if t.slot1 = s.dtu.slot1 then { s with dtu := t }
      else bindingOutputs 1 (slotStage s 1) { s with dtu := t }) := by
    split
    · exact hput
    · exact bindingOutputs_sameUnits _ _ _
  unfold putBindings
  dsimp only
  split
  · exact hfirst
  · exact hfirst.trans (bindingOutputs_sameUnits _ _ _)

/-- R107: the working record replaced, a slot whose presence signal it does not name emptied, and every record
judged under the new limits. -/
def replacedDtu (p : DriveParams) (w : WorkState) (t : Dtu) : Dtu :=
  let u := unbindUnobserved { t with params := p, paramState := w }
  { u with drivers := u.drivers.map (assess p) }

theorem replaceParams_sameUnits (p : DriveParams) (w : WorkState) (s : State) :
    SameUnits { s with dtu := replacedDtu p w s.dtu } (replaceParams p w s) := by
  have hbound := putBindings_sameUnits (unbindUnobserved { s.dtu with params := p, paramState := w })
    { s with dtu.params := p, dtu.paramState := w }
  unfold replaceParams
  dsimp only
  generalize putBindings _ _ = bound at hbound ⊢
  have hcleared : SameUnits bound (flagChange .speedMismatch false { bound with run.mismatch := none }) :=
    SameUnits.trans (t := { bound with run.mismatch := none }) rfl (flagChange_sameUnits _ _ _)
  have hbase := hbound.trans hcleared
  generalize flagChange .speedMismatch false _ = cleared at hbase ⊢
  have hslots (t : State) : SameUnits t (writeSlotSignals t) :=
    (writeSlotSignal_sameUnits 1 t).trans (writeSlotSignal_sameUnits 2 _)
  have hunsynced (t : State) : SameUnits t (refreshUnsynced t) := flagChange_sameUnits _ _ t
  have hrest := (((hslots { cleared with dtu.drivers := cleared.dtu.drivers.map (assess p) }).trans
    (stageChanges_frame s _).sameUnits).trans (hunsynced _)).trans (noticeIfOn_frame .drivetime _).sameUnits
  have hlimits : SameUnits { s with dtu := replacedDtu p w s.dtu }
      { cleared with dtu.drivers := cleared.dtu.drivers.map (assess p) } := by
    unfold SameUnits at hbase ⊢
    dsimp only
    rw [hbase]
    rfl
  exact hlimits.trans hrest

theorem unbindUnobserved_rebound (t : Dtu) (P : Dtu → Prop) (hunbind : ∀ slot u, P u → P (unbind slot u)) (h : P t) :
    P (unbindUnobserved t) := by
  unfold unbindUnobserved
  dsimp only
  split <;> split
  · exact hunbind _ _ (hunbind _ _ h)
  · exact hunbind _ _ h
  · exact hunbind _ _ h
  · exact h

theorem DriverLaw.replaced {p : DriveParams} (hok : driveOk p = true) (w : WorkState) {s : State}
    (h : DriverLaw s.dtu) : DriverLaw (replaceParams p w s).dtu := by
  rw [driverLaw_iff] at h
  obtain ⟨-, hslots, hrecords⟩ := h
  have hdtu := replaceParams_sameUnits p w s
  obtain ⟨hslots', hparams, hdrivers⟩ := unbindUnobserved_rebound { s.dtu with params := p, paramState := w }
    (fun t => SlotsLaw t ∧ t.params = p ∧ t.drivers = s.dtu.drivers)
    (fun slot t ht => ⟨ht.1.unbind slot, (unbind_params slot t).trans ht.2.1, (unbind_drivers slot t).trans ht.2.2⟩)
    ⟨hslots.of_digests rfl rfl rfl, rfl, rfl⟩
  rw [driverLaw_iff, hdtu]
  refine ⟨?_, hslots'.of_digests ?_ rfl rfl, ?_⟩
  · exact (congrArg driveOk hparams).trans hok
  · exact (List.map_map ..).trans (List.map_congr_left fun _ _ => rfl)
  · intro r hr
    obtain ⟨x, hx, rfl⟩ := List.mem_map.1 hr
    rw [hdrivers] at hx
    refine ⟨(hrecords x hx).1, ?_⟩
    change AssessedLaw (unbindUnobserved _).params _
    rw [hparams]
    exact assess_law hok x

theorem parseDrive_ok {b : List Byte} {p : DriveParams} (h : parseDrive b = some p) : driveOk p = true := by
  unfold parseDrive at h
  split at h
  · cases h
  · obtain ⟨hok, rfl⟩ := guardOpt_eq_some h
    exact hok

theorem validate_driveOk (m : List Host.Cell) : driveOk (validate m).params = true := by
  unfold NewTables.params
  split
  · next p hp => exact parseDrive_ok (judgeEntry_enabled hp)
  · decide
  · decide

/-! ## Every step -/

/-- The law of the driver records, of a state. -/
def Driven (s : State) : Prop := DriverLaw s.dtu

theorem Driven.of_sameTable {s t : State} (h : SameTable s.dtu t.dtu) : Preserves Driven s t := fun hs => h.driverLaw hs

theorem Driven.of_dtu {s t : State} (h : t.dtu = s.dtu) : Preserves Driven s t :=
  .of_sameTable (by rw [h]; exact ⟨rfl, rfl, rfl, rfl⟩)

theorem driven_core : Core (Preserves Driven) :=
  .of_quiet (fun h => .of_sameTable (by rw [h.dtu]; exact ⟨rfl, rfl, rfl, rfl⟩)) (fun h h' hs => h' (h hs))
    (fun _ => .of_dtu rfl) (fun ht hs => DriverLaw.rebound hs ht) (fun _ hs => DriverLaw.minute hs)
    (fun slot digest splitDone _ hcont hdaily hs => DriverLaw.loaded slot digest splitDone hcont hdaily hs)
    (fun _ _ => .of_dtu rfl) (fun _ _ => .of_dtu rfl) (fun _ _ => .of_dtu rfl) (fun _ => .of_dtu rfl)
    fun _ _ => .of_dtu rfl

theorem driven_leaves : Leaves (Preserves Driven) where
  toCore := driven_core
  anyMode _ _ _ := .of_dtu rfl
  clocks _ _ _ _ := .of_sameTable ⟨rfl, rfl, rfl, rfl⟩
  anyFlag f _ s v := .of_sameTable (by cases f <;> exact ⟨rfl, rfl, rfl, rfl⟩)
  input _ _ _ := .of_dtu rfl
  frameSignal _ := .of_dtu rfl
  route _ _ := .of_dtu rfl
  count _ _ := .of_dtu rfl
  tables _ _ := .of_dtu rfl
  noRoutes _ := .of_dtu rfl
  sampling _ _ := .of_dtu rfl
  stopped _ := .of_dtu rfl
  replaced m _ hs := DriverLaw.replaced (validate_driveOk m) _ hs
  filtered s := .of_dtu (filterAlerts_frame s).dtu
  evaluated _ := .of_dtu (runTasks_frame _ _).dtu
  abandoned s := .of_dtu (abandonConditions_frame s).dtu
  checkOff _ := .of_dtu rfl
  placed _ := .of_dtu rfl
  restartedRun _ := .of_dtu rfl
  initialRun _ := .of_dtu rfl
  unpoweredRun _ := .of_dtu rfl
  keepAlive _ _ _ := reset_driverLaw


end Sys2Proof.Machine
end

section
/-! PROOFS. The law of the Signal Store (R22, R33, R35, R36), kept by every step. -/

namespace Sys2Proof.Machine

/-! ## Entries 160 to 162 -/

theorem within_of_notAvailable (v low high : Int) : SigEntry.within { value := v, status := .notAvailable } low high := by
  rintro (h | h | h) <;> cases h

theorem within_of_errorCode (v low high : Int) : SigEntry.within { value := v, status := .errorCode } low high := by
  rintro (h | h | h) <;> cases h

theorem within_of_mem {e : SigEntry} {low high : Int} (hlow : low ≤ e.value) (hhigh : e.value ≤ high) :
    e.within low high := fun _ => ⟨hlow, hhigh⟩

theorem within_initial (low high : Int) : SigEntry.initial.within low high := by
  rintro (h | h | h) <;> cases h

theorem supplyEntry_within (centivolts : Nat) : (supplyEntry centivolts).within 0 4000 := by
  unfold supplyEntry
  split
  · exact within_of_mem (by dsimp only; omega) (by dsimp only; omega)
  · exact within_of_mem (by decide) (by decide)

/-- No record has more than 1440 minutes left. -/
def Bounded (r : Driver) : Prop := r.remaining ≤ 1440

theorem slotDriver_mem {s : State} {slot : Nat} {r : Driver} (h : slotDriver s slot = some r) :
    r ∈ s.dtu.drivers := by
  unfold slotDriver at h
  split at h
  · exact List.mem_of_find?_eq_some h
  · cases h

theorem slotEntry_within {s : State} (h : AllRecords Bounded s.dtu) (slot : Nat) :
    (slotEntry s slot).within 0 1440 := by
  unfold slotEntry
  split
  · next r hr =>
    have hbound := h r (slotDriver_mem hr)
    exact within_of_mem (by dsimp only; omega) (by unfold Bounded at hbound; dsimp only; omega)
  · exact within_of_notAvailable _ _ _

/-- R22: what a descriptor in force describes, and its limits. -/
def Described (tables : Tables) : Prop :=
  ∀ k d, entryAt tables.signals k = some d → k < 160 ∧ d.min ≤ d.max

theorem described_initial : Described Tables.initial := by
  intro k d hd
  rw [show entryAt Tables.initial.signals k = none from entryAt_replicate_unused 160 k] at hd
  cases hd

theorem parseSignal_limits {b : List Byte} {d : SigDesc} (h : parseSignal b = some d) : d.min ≤ d.max := by
  obtain ⟨hok, rfl⟩ := guardOpt_eq_some h
  simp only [sigOk, Bool.and_eq_true, decide_eq_true_eq] at hok
  exact hok.1.1.1.2

theorem keepIf_eq_enabled {α : Type} {e : Entry α} {ok : α → Bool} {a : α} :
    e.keepIf ok = .enabled a ↔ e = .enabled a ∧ ok a = true := by
  cases e with
  | enabled b =>
    simp only [Entry.keepIf, Entry.enabled.injEq]
    split
    · next hok =>
      refine ⟨fun h => ?_, fun h => congrArg _ h.1⟩
      obtain rfl := Entry.enabled.inj h
      exact ⟨rfl, hok⟩
    · next hok =>
      refine ⟨fun h => (by cases h), fun h => absurd h.2 ?_⟩
      rwa [← h.1]
  | disabled => simp [Entry.keepIf]
  | unused => simp [Entry.keepIf]

theorem judgeSignal_enabled {m : List Host.Cell} {routes : List (Entry Route)} {i : Nat} {d : SigDesc}
    (h : judgeSignal m routes i = .enabled d) : parseSignal (storeImage m .signal i) = some d := by
  unfold judgeSignal at h
  dsimp only at h
  split at h
  · split at h <;> cases h
  · exact judgeEntry_enabled (keepIf_eq_enabled.1 h).1

theorem range_getElem?_eq_some {n k i : Nat} (h : (List.range n)[k]? = some i) : k < n ∧ i = k := by
  obtain ⟨hk, heq⟩ := List.getElem?_eq_some_iff.1 h
  rw [List.getElem_range] at heq
  exact ⟨by simpa using hk, heq.symm⟩

theorem described_validate {new : NewTables} (h : Validated new) : Described new.working := by
  obtain ⟨m, rfl⟩ := h
  intro k d hd
  change entryAt ((List.range 160).map (judgeSignal m _)) k = some d at hd
  rw [entryAt_eq_some_iff, List.getElem?_map, Option.map_eq_some_iff] at hd
  obtain ⟨i, hi, hd⟩ := hd
  obtain ⟨hk, rfl⟩ := range_getElem?_eq_some hi
  exact ⟨hk, parseSignal_limits (judgeSignal_enabled hd)⟩

/-- The internal entries lie within their limits, with what R36 rests on; frame signals are others. -/
structure InternalLaw (s : State) : Prop where
  described : Described s.run.tables
  ok : driveOk s.dtu.params = true
  bounded : AllRecords Bounded s.dtu
  supply : (signalAt s 160).within 0 4000
  slot1 : (signalAt s 161).within 0 1440
  slot2 : (signalAt s 162).within 0 1440

theorem InternalLaw.of_same {s t : State} (hparams : t.dtu.params = s.dtu.params)
    (hdrivers : t.dtu.drivers = s.dtu.drivers) (hsignals : t.run.signals = s.run.signals)
    (htable : t.run.tables.signals = s.run.tables.signals) : Preserves InternalLaw s t := by
  rintro ⟨hdescribed, hok, hbounded, h160, h161, h162⟩
  have hat (k : Nat) : signalAt t k = signalAt s k := by rw [signalAt, hsignals, ← signalAt]
  refine ⟨?_, hparams ▸ hok, hbounded.of_drivers hdrivers, hat 160 ▸ h160, hat 161 ▸ h161, hat 162 ▸ h162⟩
  rwa [Described, htable]

theorem signalAt_putSignal_eq_or (s : State) (i k : Nat) (e : SigEntry) :
    signalAt (putSignal s i e) k = signalAt s k ∨ (k = i ∧ signalAt (putSignal s i e) k = e) := by
  unfold signalAt putSignal
  rw [updAt_getD]
  split
  · next h => exact .inr ⟨h.1, rfl⟩
  · exact .inl rfl

theorem InternalLaw.put {s : State} {k : Nat} {e : SigEntry} (h160 : k = 160 → e.within 0 4000)
    (h161 : k = 161 → e.within 0 1440) (h162 : k = 162 → e.within 0 1440) :
    Preserves InternalLaw s (putSignal s k e) := by
  rintro ⟨hdescribed, hok, hbounded, k160, k161, k162⟩
  refine ⟨hdescribed, hok, hbounded, ?_, ?_, ?_⟩
  · rcases signalAt_putSignal_eq_or s k 160 e with heq | ⟨rfl, heq⟩ <;> rw [heq]
    · exact k160
    · exact h160 rfl
  · rcases signalAt_putSignal_eq_or s k 161 e with heq | ⟨rfl, heq⟩ <;> rw [heq]
    · exact k161
    · exact h161 rfl
  · rcases signalAt_putSignal_eq_or s k 162 e with heq | ⟨rfl, heq⟩ <;> rw [heq]
    · exact k162
    · exact h162 rfl

theorem InternalLaw.internal {s : State} {k : Nat} {e : SigEntry} (he : InternalEntry s k e) :
    Preserves InternalLaw s (putSignal s k e) := by
  intro hs
  rcases he with ⟨rfl, v, rfl⟩ | ⟨slot, hslot, rfl, rfl⟩
  · exact InternalLaw.put (fun _ => supplyEntry_within v) (fun h => (by cases h)) (fun h => (by cases h)) hs
  · have hwithin := slotEntry_within hs.bounded slot
    exact InternalLaw.put (fun h => by omega) (fun _ => hwithin) (fun _ => hwithin) hs

theorem assess_bounded {p : DriveParams} (hok : driveOk p = true) (r : Driver) : Bounded (assess p r) :=
  (assess_law hok r).2.1

theorem InternalLaw.of_dtu {s : State} {t : Dtu} (hparams : t.params = s.dtu.params)
    (hbounded : AllRecords Bounded s.dtu → driveOk s.dtu.params = true → AllRecords Bounded t) :
    Preserves InternalLaw s { s with dtu := t } := by
  rintro ⟨hdescribed, hok, hs, h160, h161, h162⟩
  exact ⟨hdescribed, by rwa [hparams], hbounded hs hok, h160, h161, h162⟩

theorem internal_core : Core (Preserves InternalLaw) :=
  .of_quiet (fun h => .of_same (by rw [h.dtu]) (by rw [h.dtu]) h.signals (by rw [h.tables])) (fun h h' hs => h' (h hs))
    InternalLaw.internal
    (fun ht => .of_dtu (rebound_params ht) fun hs hok =>
      AllRecords.rebound (fun _ _ => id) (fun v _ hv => (freshRecord_law hok v _ hv).2.2.1) hs ht)
    (fun s => .of_dtu (minuteDtu_table s).1 fun hs hok =>
      AllRecords.mapped (minuteDtu_table s).2.1 hs fun r _ => (minuteRecord_assessed hok _ r).2.1)
    (fun slot digest splitDone s _ _ => .of_dtu (loadedDtu_table slot digest _ _ splitDone s.dtu).1 fun hs hok =>
      AllRecords.of_drivers (loadedDtu_table slot digest _ _ splitDone s.dtu).2.1
        (AllRecords.upd digest hs fun _ _ => assess_bounded hok _))
    (fun _ _ => .of_same rfl rfl rfl rfl) (fun _ _ => .of_same rfl rfl rfl rfl) (fun _ _ => .of_same rfl rfl rfl rfl)
    (fun _ => .of_same rfl rfl rfl rfl) fun _ _ => .of_same rfl rfl rfl rfl

theorem initial_signalAt {s : State} (h : s.run.signals = Run.initial.signals) (k : Nat) :
    signalAt s k = SigEntry.initial := by
  rw [signalAt, h]
  exact getD_replicate_self 163 k _

theorem InternalLaw.of_initial {s t : State} (hparams : t.dtu.params = s.dtu.params)
    (hdrivers : t.dtu.drivers = s.dtu.drivers) (hsignals : t.run.signals = Run.initial.signals)
    (htables : t.run.tables = Tables.initial) : Preserves InternalLaw s t := by
  rintro ⟨-, hok, hbounded, -, -, -⟩
  refine ⟨htables ▸ described_initial, hparams ▸ hok, hbounded.of_drivers hdrivers, ?_, ?_, ?_⟩ <;>
    (rw [initial_signalAt hsignals]; exact within_initial _ _)

theorem reset_internalLaw (straps : Nat) (s : State) : InternalLaw (keepAliveReset straps s) := by
  refine ⟨described_initial, (reset_driverLaw).1, fun r hr => absurd hr List.not_mem_nil, ?_, ?_, ?_⟩ <;>
    (rw [initial_signalAt rfl]; exact within_initial _ _)

theorem internal_leaves : Leaves (Preserves InternalLaw) where
  toCore := internal_core
  anyMode _ _ _ := .of_same rfl rfl rfl rfl
  clocks _ _ _ _ := .of_same rfl rfl rfl rfl
  anyFlag f _ s v := .of_same (by cases f <;> rfl) (by cases f <;> rfl) (putFlag_signals s f v)
    (by rw [putFlag_tables])
  input _ _ _ := .of_same rfl rfl rfl rfl
  frameSignal {s i d e} he hs := by
    have hi := (hs.described i d he.1).1
    exact InternalLaw.put (fun h => by omega) (fun h => by omega) (fun h => by omega) hs
  route _ _ := .of_same rfl rfl rfl rfl
  count _ _ := .of_same rfl rfl rfl rfl
  tables hnew _ hs := ⟨described_validate hnew, hs.ok, hs.bounded, hs.supply, hs.slot1, hs.slot2⟩
  noRoutes _ := .of_same rfl rfl rfl rfl
  sampling _ _ := .of_same rfl rfl rfl rfl
  stopped _ := .of_same rfl rfl rfl rfl
  replaced m := internal_core.replaceParams_of
    (fun _ hs => ⟨hs.described, validate_driveOk m, hs.bounded, hs.supply, hs.slot1, hs.slot2⟩)
    (fun _ hs => ⟨hs.described, hs.ok, AllRecords.mapped rfl hs.bounded fun r _ => assess_bounded (validate_driveOk m) r,
      hs.supply, hs.slot1, hs.slot2⟩)
  filtered s := .of_same (by rw [(filterAlerts_frame s).dtu]) (by rw [(filterAlerts_frame s).dtu])
    (filterAlerts_frame s).signals (by rw [(filterAlerts_frame s).tables])
  evaluated s := .of_same (congrArg Dtu.params (runTasks_frame _ _).dtu) (congrArg Dtu.drivers (runTasks_frame _ _).dtu)
    (runTasks_frame _ _).signals (congrArg Tables.signals (runTasks_frame _ _).tables)
  abandoned s := .of_same (by rw [(abandonConditions_frame s).dtu]) (by rw [(abandonConditions_frame s).dtu])
    (abandonConditions_frame s).signals (by rw [(abandonConditions_frame s).tables])
  checkOff _ := .of_same rfl rfl rfl rfl
  placed _ := .of_same rfl rfl rfl rfl
  restartedRun _ := .of_initial rfl rfl rfl rfl
  initialRun _ := .of_initial rfl rfl rfl rfl
  unpoweredRun _ := .of_initial rfl rfl rfl rfl
  keepAlive straps s _ := reset_internalLaw straps s

end Sys2Proof.Machine
end

section
/-! PROOFS. R33's law of the frame signals, kept by every step but the end of a STARTUP validation, and by that
where no frame signal has been written. -/

namespace Sys2Proof.Machine

/-! ## No frame signal written -/

/-- No frame signal has been written. -/
def Unwritten (s : State) : Prop := ∀ k, k < 160 → (signalAt s k).status = .never

theorem Unwritten.of_signals {s t : State} (h : t.run.signals = s.run.signals) : Preserves Unwritten s t := by
  intro hs k hk
  rw [signalAt, h, ← signalAt]
  exact hs k hk

theorem InternalEntry.beyond {s : State} {k : Nat} {e : SigEntry} (h : InternalEntry s k e) : 160 ≤ k := by
  rcases h with ⟨rfl, -⟩ | ⟨slot, -, rfl, -⟩ <;> omega

theorem unwritten_core : Core (Preserves Unwritten) :=
  .of_quiet (fun h => .of_signals h.signals) (fun h h' hs => h' (h hs))
    (fun he hs k hk => by
      rw [signalAt_putSignal _ _ _ _ (by have := he.beyond; omega)]
      exact hs k hk)
    (fun _ => .of_signals rfl) (fun _ => .of_signals rfl) (fun _ _ _ _ _ _ => .of_signals rfl)
    (fun _ _ => .of_signals rfl) (fun _ _ => .of_signals rfl) (fun _ _ => .of_signals rfl)
    (fun _ => .of_signals rfl) fun _ _ => .of_signals rfl

theorem Unwritten.put (f : FlagId) (s : State) (v : Bool) : Preserves Unwritten s (putFlag s f v) :=
  .of_signals (putFlag_signals s f v)

theorem unwritten_calm : Calm (Preserves Unwritten) where
  toCore := unwritten_core
  enterService hrun _ := unwritten_core.enterService_of (fun _ _ => .of_signals rfl) (Unwritten.put _) hrun
  setUnder := unwritten_core.setUnder_of (Unwritten.put _)
  clearUnder := unwritten_core.clearUnder_of (Unwritten.put _)
  setOver := unwritten_core.setOver_of (Unwritten.put _)
  clearOver := unwritten_core.clearOver_of (Unwritten.put _)

theorem unwritten_of_initial {s : State} (h : s.run.signals = Run.initial.signals) : Unwritten s := by
  intro k _
  rw [initial_signalAt h]
  rfl

theorem unwritten_calming : Calming (Preserves Unwritten) where
  refl _ := id
  trans h h' hs := h' (h hs)
  calm _ hpath := hpath _ unwritten_calm
  standby _ _ := unwritten_of_initial rfl

theorem unwritten_activate (m : List Host.Cell) (levels : BitVec 16) (s : State) :
    Preserves Unwritten s (activate (validate m) levels s) :=
  unwritten_core.activate_of (fun _ _ => .of_signals rfl) (fun _ => .of_signals rfl) (fun _ => .of_signals rfl)
    (unwritten_core.replaceParams_of (fun _ => .of_signals rfl) fun _ => .of_signals rfl)
    (fun s => .of_signals (filterAlerts_frame s).signals) (fun _ => .of_signals (runTasks_frame _ _).signals) s

/-! ## The law of the frame signals -/

/-- R33's law, of the frame signals. -/
def FrameLaw (s : State) : Prop :=
  ∀ k d, descAt s k = some d → k < 160 ∧ d.min ≤ d.max ∧ (signalAt s k).within d.min d.max

theorem FrameLaw.of_same {s t : State} (htable : t.run.tables.signals = s.run.tables.signals)
    (hsignals : t.run.signals = s.run.signals) : Preserves FrameLaw s t := by
  intro hs k d hd
  rw [descAt, htable, ← descAt] at hd
  rw [signalAt, hsignals, ← signalAt]
  exact hs k d hd

theorem FrameLaw.of_unwritten {s : State} (htables : Described s.run.tables) (h : Unwritten s) : FrameLaw s := by
  intro k d hd
  obtain ⟨hk, hlimits⟩ := htables k d hd
  refine ⟨hk, hlimits, fun hstatus => ?_⟩
  rw [h k hk] at hstatus
  rcases hstatus with h | h | h <;> cases h

theorem FrameLaw.put {s : State} {i : Nat} {e : SigEntry}
    (he : ∀ d, descAt s i = some d → d.min ≤ d.max → e.within d.min d.max) :
    Preserves FrameLaw s (putSignal s i e) := by
  intro hs k d hd
  obtain ⟨hk, hlimits, hwithin⟩ := hs k d hd
  refine ⟨hk, hlimits, ?_⟩
  rcases signalAt_putSignal_eq_or s i k e with heq | ⟨rfl, heq⟩ <;> rw [heq]
  · exact hwithin
  · exact he d hd hlimits

theorem clampValue_within {d : SigDesc} (h : d.min ≤ d.max) (v : Int) : (clampValue d v).within d.min d.max := by
  unfold clampValue
  split
  · exact within_of_mem (le_refl d.min) h
  · next hlow =>
    split
    · exact within_of_mem h (le_refl d.max)
    · next hhigh => exact within_of_mem (not_lt.1 hlow) (not_lt.1 hhigh)

theorem staleEntry_within {d : SigDesc} (h : d.min ≤ d.max) (held : SigEntry) :
    (staleEntry d held).within d.min d.max := by
  intro _
  unfold staleEntry
  dsimp only
  split
  · exact ⟨le_refl d.min, h⟩
  · next hlow =>
    split
    · exact ⟨h, le_refl d.max⟩
    · next hhigh => exact ⟨not_lt.1 hlow, not_lt.1 hhigh⟩

theorem extractSignal_within {d : SigDesc} (h : d.min ≤ d.max) (payload : List Byte) (held : SigEntry) :
    (extractSignal d payload held).within d.min d.max := by
  unfold extractSignal
  split
  · dsimp only
    split
    · exact within_of_notAvailable _ _ _
    · split
      · exact within_of_errorCode _ _ _
      · exact clampValue_within h _
  · exact within_of_notAvailable _ _ _

theorem FrameLaw.frame {s : State} {i : Nat} {d : SigDesc} {e : SigEntry} (he : FrameEntry s i d e) :
    Preserves FrameLaw s (putSignal s i e) := by
  obtain ⟨hd, he⟩ := he
  refine .put fun d' hd' hlimits => ?_
  obtain rfl : d = d' := Option.some_inj.1 (hd.symm.trans hd')
  rcases he with ⟨payload, rfl⟩ | rfl
  · exact extractSignal_within hlimits payload _
  · exact staleEntry_within hlimits _

theorem frame_core : Core (Preserves FrameLaw) :=
  .of_quiet (fun h => .of_same (by rw [h.tables]) h.signals) (fun h h' hs => h' (h hs))
    (fun {s k e} he hs => FrameLaw.put (fun d hd _ => absurd (hs k d hd).1 (by have := he.beyond; omega)) hs)
    (fun _ => .of_same rfl rfl) (fun _ => .of_same rfl rfl) (fun _ _ _ _ _ _ => .of_same rfl rfl)
    (fun _ _ => .of_same rfl rfl) (fun _ _ => .of_same rfl rfl) (fun _ _ => .of_same rfl rfl)
    (fun _ => .of_same rfl rfl) fun _ _ => .of_same rfl rfl

theorem FrameLaw.putFlag (f : FlagId) (s : State) (v : Bool) : Preserves FrameLaw s (putFlag s f v) :=
  .of_same (by rw [putFlag_tables]) (putFlag_signals s f v)

theorem frame_forcedExit (s : State) : Preserves FrameLaw s (forcedExit s) :=
  frame_core.forcedExit_of (fun _ _ => .of_same rfl rfl) (FrameLaw.putFlag _) s

theorem activate_tables (new : NewTables) (levels : BitVec 16) (s : State) :
    (activate new levels s).run.tables = new.working := (activate_driveOnly new levels s).tables

/-- R163: after an activation no frame signal lies outside its limits where none had been written. -/
theorem frameLaw_activate (m : List Host.Cell) (levels : BitVec 16) {s : State} (h : Unwritten s) :
    FrameLaw (activate (validate m) levels s) := by
  refine .of_unwritten ?_ (unwritten_activate m levels s h)
  rw [activate_tables]
  exact described_validate ⟨m, rfl⟩

theorem frameLaw_restarted (levels : BitVec 16) (s : State) : FrameLaw (restarted levels s) := by
  have hactivated := frameLaw_activate (restartReset s).store levels (s := restartReset s) (unwritten_of_initial rfl)
  have hplaced (t : State) : Preserves FrameLaw t (restartPlaced t) := .of_same rfl rfl
  have hruns (t : State) : Preserves FrameLaw t (restartRuns t) :=
    .of_same (congrArg Tables.signals (restartRuns_frame t).tables) (restartRuns_frame t).signals
  exact hruns _ (frame_core.restartShown _ (hplaced _ hactivated))

theorem frame_kept : Kept (Preserves FrameLaw) where
  toCore := frame_core
  forcedExit := frame_forcedExit
  signalEvent he ht _ hs := frame_core.roadSpeedEvent_of frame_forcedExit _ _ (ht (FrameLaw.frame he hs))
  inputSample := frame_core.inputSample_of (fun _ _ _ => .of_same rfl rfl) frame_forcedExit
  enterService hrun _ := frame_core.enterService_of (fun _ _ => .of_same rfl rfl) (FrameLaw.putFlag _) hrun
  supervised _ _ ht hs :=
    frame_core.superviseRoutes_of (FrameLaw.putFlag _) (FrameLaw.putFlag _) (FrameLaw.putFlag _) _
      (ht (FrameLaw.of_same rfl rfl hs))
  setUnder := frame_core.setUnder_of (FrameLaw.putFlag _)
  clearUnder := frame_core.clearUnder_of (FrameLaw.putFlag _)
  setOver := frame_core.setOver_of (FrameLaw.putFlag _)
  clearOver := frame_core.clearOver_of (FrameLaw.putFlag _)
  restart levels hval := frame_core.restart_of_restarted hval fun _ => frameLaw_restarted levels _

theorem frameLaw_initial {s : State} (htables : s.run.tables = Tables.initial)
    (hsignals : s.run.signals = Run.initial.signals) : FrameLaw s :=
  .of_unwritten (htables ▸ described_initial) (unwritten_of_initial hsignals)

theorem frame_mostly : Mostly (Preserves FrameLaw) where
  refl _ := id
  trans h h' hs := h' (h hs)
  path _ hpath := hpath _ frame_kept
  standby _ _ := frameLaw_initial rfl rfl
  clocks _ _ _ _ := .of_same rfl rfl
  asleepMinute _ := frame_core.minuteEvent _
  shutdown _ := frame_core.shutdown_of (frame_core.dark_of (.of_same rfl rfl) fun _ => .of_same rfl rfl)
    fun t _ => .putFlag _ t _
  warm {s} _ := .of_same (by rw [(warmStart_frame s).tables]; rfl) (warmStart_frame s).signals
  cold _ := frame_core.cold_of fun _ => frameLaw_initial rfl rfl
  reset _ _ _ := frameLaw_initial rfl rfl

/-- A STARTUP validation ends where no frame signal has been written. -/
theorem frameLaw_completeStartup (levels : BitVec 16) {s : State} (h : Unwritten s) :
    FrameLaw (completeStartup levels s) := by
  have hactivated := frameLaw_activate s.store levels (s := { s with run.mc.validation := none }) h
  exact frame_kept.beginGaugesAndLamps _ (FrameLaw.of_same rfl rfl hactivated)

/-! ## The whole law -/

theorem signalLaw_iff (s : State) : SignalLaw s ↔ FrameLaw s ∧ (signalAt s 160).within 0 4000 ∧
    (signalAt s 161).within 0 1440 ∧ (signalAt s 162).within 0 1440 := Iff.rfl

theorem internalLaw_of_signalLaw {s : State} (hdriver : DriverLaw s.dtu) (h : SignalLaw s) : InternalLaw s := by
  obtain ⟨hframe, h160, h161, h162⟩ := h
  obtain ⟨hok, -, hrecords⟩ := (driverLaw_iff s.dtu).1 hdriver
  exact ⟨fun k d hd => have ⟨hk, hlimits, _⟩ := hframe k d hd; ⟨hk, hlimits⟩, hok,
    fun r hr => (hrecords r hr).2.2.1, h160, h161, h162⟩

theorem signalLaw_step {s t : State} (hstep : step s = .next t) (hdriver : DriverLaw s.dtu) (hsignals : SignalLaw s)
    (hframe : FrameLaw t) : SignalLaw t := by
  have hinternal := internal_leaves.outer.step (fun _ _ => .of_same rfl rfl rfl rfl) hstep
    (internalLaw_of_signalLaw hdriver hsignals)
  exact ⟨hframe, hinternal.supply, hinternal.slot1, hinternal.slot2⟩

theorem frameLaw_step {s t : State} (hstep : step s = .next t) (hframe : FrameLaw s)
    (h : (∀ levels rest, s.pending ≠ .validationComplete levels :: rest) ∨ Unwritten s) : FrameLaw t := by
  unfold step at hstep
  split at hstep
  · cases hstep
    exact frame_mostly.idle s hframe
  · next c rest hpending =>
    by_cases hc : ∃ levels, c = .validationComplete levels
    · obtain ⟨levels, rfl⟩ := hc
      have hunwritten := h.resolve_left fun hne => hne levels rest hpending
      cases hstep
      have hsettled : Unwritten (settle { s with pending := rest }) :=
        unwritten_calming.settle _ (Unwritten.of_signals rfl hunwritten)
      have hkept : FrameLaw (settle { s with pending := rest }) :=
        frame_mostly.settle _ (FrameLaw.of_same rfl rfl hframe)
      dsimp only [after]
      split
      · exact frameLaw_completeStartup levels hsettled
      · exact hkept
    · exact frame_mostly.exec_of_ne c (not_exists.1 hc) _ t hstep (FrameLaw.of_same rfl rfl hframe)

/-- Settles O51: the form and the power law by every small change; R33's law with the limits of the internal
entries, and the end of a STARTUP validation from a store in which no frame signal has been written. -/
theorem formIsKept : Obligations.FormIsKept := fun _ _ hstep =>
  ⟨canonical_leaves.outer.step (fun _ _ => .of_store rfl) hstep, shape_leaves.outer.step (fun _ _ => id) hstep,
    power_outer.step (fun _ _ => id) hstep, fun hhead hdriver hsignals =>
      signalLaw_step hstep hdriver hsignals (frameLaw_step hstep hsignals.1 hhead)⟩

end Sys2Proof.Machine
end

section
/-! PROOFS. The law of the transmit queues (R14, R15, R18, R175, R176), kept by every step. -/

namespace Sys2Proof.Machine

/-! ## How many entries have an origin -/

theorem originCount_cons (e : QEntry) (q : List QEntry) (o : Origin) :
    originCount (e :: q) o = originCount q o + if e.origin = o then 1 else 0 := by
  simp [originCount, List.countP_cons]

theorem originCount_append (p q : List QEntry) (o : Origin) :
    originCount (p ++ q) o = originCount p o + originCount q o := by
  simp [originCount]

theorem originCount_singleton (e : QEntry) (o : Origin) : originCount [e] o = if e.origin = o then 1 else 0 := by
  simp [originCount]

/-- The REPLYs of a queue are counted among its entries that are no notices. -/
theorem originCount_repliesOf {o : Origin} (ho : ∀ k, o ≠ .notice k) (q : List QEntry) :
    originCount (repliesOf q) o = originCount q o := by
  induction q with
  | nil => rfl
  | cons e q ih =>
    unfold repliesOf at ih ⊢
    cases he : e.origin
    case notice k => simpa [he, originCount_cons, (ho k).symm] using ih
    all_goals simpa [he, originCount_cons] using ih

theorem originCount_eq_of_replies {o : Origin} (ho : ∀ k, o ≠ .notice k) {p q : List QEntry}
    (h : repliesOf p = repliesOf q) : originCount p o = originCount q o := by
  rw [← originCount_repliesOf ho, h, originCount_repliesOf ho]

/-- A changed frame keeps its origin. -/
theorem replaceFrame_origins (o : Origin) (f : NoticeFrames) (q : List QEntry) :
    (replaceFrame o f q).map QEntry.origin = q.map QEntry.origin := by
  induction q with
  | nil => rfl
  | cons x xs ih =>
    unfold replaceFrame
    split
    · rfl
    · simp [ih]

theorem originCount_eq_of_origins {p q : List QEntry} (h : p.map QEntry.origin = q.map QEntry.origin) (o : Origin) :
    originCount p o = originCount q o := by
  have hcount (l : List QEntry) : originCount l o = (l.map QEntry.origin).countP fun x => decide (x = o) := by
    simp [originCount, List.countP_map, Function.comp_def]
  rw [hcount, hcount, h]

theorem origins_forall {p : Origin → Prop} {l l' : List QEntry} (h : l.map QEntry.origin = l'.map QEntry.origin)
    (hl : ∀ e ∈ l', p e.origin) : ∀ e ∈ l, p e.origin := by
  intro e he
  have hmem : e.origin ∈ l'.map QEntry.origin := h ▸ List.mem_map_of_mem he
  obtain ⟨e', he', heq⟩ := List.mem_map.1 hmem
  exact heq ▸ hl e' he'

theorem vtqInsert_perm (e : QEntry) (q : List QEntry) : (vtqInsert e q).Perm (e :: q) := by
  obtain ⟨ahead, behind, hq, hins, -, -⟩ := vtqInsert_split e q
  rw [hins, hq]
  exact List.perm_middle

theorem originCount_vtqInsert (e : QEntry) (q : List QEntry) (o : Origin) :
    originCount (vtqInsert e q) o = originCount q o + if e.origin = o then 1 else 0 := by
  rw [← originCount_cons, originCount, (vtqInsert_perm e q).countP_eq]
  rfl

theorem originCount_dropFirst {p : QEntry → Bool} {o : Origin} (hp : ∀ e, p e = true → e.origin ≠ o)
    (q : List QEntry) : originCount (dropFirst p q) o = originCount q o := by
  induction q with
  | nil => rfl
  | cons x xs ih =>
    unfold dropFirst
    split
    · next hx => simp [originCount_cons, hp x hx]
    · simp [originCount_cons, ih]

/-! ## The parts of the law -/

/-- The DUQ holds at most one notice of each type, and only what belongs there. -/
def DuqLaw (q : List QEntry) : Prop :=
  (∀ t, originCount q (.notice t) ≤ 1) ∧ ∀ e ∈ q, urgentOrigin e.origin = true

/-- The VTQ keeps its capacity, its order and its kinds; only the head is in flight. -/
def VtqLaw (q : List QEntry) : Prop :=
  q.length ≤ 8 ∧ (∀ e ∈ q.tail, e.inFlight = false) ∧ PriorityOrder q ∧
    ∀ e ∈ q, vehicleOrigin e.origin = true

/-- One result REPLY at most, and one BUSY REPLY, while the Management Unit awaits them. -/
def ReplyLaw (vtq duq : List QEntry) (phase : MuPhase) (busy : Bool) : Prop :=
  originCount duq .resultReply + originCount vtq .resultReply ≤ (if phase = .replyQueued then 1 else 0) ∧
    originCount duq .busyReply ≤ (if busy then 1 else 0)

theorem queueLaw_iff {s : State} : QueueLaw s ↔
    VtqLaw s.run.queues.vtq ∧ s.run.queues.drq.length ≤ 24 ∧ DuqLaw s.run.queues.duq ∧
      ReplyLaw s.run.queues.vtq s.run.queues.duq s.run.mu.phase s.run.mu.busyQueued := by
  unfold QueueLaw VtqLaw DuqLaw ReplyLaw
  constructor
  · rintro ⟨hvtq, hdrq, htail, horder, hnotices, hresult, hbusy, hurgent, hvehicle⟩
    exact ⟨⟨hvtq, htail, horder, hvehicle⟩, hdrq, ⟨hnotices, hurgent⟩, hresult, hbusy⟩
  · rintro ⟨⟨hvtq, htail, horder, hvehicle⟩, hdrq, ⟨hnotices, hurgent⟩, hresult, hbusy⟩
    exact ⟨hvtq, hdrq, htail, horder, hnotices, hresult, hbusy, hurgent, hvehicle⟩

theorem ReplyLaw.of_replies {vtq duq duq' : List QEntry} {p : MuPhase} {b : Bool}
    (h : repliesOf duq' = repliesOf duq) (hs : ReplyLaw vtq duq p b) : ReplyLaw vtq duq' p b := by
  unfold ReplyLaw
  rw [originCount_eq_of_replies (by simp) h, originCount_eq_of_replies (by simp) h]
  exact hs

/-! ## The VTQ -/

theorem VtqLaw.insert {q : List QEntry} {e : QEntry} (h : VtqLaw q) (hroom : q.length < 8)
    (hwaits : e.inFlight = false) (hkind : vehicleOrigin e.origin = true) : VtqLaw (vtqInsert e q) := by
  obtain ⟨-, htail, horder, hkinds⟩ := h
  refine ⟨?_, vtqInsert_tail_waiting hwaits htail, vtqInsert_priorityOrder hwaits horder, fun x hx => ?_⟩
  · rw [(vtqInsert_perm e q).length_eq]
    exact hroom
  · rcases mem_vtqInsert.1 hx with rfl | hx
    · exact hkind
    · exact hkinds x hx

theorem tail_sublist_of_sublist {α : Type} {l l' : List α} (h : l'.Sublist l) : l'.tail.Sublist l.tail := by
  cases h with
  | slnil => exact .slnil
  | cons a h => exact (List.tail_sublist _).trans h
  | cons_cons a h => exact h

theorem VtqLaw.sublist {q q' : List QEntry} (h : VtqLaw q) (hsub : q'.Sublist q) : VtqLaw q' :=
  ⟨hsub.length_le.trans h.1, fun e he => h.2.1 e ((tail_sublist_of_sublist hsub).mem he),
    h.2.2.1.sublist (hsub.filter _), fun e he => h.2.2.2 e (hsub.mem he)⟩

/-- A waiting frame replaced at an equal priority leaves what the order is made of. -/
theorem replaceFrame_shape {o : Origin} {f : NoticeFrames} {q : List QEntry} {old : QEntry}
    (hold : q.find? (waitingOf o) = some old) (hprio : old.frame0.prio = f.1.prio) :
    (replaceFrame o f q).map (fun e => (e.inFlight, e.frame0.prio)) = q.map fun e => (e.inFlight, e.frame0.prio) := by
  induction q with
  | nil => rfl
  | cons x xs ih =>
    unfold replaceFrame
    by_cases hx : waitingOf o x = true
    · obtain rfl : x = old := by simpa [List.find?_cons, hx] using hold
      simp [hx, ← hprio]
    · have hrest : xs.find? (waitingOf o) = some old := by simpa [List.find?_cons, hx] using hold
      simp [hx, ih hrest]

theorem priorityOrder_iff_shape (q : List QEntry) : PriorityOrder q ↔
    (((q.map fun e => (e.inFlight, e.frame0.prio)).filter fun x => !x.1).map Prod.snd).Pairwise (· ≤ ·) := by
  simp [PriorityOrder, List.filter_map, List.pairwise_map, Function.comp_def]

theorem tail_waiting_iff_shape (q : List QEntry) : (∀ e ∈ q.tail, e.inFlight = false) ↔
    ∀ x ∈ (q.map fun e => (e.inFlight, e.frame0.prio)).tail, x.1 = false := by
  simp [← List.map_tail]

/-- The law of the VTQ reads of each entry its origin, its mark and its priority. -/
theorem VtqLaw.of_shape {q q' : List QEntry} (h : VtqLaw q)
    (hshape : q'.map (fun e => (e.inFlight, e.frame0.prio)) = q.map fun e => (e.inFlight, e.frame0.prio))
    (horigins : q'.map QEntry.origin = q.map QEntry.origin) : VtqLaw q' := by
  obtain ⟨hlen, htail, horder, hkinds⟩ := h
  refine ⟨?_, ?_, ?_, origins_forall (p := fun o => vehicleOrigin o = true) horigins hkinds⟩
  · simpa using (congrArg List.length horigins).trans_le (by simpa using hlen)
  · rwa [tail_waiting_iff_shape, hshape, ← tail_waiting_iff_shape]
  · rwa [priorityOrder_iff_shape, hshape, ← priorityOrder_iff_shape]

theorem vtqNew_eq_some {e : QEntry} {q q' : List QEntry} :
    vtqNew e q = some q' ↔ q.length < 8 ∧ q' = vtqInsert e q := by
  unfold vtqNew
  have hcapacity : Config.vtqCapacity = 8 := rfl
  rw [hcapacity]
  split
  · next h => simp [h, eq_comm]
  · next h => simp [h]

/-- A copy or a broadcast that finds its place. -/
theorem VtqLaw.relayed {q q' : List QEntry} {e : QEntry} {replaces : Bool} (h : VtqLaw q) (he : Relayed e)
    (hq : (if replaces then vtqLatest e q else vtqNew e q) = some q') :
    VtqLaw q' ∧ originCount q' .resultReply = originCount q .resultReply := by
  obtain ⟨hwaits, hkind⟩ := he
  have hvehicle : vehicleOrigin e.origin = true := by rcases hkind with ho | ⟨n, ho⟩ <;> simp [ho, vehicleOrigin]
  have hother : e.origin ≠ .resultReply := by rcases hkind with ho | ⟨n, ho⟩ <;> simp [ho]
  have hnew : vtqNew e q = some q' → VtqLaw q' ∧ originCount q' .resultReply = originCount q .resultReply := by
    rw [vtqNew_eq_some]
    rintro ⟨hroom, rfl⟩
    exact ⟨h.insert hroom hwaits hvehicle, by simp [originCount_vtqInsert, hother]⟩
  split at hq
  · unfold vtqLatest at hq
    split at hq
    · next old hold =>
      split at hq
      · next hprio =>
        cases hq
        exact ⟨h.of_shape (replaceFrame_shape hold hprio) (replaceFrame_origins _ _ _),
          originCount_eq_of_origins (replaceFrame_origins _ _ _) _⟩
      · cases hq
        have hfound := List.find?_some hold
        have hany : q.any (waitingOf e.origin) = true :=
          List.any_eq_true.2 ⟨old, List.mem_of_find?_eq_some hold, hfound⟩
        have hlen := dropFirst_length hany
        have hfew := h.1
        have hdropped := h.sublist (dropFirst_sublist (waitingOf e.origin) q)
        refine ⟨hdropped.insert (by omega) hwaits hvehicle, ?_⟩
        rw [originCount_vtqInsert, if_neg hother, add_zero]
        refine originCount_dropFirst (fun x hx ho => hother ?_) q
        simp only [waitingOf, Bool.and_eq_true, decide_eq_true_eq] at hx
        exact hx.1.symm.trans ho
    · exact hnew hq
  · exact hnew hq

/-- The head begun or gone on with. -/
theorem VtqLaw.head {e e' : QEntry} {rest : List QEntry} (h : VtqLaw (e :: rest)) (he : HeadStep e e') :
    VtqLaw (e' :: rest) := by
  obtain ⟨hlen, htail, horder, hkinds⟩ := h
  obtain ⟨horigin, hframe, hflying⟩ := he
  obtain ⟨hhead, hrest⟩ := priorityOrder_cons.1 horder
  refine ⟨hlen, htail, priorityOrder_cons.2 ⟨fun hwaits => ?_, hrest⟩, List.forall_mem_cons.2 ⟨?_, ?_⟩⟩
  · rw [hframe]
    exact hhead (by cases hf : e.inFlight <;> simp_all)
  · rw [horigin]
    exact hkinds e List.mem_cons_self
  · exact fun x hx => hkinds x (List.mem_cons_of_mem _ hx)

/-! ## The DUQ -/

theorem DuqLaw.placeNotice {q : Queues} (h : DuqLaw q.duq) (k : NoticeType) (f : NoticeFrames) :
    DuqLaw (q.placeNotice k f).duq := by
  unfold Queues.placeNotice
  split
  · split
    · rwa [setPending_duq]
    · have horigins := replaceFrame_origins (.notice k) f q.duq
      exact ⟨fun t => (originCount_eq_of_origins horigins _).trans_le (h.1 t),
        origins_forall (p := fun o => urgentOrigin o = true) horigins h.2⟩
  · next hnone =>
    refine ⟨fun t => ?_, fun e he => ?_⟩
    · rw [originCount_append, originCount_singleton]
      by_cases ht : t = k
      · subst ht
        have hzero : originCount q.duq (.notice t) = 0 := by
          simpa [originCount, List.countP_eq_zero, List.find?_eq_none] using hnone
        simp [hzero, newEntry]
      · simpa [newEntry, Ne.symm ht] using h.1 t
    · rcases List.mem_append.1 he with he | he
      · exact h.2 e he
      · obtain rfl := List.mem_singleton.1 he
        rfl

theorem DuqLaw.cons {e e' : QEntry} {rest : List QEntry} (h : DuqLaw (e :: rest)) (he : e'.origin = e.origin) :
    DuqLaw (e' :: rest) := by
  refine ⟨fun t => ?_, List.forall_mem_cons.2 ⟨he ▸ h.2 e List.mem_cons_self, fun x hx =>
    h.2 x (List.mem_cons_of_mem _ hx)⟩⟩
  rw [originCount_cons, he, ← originCount_cons]
  exact h.1 t

theorem DuqLaw.tail {e : QEntry} {rest : List QEntry} (h : DuqLaw (e :: rest)) : DuqLaw rest := by
  refine ⟨fun t => le_trans ?_ (h.1 t), fun x hx => h.2 x (List.mem_cons_of_mem _ hx)⟩
  rw [originCount_cons]
  omega

/-- A REPLY joins the DUQ. -/
theorem DuqLaw.reply {q : List QEntry} (h : DuqLaw q) {e : QEntry} (hnotice : ∀ k, e.origin ≠ .notice k)
    (hurgent : urgentOrigin e.origin = true) : DuqLaw (q ++ [e]) := by
  refine ⟨fun t => ?_, fun x hx => ?_⟩
  · rw [originCount_append, originCount_singleton, if_neg (hnotice t)]
    exact h.1 t
  · rcases List.mem_append.1 hx with hx | hx
    · exact h.2 x hx
    · obtain rfl := List.mem_singleton.1 hx
      exact hurgent

theorem duqRemoveHead_duq {q : Queues} {e : QEntry} {rest : List QEntry} (hq : q.duq = e :: rest) :
    q.duqRemoveHead.duq = rest ∨
      ∃ k f, e.origin = .notice k ∧ q.duqRemoveHead.duq = rest ++ [newEntry f (.notice k)] := by
  unfold Queues.duqRemoveHead
  rw [hq]
  dsimp only
  split
  · next k hk =>
    split
    · next f hf => exact .inr ⟨k, f, hk, setPending_duq _ _ _⟩
    · exact .inl rfl
  all_goals exact .inl rfl

theorem duqRemoveHead_vtq (q : Queues) : q.duqRemoveHead.vtq = q.vtq := by
  unfold Queues.duqRemoveHead
  split
  · rfl
  · dsimp only
    split
    · split
      · exact setPending_vtq _ _ _
      · rfl
    all_goals rfl

theorem duqRemoveHead_drq (q : Queues) : q.duqRemoveHead.drq = q.drq := by
  unfold Queues.duqRemoveHead
  split
  · rfl
  · dsimp only
    split
    · split
      · exact setPending_drq _ _ _
      · rfl
    all_goals rfl

theorem DuqLaw.removeHead {q : Queues} (h : DuqLaw q.duq) {e : QEntry} {rest : List QEntry} (hq : q.duq = e :: rest) :
    DuqLaw q.duqRemoveHead.duq := by
  rw [hq] at h
  rcases duqRemoveHead_duq hq with hrest | ⟨k, f, hk, hnext⟩
  · rw [hrest]
    exact h.tail
  · rw [hnext]
    refine ⟨fun t => ?_, fun x hx => ?_⟩
    · have hone := h.1 t
      rw [originCount_cons, hk] at hone
      rw [originCount_append, originCount_singleton]
      exact hone
    · rcases List.mem_append.1 hx with hx | hx
      · exact h.tail.2 x hx
      · obtain rfl := List.mem_singleton.1 hx
        rfl

/-- A REPLY leaves the DUQ with its head alone. -/
theorem duqRemoveHead_count {q : Queues} {e : QEntry} {rest : List QEntry} (hq : q.duq = e :: rest) {o : Origin}
    (ho : ∀ k, o ≠ .notice k) :
    originCount q.duqRemoveHead.duq o + (if e.origin = o then 1 else 0) = originCount q.duq o := by
  rw [hq, originCount_cons]
  rcases duqRemoveHead_duq hq with hrest | ⟨k, f, hk, hnext⟩
  · rw [hrest]
  · rw [hnext, originCount_append, originCount_singleton, if_neg (show (newEntry f (.notice k)).origin ≠ o from (ho k).symm),
      add_zero]

/-! ## The warnings path -/

/-- `t` keeps the law of the DUQ that `s` keeps. -/
def KeepsDuq (s t : State) : Prop := DuqLaw s.run.queues.duq → DuqLaw t.run.queues.duq

namespace KeepsDuq

theorem of_queues_eq {s t : State} (h : t.run.queues = s.run.queues) : KeepsDuq s t := by
  unfold KeepsDuq
  rw [h]
  exact id

theorem refl (s : State) : KeepsDuq s s := id

theorem trans {s t u : State} (h : KeepsDuq s t) (h' : KeepsDuq t u) : KeepsDuq s u := fun hs => h' (h hs)

end KeepsDuq

theorem placeNotice_keepsDuq (k : NoticeType) (s : State) : KeepsDuq s (placeNotice k s) := fun hs => hs.placeNotice _ _

theorem noticeIfOn_keepsDuq (k : NoticeType) (s : State) : KeepsDuq s (noticeIfOn k s) := by
  unfold noticeIfOn
  split
  · exact placeNotice_keepsDuq k s
  · exact .refl s

theorem telltaleIfChanged_keepsDuq (before s : State) : KeepsDuq s (telltaleIfChanged before s) := by
  unfold telltaleIfChanged
  split
  · exact .refl s
  · exact noticeIfOn_keepsDuq _ s

theorem telltaleChange_keepsDuq (j : Nat) (old now : CondState) (s : State) :
    KeepsDuq s (telltaleChange j old now s).1 := by
  unfold telltaleChange
  split
  · exact .refl s
  · refine .trans (.of_queues_eq ?_) (telltaleIfChanged_keepsDuq s _)
    rw [driveLamps_queues, refreshBlink_queues, chimeOf_queues, setAlerts_queues]

theorem takeTask_keepsDuq (t : Task) (s : State) : KeepsDuq s (takeTask t s).1 := by
  cases t with
  | evaluate j => exact .of_queues_eq (evaluateFrom_queues s j id)
  | release j => exact .of_queues_eq (evaluateFrom_queues s j unlatch)
  | changed j old now => exact (telltaleChange_keepsDuq j old now s).trans (.of_queues_eq (releaseEvicted_queues _ _))

theorem cascade_keepsDuq (fuel : Nat) (ts : List Task) (s : State) : KeepsDuq s (cascade fuel ts s) := by
  induction fuel generalizing ts s with
  | zero => exact .refl s
  | succ n ih =>
    cases ts with
    | nil => exact .refl s
    | cons t ts => exact (takeTask_keepsDuq t s).trans (ih _ _)

theorem runTasks_keepsDuq (ts : List Task) (s : State) : KeepsDuq s (runTasks ts s) := cascade_keepsDuq _ ts s

theorem telltaleRedriven_keepsDuq (before : State) (l : List Alert) (s : State) :
    KeepsDuq s (telltaleIfChanged before (driveLamps (refreshBlink (setAlerts l s)))) := by
  refine .trans (.of_queues_eq ?_) (telltaleIfChanged_keepsDuq before _)
  rw [driveLamps_queues, refreshBlink_queues, setAlerts_queues]

theorem acknowledge_keepsDuq (found : Option Nat) (s : State) : KeepsDuq s (acknowledge found s) := by
  cases found with
  | none => exact .refl s
  | some j =>
    refine .trans ?_ (telltaleRedriven_keepsDuq s _ _)
    exact .trans (.of_queues_eq (setAlerts_queues _ s)) (runTasks_keepsDuq _ _)

theorem abandonConditions_keepsDuq (s : State) : KeepsDuq s (abandonConditions s) := by
  have hone (t : State) (j : Nat) : KeepsDuq t (abandonCondition t j) := by
    unfold abandonCondition
    dsimp only
    split
    · exact .of_queues_eq rfl
    · exact telltaleChange_keepsDuq j _ _ (putCondRec t j { state := .inactive, remembered := false, timer := none })
  unfold abandonConditions
  generalize List.range 64 = conditions
  exact foldl_keeps (P := KeepsDuq s) (fun t j ht => ht.trans (hone t j)) conditions (.of_queues_eq rfl)

/-! ## The law through a change -/

theorem QueueLaw.of_warnings {s t : State} (h : WarningsOnly s t) (hduq : KeepsDuq s t) :
    Preserves QueueLaw s t := by
  unfold Preserves
  rw [queueLaw_iff, queueLaw_iff]
  rintro ⟨hvtq, hdrq, hurgent, hreplies⟩
  refine ⟨h.vtq ▸ hvtq, h.drq ▸ hdrq, hduq hurgent, ?_⟩
  rw [h.vtq, h.mu]
  exact hreplies.of_replies h.2

theorem QueueLaw.of_same {s t : State} (hqueues : t.run.queues = s.run.queues)
    (hphase : t.run.mu.phase = s.run.mu.phase) (hbusy : t.run.mu.busyQueued = s.run.mu.busyQueued) :
    Preserves QueueLaw s t := by
  unfold Preserves
  rw [queueLaw_iff, queueLaw_iff, hqueues, hphase, hbusy]
  exact id

theorem QueueLaw.empty {s : State} (h : s.run.queues = Queues.initial) : QueueLaw s :=
  queueLaw_iff.2 (by
    rw [h]
    simp [Queues.initial, VtqLaw, DuqLaw, ReplyLaw, PriorityOrder, originCount])

/-- A REPLY that has left its queue is reported. -/
theorem QueueLaw.replyLeft {s : State} {o : Origin} (hvtq : VtqLaw s.run.queues.vtq)
    (hdrq : s.run.queues.drq.length ≤ 24) (hduq : DuqLaw s.run.queues.duq)
    (hresult : originCount s.run.queues.duq .resultReply + originCount s.run.queues.vtq .resultReply +
      (if o = .resultReply then 1 else 0) ≤ (if s.run.mu.phase = .replyQueued then 1 else 0))
    (hbusy : originCount s.run.queues.duq .busyReply + (if o = .busyReply then 1 else 0) ≤
      (if s.run.mu.busyQueued then 1 else 0)) : QueueLaw (replyLeft o s) := by
  rw [queueLaw_iff, ReplyLaw]
  cases o
  case resultReply =>
    have hphase : s.run.mu.phase = .replyQueued := by
      by_contra hne
      simp [hne] at hresult
    simp only [hphase, if_true] at hresult
    simp only [Machine.replyLeft, hphase, if_true]
    refine ⟨hvtq, hdrq, hduq, ?_, by simpa using hbusy⟩
    simp only [reduceCtorEq, if_false]
    omega
  case busyReply =>
    rw [if_pos rfl] at hbusy
    rw [if_neg (by simp)] at hresult
    simp only [Machine.replyLeft, Bool.false_eq_true, if_false]
    refine ⟨hvtq, hdrq, hduq, hresult, ?_⟩
    split at hbusy <;> omega
  all_goals
    rw [if_neg (by simp)] at hresult hbusy
    exact ⟨hvtq, hdrq, hduq, hresult, hbusy⟩

/-- SHUTDOWN entry removes entries of the VTQ: a removed result REPLY ends the command in progress, and nothing
else changes. -/
theorem reportRemoved_cases {removed : List QEntry} (s : State) (h : ∀ e ∈ removed, vehicleOrigin e.origin = true) :
    let ends := s.run.mu.phase = .replyQueued ∧ ∃ e ∈ removed, e.origin = .resultReply
    (ends → reportRemoved removed s = { s with run.mu.phase := .idle, run.mu.cmd := none }) ∧
      (¬ ends → reportRemoved removed s = s) := by
  induction removed generalizing s with
  | nil => simp [reportRemoved]
  | cons e rest ih =>
    obtain ⟨he, hrest⟩ := List.forall_mem_cons.1 h
    have hnext : reportRemoved (e :: rest) s = reportRemoved rest (replyLeft e.origin s) := rfl
    rw [hnext]
    cases ho : e.origin
    case resultReply =>
      by_cases hphase : s.run.mu.phase = .replyQueued
      · have hidle := (ih { s with run.mu.phase := .idle, run.mu.cmd := none } hrest).2 (by simp)
        simpa [Machine.replyLeft, hphase, ho] using hidle
      · simpa [Machine.replyLeft, hphase] using ih s hrest
    case busyReply => simp [ho, vehicleOrigin] at he
    case notice => simp [ho, vehicleOrigin] at he
    all_goals simpa [Machine.replyLeft, ho] using ih s hrest

theorem originCount_filter_add (p : QEntry → Bool) (q : List QEntry) (o : Origin) :
    originCount (q.filter p) o + originCount (q.filter fun e => !p e) o = originCount q o := by
  induction q with
  | nil => rfl
  | cons e q ih =>
    cases hp : p e <;> simp [hp, originCount_cons] <;> omega

theorem originCount_pos {q : List QEntry} {o : Origin} (h : ∃ e ∈ q, e.origin = o) : 1 ≤ originCount q o := by
  simpa [originCount, Nat.succ_le_iff, List.countP_pos_iff] using h

theorem emptyQueues_law (s : State) : Preserves QueueLaw s (emptyQueues s) := by
  intro hs
  obtain ⟨hvtq, hdrq, hduq, hresult, hbusy⟩ := queueLaw_iff.1 hs
  unfold emptyQueues
  dsimp only
  generalize finishes s.run.vli.sending.isSome = keep
  have hsplit := originCount_filter_add keep s.run.queues.vtq .resultReply
  have hkept := hvtq.sublist (List.filter_sublist (p := keep))
  have hfew := (List.length_filter_le QEntry.inFlight s.run.queues.drq).trans hdrq
  obtain ⟨hends, hstays⟩ := reportRemoved_cases (removed := s.run.queues.vtq.filter fun e => !keep e)
    { s with run.queues.vtq := s.run.queues.vtq.filter keep, run.queues.drq := s.run.queues.drq.filter QEntry.inFlight }
    fun e he => hvtq.2.2.2 e (List.mem_of_mem_filter he)
  by_cases hleft : s.run.mu.phase = .replyQueued ∧
      ∃ e ∈ s.run.queues.vtq.filter (fun e => !keep e), e.origin = .resultReply
  · rw [hends hleft]
    have hpos := originCount_pos hleft.2
    rw [if_pos hleft.1] at hresult
    refine queueLaw_iff.2 ⟨hkept, hfew, hduq, ?_, hbusy⟩
    simp only [reduceCtorEq, if_false]
    omega
  · rw [hstays hleft]
    exact queueLaw_iff.2 ⟨hkept, hfew, hduq, by dsimp only; omega, hbusy⟩

/-! ## The law through every step -/

theorem queue_core : Core (Preserves QueueLaw) where
  refl _ := id
  trans h h' hs := h' (h hs)
  aside h := .of_same h.queues h.muPhase h.busyQueued
  freeFlag _ v s := .of_same (putFlag_queues s _ v) (by rw [putFlag_mu]) (by rw [putFlag_mu])
  notice k s := .of_warnings (placeNotice_frame k s) (placeNotice_keepsDuq k s)
  watch _ s := .of_warnings (runTasks_frame _ s) (runTasks_keepsDuq _ s)
  delay {s j _ r} _ _ := .of_warnings (changeCondition_frame j r s)
    (runTasks_keepsDuq _ (putCondRec s j r))
  acknowledge found s := .of_warnings (acknowledge_frame found s) (acknowledge_keepsDuq found s)
  chime _ := .of_same rfl rfl rfl
  alertTimes _ _ := .of_same rfl rfl rfl
  condTimes _ := .of_same rfl rfl rfl
  relayed {s _ _} _ he hq hs := by
    obtain ⟨hvtq, hdrq, hduq, hresult, hbusy⟩ := queueLaw_iff.1 hs
    obtain ⟨hplaced, hcount⟩ := hvtq.relayed he hq
    exact queueLaw_iff.2 ⟨hplaced, hdrq, hduq, by rwa [hcount], hbusy⟩
  drq hlen hs := by
    obtain ⟨hvtq, hdrq, hduq, hreplies⟩ := queueLaw_iff.1 hs
    exact queueLaw_iff.2 ⟨hvtq, hlen hdrq, hduq, hreplies⟩
  vtqHead hq he hs := by
    obtain ⟨hvtq, hdrq, hduq, hresult, hbusy⟩ := queueLaw_iff.1 hs
    rw [hq] at hvtq hresult
    refine queueLaw_iff.2 ⟨hvtq.head he, hdrq, hduq, ?_, hbusy⟩
    rwa [originCount_cons, he.1, ← originCount_cons]
  vtqPopped hq hs := by
    obtain ⟨hvtq, hdrq, hduq, hresult, hbusy⟩ := queueLaw_iff.1 hs
    rw [hq] at hvtq hresult
    have hkind := hvtq.2.2.2 _ List.mem_cons_self
    refine .replyLeft (hvtq.sublist (List.sublist_cons_self _ _)) hdrq hduq ?_ ?_
    · rwa [originCount_cons, ← add_assoc] at hresult
    · rw [if_neg (by rintro ho; simp [ho, vehicleOrigin] at hkind)]
      exact hbusy
  duqHead hq he hs := by
    obtain ⟨hvtq, hdrq, hduq, hresult, hbusy⟩ := queueLaw_iff.1 hs
    rw [hq] at hduq hresult hbusy
    refine queueLaw_iff.2 ⟨hvtq, hdrq, hduq.cons he, ?_, ?_⟩
    · rwa [originCount_cons, he, ← originCount_cons]
    · rwa [originCount_cons, he, ← originCount_cons]
  duqPopped {s e rest} hq hs := by
    obtain ⟨hvtq, hdrq, hduq, hresult, hbusy⟩ := queueLaw_iff.1 hs
    have hresults := duqRemoveHead_count hq (o := .resultReply) (by simp)
    have hbusies := duqRemoveHead_count hq (o := .busyReply) (by simp)
    refine .replyLeft ?_ ?_ (hduq.removeHead hq) ?_ ?_
    · rwa [duqRemoveHead_vtq]
    · rwa [duqRemoveHead_drq]
    · rw [duqRemoveHead_vtq]
      dsimp only
      omega
    · dsimp only
      omega
  emptied := emptyQueues_law
  muPhase hold hnew hs := by
    obtain ⟨hvtq, hdrq, hduq, hresult, hbusy⟩ := queueLaw_iff.1 hs
    rw [if_neg hold] at hresult
    exact queueLaw_iff.2 ⟨hvtq, hdrq, hduq, by rwa [if_neg hnew], hbusy⟩
  replyAwaited s hs := by
    obtain ⟨hvtq, hdrq, hduq, hresult, hbusy⟩ := queueLaw_iff.1 hs
    refine queueLaw_iff.2 ⟨hvtq, hdrq, hduq, hresult.trans ?_, hbusy⟩
    dsimp only
    split <;> simp
  replyDropped {s t} hphase hsame ht hs := by
    obtain ⟨hvtq, hdrq, hduq, -, hbusy⟩ := queueLaw_iff.1 (ht hs)
    obtain ⟨-, -, -, hresult, -⟩ := queueLaw_iff.1 hs
    rw [if_neg hphase] at hresult
    refine queueLaw_iff.2 ⟨hvtq, hdrq, hduq, ?_, hbusy⟩
    rw [hsame.1, originCount_eq_of_replies (by simp) hsame.2]
    exact hresult
  replyVtq hphase ho hwaits hq hs := by
    obtain ⟨hvtq, hdrq, hduq, hresult, hbusy⟩ := queueLaw_iff.1 hs
    obtain ⟨hroom, rfl⟩ := vtqNew_eq_some.1 hq
    rw [if_neg hphase] at hresult
    refine queueLaw_iff.2 ⟨hvtq.insert hroom hwaits (by rw [ho]; rfl), hdrq, hduq, ?_, hbusy⟩
    rw [originCount_vtqInsert, if_pos ho]
    dsimp only
    rw [if_pos rfl]
    omega
  replyDuq hphase ho hs := by
    obtain ⟨hvtq, hdrq, hduq, hresult, hbusy⟩ := queueLaw_iff.1 hs
    rw [if_neg hphase] at hresult
    refine queueLaw_iff.2 ⟨hvtq, hdrq, hduq.reply (by simp [ho]) (by rw [ho]; rfl), ?_, ?_⟩
    · rw [originCount_append, originCount_singleton, if_pos ho]
      dsimp only
      rw [if_pos rfl]
      omega
    · rwa [originCount_append, originCount_singleton, ho]
  busyPlaced hbusyFree ho hs := by
    obtain ⟨hvtq, hdrq, hduq, hresult, hbusy⟩ := queueLaw_iff.1 hs
    rw [hbusyFree] at hbusy
    refine queueLaw_iff.2 ⟨hvtq, hdrq, hduq.reply (by simp [ho]) (by rw [ho]; rfl), ?_, ?_⟩
    · rwa [originCount_append, originCount_singleton, ho]
    · rw [originCount_append, originCount_singleton, if_pos ho]
      dsimp only
      simp only [Bool.false_eq_true, if_false] at hbusy
      simp only [if_true]
      omega
  internal _ := .of_same rfl rfl rfl
  rebound _ := .of_same rfl rfl rfl
  minute _ := .of_same rfl rfl rfl
  loaded _ _ _ _ _ _ := .of_same rfl rfl rfl
  channels _ _ := .of_same rfl rfl rfl
  drive _ _ := .of_same rfl rfl rfl
  loads _ _ _ := .of_same rfl rfl rfl
  lampCheckTick _ := .of_same rfl rfl rfl
  routeTimes _ _ := .of_same rfl rfl rfl
  freshened _ _ := .of_same rfl rfl rfl
  runs _ := .of_same rfl rfl rfl
  stored _ _ := .of_same rfl rfl rfl

theorem queue_leaves : Leaves (Preserves QueueLaw) where
  toCore := queue_core
  anyMode _ _ _ := .of_same rfl rfl rfl
  clocks _ _ _ _ := .of_same rfl rfl rfl
  anyFlag f _ s v := .of_same (putFlag_queues s f v) (by rw [putFlag_mu]) (by rw [putFlag_mu])
  input _ _ _ := .of_same rfl rfl rfl
  frameSignal _ := .of_same rfl rfl rfl
  route _ _ := .of_same rfl rfl rfl
  count _ _ := .of_same rfl rfl rfl
  tables _ _ := .of_same rfl rfl rfl
  noRoutes _ := .of_same rfl rfl rfl
  sampling _ _ := .of_same rfl rfl rfl
  stopped _ := .of_same rfl rfl rfl
  replaced _ s := queue_core.replaceParams_of (fun _ => .of_same rfl rfl rfl) (fun _ => .of_same rfl rfl rfl) s
  filtered s := .of_warnings (filterAlerts_frame s) (telltaleRedriven_keepsDuq s _ s)
  evaluated s := fun hs => QueueLaw.of_warnings (runTasks_frame _ _) (runTasks_keepsDuq _ _)
    (QueueLaw.of_same (s := s) rfl rfl rfl hs)
  abandoned s := by
    have hsame : Preserves QueueLaw s
        { s with run.cu.evaluating := false, run.tables.conds := Tables.initial.conds } := .of_same rfl rfl rfl
    exact fun hs => QueueLaw.of_warnings (abandonConditions_frame s) (abandonConditions_keepsDuq s) (hsame hs)
  checkOff _ := .of_same rfl rfl rfl
  placed _ := .of_same rfl rfl rfl
  restartedRun _ _ := .empty rfl
  initialRun _ _ := .empty rfl
  unpoweredRun _ _ := .empty rfl
  keepAlive _ _ _ := .empty rfl

/-- Settles O54: a change of the queues is a placement by its rule, a removal that is reported, or the
emptying at SHUTDOWN. -/
theorem queueLawIsKept : Obligations.QueueLawIsKept := fun _ _ hstep =>
  queue_leaves.outer.step (fun _ _ => .of_same rfl rfl rfl) hstep

end Sys2Proof.Machine
end

section
/-! PROOFS. The SERVICE interlock (R167), kept by every step. -/

namespace Sys2Proof.Machine

/-! ## The park brake and the road speed -/

theorem parkBrakeOn_iff {s : State} : parkBrakeOn s = true ↔
    ∃ n low long, n < 16 ∧ inputAt s n = some (.switch low long .parkBrake) ∧ (debounceAt s n).active = true := by
  simp only [parkBrakeOn, List.any_eq_true, List.mem_range]
  constructor
  · rintro ⟨n, hn, hactive⟩
    split at hactive
    · next low long hinput => exact ⟨n, low, long, hn, hinput, hactive⟩
    all_goals cases hactive
  · rintro ⟨n, low, long, hn, hinput, hactive⟩
    exact ⟨n, hn, by rw [hinput]; exact hactive⟩

theorem interlock_iff {s : State} : interlock s = true ↔
    parkBrakeOn s = true ∧ ∃ v, usableOpt s s.dtu.params.roadSpeed = some v ∧ v ≤ 50 := by
  unfold interlock
  cases usableOpt s s.dtu.params.roadSpeed <;> simp

/-- R105's range of the road-speed index. -/
def RoadSpeedRange (s : State) : Prop := ∀ i, s.dtu.params.roadSpeed = some i → i ≤ 159

/-- No road speed that is usable lies above 50 (R167). -/
def SlowOrUnknown (s : State) : Prop := ∀ v, usableOpt s s.dtu.params.roadSpeed = some v → v ≤ 50

theorem interlockLaw_iff {s : State} : InterlockLaw s ↔
    RoadSpeedRange s ∧ (s.mode = .service → parkBrakeOn s = true ∧ SlowOrUnknown s) := Iff.rfl

theorem RoadSpeedRange.of_params {s t : State} (h : t.dtu.params = s.dtu.params) : Preserves RoadSpeedRange s t := by
  unfold Preserves RoadSpeedRange
  rw [h]
  exact id

theorem validate_roadSpeed (m : List Host.Cell) {i : Nat} (h : (validate m).params.roadSpeed = some i) : i ≤ 159 := by
  have hok := validate_driveOk m
  simp only [driveOk, Bool.and_eq_true] at hok
  obtain ⟨⟨⟨⟨⟨⟨⟨⟨⟨⟨⟨_, hroad⟩, _⟩, _⟩, _⟩, _⟩, _⟩, _⟩, _⟩, _⟩, _⟩, _⟩ := hok
  simpa [optAtMost, h] using hroad

theorem SameInterlock.parkBrakeOn {s t : State} (h : SameInterlock s t) : parkBrakeOn t = parkBrakeOn s := by
  obtain ⟨-, -, hinputs, htable, -⟩ := h
  simp only [Machine.parkBrakeOn, inputAt, debounceAt, hinputs, htable]

theorem usableAt_congr {s t : State} {i : Nat} (h : signalAt t i = signalAt s i) : usableAt t i = usableAt s i := by
  simp only [usableAt, h]

theorem SameInterlock.slow {s t : State} (h : SameInterlock s t) (hrange : RoadSpeedRange s) (hs : SlowOrUnknown s) :
    SlowOrUnknown t := by
  obtain ⟨-, hparams, -, -, hsignals⟩ := h
  intro v hv
  refine hs v ?_
  rw [hparams] at hv
  cases hroad : s.dtu.params.roadSpeed with
  | none => rwa [hroad] at hv
  | some i =>
    rw [hroad] at hv
    exact (usableAt_congr (hsignals i (hrange i hroad))).symm.trans hv

theorem SameInterlock.law {s t : State} (h : SameInterlock s t) : Preserves InterlockLaw s t := by
  rintro ⟨hrange, hservice⟩
  refine ⟨RoadSpeedRange.of_params h.2.1 hrange, fun hmode => ?_⟩
  obtain ⟨hbrake, hslow⟩ := hservice (h.1.symm.trans hmode)
  exact ⟨h.parkBrakeOn.trans hbrake, h.slow hrange hslow⟩

/-- Outside SERVICE the index's range is the whole law. -/
theorem InterlockLaw.of_range {s : State} (hmode : s.mode ≠ .service) (h : RoadSpeedRange s) : InterlockLaw s :=
  ⟨h, fun hservice => absurd hservice hmode⟩

/-! ## The range of the index -/

theorem logActivity_params (old : Dtu) (slot : Nat) (t : Dtu) : (logActivity old slot t).params = t.params := by
  unfold logActivity
  split
  · rfl
  · split
    · split
      · rfl
      · rfl
    · rfl

theorem minuteDtu_params (s : State) : (minuteDtu s).params = s.dtu.params := by
  unfold minuteDtu
  rw [logActivity_params, logActivity_params]

theorem loadedDtu_params (slot digest cont daily : Nat) (splitDone : Bool) (t : Dtu) :
    (loadedDtu slot digest cont daily splitDone t).params = t.params := by
  unfold loadedDtu
  dsimp only
  split
  · rw [logDriver_params]
    rfl
  · rfl

theorem Quiet.params {s t : State} (h : Quiet s t) : t.dtu.params = s.dtu.params := by
  rw [h.dtu]

theorem range_core : Core (Preserves RoadSpeedRange) :=
  .of_quiet (fun h => .of_params h.params) (fun h h' hs => h' (h hs)) (fun _ => .of_params rfl)
    (fun ht => .of_params (rebound_params ht)) (fun s => .of_params (minuteDtu_params s))
    (fun _ _ _ _ _ _ => .of_params (loadedDtu_params _ _ _ _ _ _)) (fun _ _ => .of_params rfl)
    (fun _ _ => .of_params rfl) (fun _ _ => .of_params rfl) (fun _ => .of_params rfl) fun _ _ => .of_params rfl

theorem range_leaves : Leaves (Preserves RoadSpeedRange) where
  toCore := range_core
  anyMode _ _ _ := .of_params rfl
  clocks _ _ _ _ := .of_params rfl
  anyFlag f _ s v := .of_params (by cases f <;> rfl)
  input _ _ _ := .of_params rfl
  frameSignal _ := .of_params rfl
  route _ _ := .of_params rfl
  count _ _ := .of_params rfl
  tables _ _ := .of_params rfl
  noRoutes _ := .of_params rfl
  sampling _ _ := .of_params rfl
  stopped _ := .of_params rfl
  replaced m s := range_core.replaceParams_of (fun _ _ _ hi => validate_roadSpeed m hi) (fun _ => .of_params rfl) s
  filtered s := .of_params (congrArg Dtu.params (filterAlerts_frame s).dtu)
  evaluated _ := .of_params (congrArg Dtu.params (runTasks_frame _ _).dtu)
  abandoned s := .of_params (congrArg Dtu.params (abandonConditions_frame s).dtu)
  checkOff _ := .of_params rfl
  placed _ := .of_params rfl
  restartedRun _ := .of_params rfl
  initialRun _ := .of_params rfl
  unpoweredRun _ := .of_params rfl
  keepAlive _ _ _ _ hi := nomatch hi

/-! ## The law through the small changes -/

theorem interlock_core : Core (Preserves InterlockLaw) :=
  .of_quiet
    (fun h => SameInterlock.law ⟨h.mode, h.params, h.inputs, congrArg Tables.inputs h.tables, fun k _ =>
      congrArg (fun l => l.getD k SigEntry.initial) h.signals⟩)
    (fun h h' hs => h' (h hs))
    (fun {s k e} he => by
      have hk : 160 ≤ k := by rcases he with ⟨rfl, -⟩ | ⟨slot, -, rfl, -⟩ <;> omega
      exact SameInterlock.law ⟨rfl, rfl, rfl, rfl, fun i hi => signalAt_putSignal s k i e (by omega)⟩)
    (fun ht => SameInterlock.law ⟨rfl, rebound_params ht, rfl, rfl, fun _ _ => rfl⟩)
    (fun s => SameInterlock.law ⟨rfl, minuteDtu_params s, rfl, rfl, fun _ _ => rfl⟩)
    (fun _ _ _ _ _ _ => SameInterlock.law ⟨rfl, loadedDtu_params _ _ _ _ _ _, rfl, rfl, fun _ _ => rfl⟩)
    (fun _ _ => SameInterlock.law ⟨rfl, rfl, rfl, rfl, fun _ _ => rfl⟩)
    (fun _ _ => SameInterlock.law ⟨rfl, rfl, rfl, rfl, fun _ _ => rfl⟩)
    (fun _ _ => SameInterlock.law ⟨rfl, rfl, rfl, rfl, fun _ _ => rfl⟩)
    (fun _ hs => .of_range (by simp) hs.1)
    (fun _ _ => SameInterlock.law ⟨rfl, rfl, rfl, rfl, fun _ _ => rfl⟩)

theorem interlock_put (f : FlagId) (s : State) (v : Bool) : Preserves InterlockLaw s (putFlag s f v) :=
  (putFlag_sameInterlock s f v).law

/-! ## The forced exit -/

theorem inRun_core : Core (Preserves fun s => s.mode = .run) :=
  .of_quiet (fun h hs => h.mode.trans hs) (fun h h' hs => h' (h hs)) (fun _ => id) (fun _ => id) (fun _ => id)
    (fun _ _ _ _ _ _ => id) (fun _ _ => id) (fun _ _ => id) (fun _ _ => id) (fun _ _ => rfl) (fun _ _ => id)

theorem forcedExit_mode {s : State} (hservice : s.mode = .service) : (forcedExit s).mode = .run :=
  inRun_core.forcedExit_left (u := { s with mode := .run }) hservice (putFlag_mode _ _ _).trans rfl

theorem forcedExit_of_ne {s : State} (h : s.mode ≠ .service) : forcedExit s = s := if_neg h

/-- After a forced exit the range of the index is the whole law. -/
theorem InterlockLaw.forcedExit {s : State} (h : RoadSpeedRange s) : InterlockLaw (forcedExit s) := by
  by_cases hservice : s.mode = .service
  · exact .of_range (by simp [forcedExit_mode hservice]) (range_leaves.forcedExit s h)
  · rw [forcedExit_of_ne hservice]
    exact .of_range hservice h

/-- An update of the road speed: above 50 it ends SERVICE. -/
theorem interlock_signalEvent {s t : State} {i : Nat} {e : SigEntry} (h : SameInterlock (putSignal s i e) t) :
    Preserves InterlockLaw s (roadSpeedEvent i t) := by
  rintro ⟨hrange, hservice⟩
  have hrange' : RoadSpeedRange t := RoadSpeedRange.of_params h.2.1 hrange
  have hparams : t.dtu.params = s.dtu.params := h.2.1
  have hkept : (∀ v, usableAt t i = some v → t.dtu.params.roadSpeed = some i → v ≤ 50) → InterlockLaw t := by
    refine fun hslow => ⟨hrange', fun hmode => ?_⟩
    obtain ⟨hbrake, hold⟩ := hservice (h.1.symm.trans hmode)
    refine ⟨h.parkBrakeOn.trans hbrake, fun v hv => ?_⟩
    cases hroad : t.dtu.params.roadSpeed with
    | none => simp [hroad, usableOpt] at hv
    | some k =>
      rw [hroad] at hv
      by_cases hk : k = i
      · subst hk
        exact hslow v hv hroad
      · refine hold v ?_
        rw [← hparams, hroad]
        exact (usableAt_congr ((h.2.2.2.2 k (hrange' k hroad)).trans (signalAt_putSignal s i k e hk))).symm.trans hv
  unfold roadSpeedEvent
  split
  · split
    · next v hv =>
      split
      · exact .forcedExit hrange'
      · next hslow =>
        refine hkept fun w hw _ => ?_
        obtain rfl : v = w := Option.some.inj (hv.symm.trans hw)
        omega
    · next hnone => exact hkept fun v hv _ => by simp [hnone] at hv
  · next hother => exact hkept fun v _ hroad => absurd hroad hother

/-! ## The inputs -/

theorem debounceAt_put (s : State) (n k : Nat) (d : Debounce) :
    debounceAt { s with run.iu.inputs := updAt s.run.iu.inputs n fun _ => d } k =
      if k = n ∧ k < s.run.iu.inputs.length then d else debounceAt s k := updAt_getD _ _ _ _ _

/-- An input's new state leaves the law alone unless it releases the park brake. -/
theorem interlock_input {s : State} {n : Nat} {low long : Bool} {role : Role} {d : Debounce}
    (hinput : inputAt s n = some (.switch low long role))
    (hd : role = .parkBrake → (debounceAt s n).active = true → d.active = true) :
    Preserves InterlockLaw s { s with run.iu.inputs := updAt s.run.iu.inputs n fun _ => d } := by
  rintro ⟨hrange, hservice⟩
  refine ⟨hrange, fun hmode => ?_⟩
  obtain ⟨hbrake, hslow⟩ := hservice hmode
  obtain ⟨k, low', long', hk, hrole, hactive⟩ := parkBrakeOn_iff.1 hbrake
  refine ⟨parkBrakeOn_iff.2 ⟨k, low', long', hk, hrole, ?_⟩, hslow⟩
  rw [debounceAt_put]
  split
  · next heq =>
    obtain ⟨rfl, -⟩ := heq
    rw [hinput] at hrole
    cases hrole
    exact hd rfl hactive
  · exact hactive

theorem debounceSample_cases (number : Nat) (d : Debounce) (sample : Bool) :
    ((debounceSample number d sample).2 = false ∧ (debounceSample number d sample).1.active = d.active) ∨
      ((debounceSample number d sample).2 = true ∧ (debounceSample number d sample).1.active = !d.active) := by
  unfold debounceSample
  split
  · exact .inl ⟨rfl, rfl⟩
  · next hne =>
    split
    · exact .inr ⟨rfl, by cases sample <;> simp_all⟩
    · exact .inl ⟨rfl, rfl⟩

theorem interlock_inputSample (n : Nat) (s : State) (level : Bool) :
    Preserves InterlockLaw s (inputSample n s level) := by
  refine interlock_core.ite fun _ => ?_
  split
  · next low long role hinput =>
    dsimp only
    have hcases := debounceSample_cases (debounceNumber long) (debounceAt s n) (level != low)
    generalize debounceSample (debounceNumber long) (debounceAt s n) (level != low) = sampled at hcases
    obtain ⟨d, edge⟩ := sampled
    rcases hcases with ⟨rfl, hsame⟩ | ⟨rfl, hflipped⟩
    · exact interlock_input hinput fun _ hactive => hsame.trans hactive
    · dsimp only at hflipped ⊢
      rw [if_pos rfl]
      by_cases hrelease : role = .parkBrake ∧ d.active = false
      · obtain ⟨rfl, hd⟩ := hrelease
        intro hs
        unfold inputEdge
        rw [hd]
        exact .forcedExit (range_core.watch _ _ hs.1)
      · have hput := interlock_input (d := d) hinput fun hrole hactive => by
          simp only [hrole, true_and, Bool.not_eq_false] at hrelease
          exact hrelease
        refine interlock_core.trans hput ?_
        have hconditions := interlock_core.watch (fun c => decide (c.source = .input n))
          { s with run.iu.inputs := updAt s.run.iu.inputs n fun _ => d }
        unfold inputEdge
        cases role with
        | general => exact hconditions
        | ackButton =>
          dsimp only
          split
          · exact interlock_core.trans hconditions (interlock_core.acknowledge _ _)
          · exact hconditions
        | parkBrake =>
          simp only [true_and, Bool.not_eq_false] at hrelease
          rw [hrelease]
          exact hconditions
  · exact id
  · exact id

/-! ## The law through every step -/

theorem interlock_enterService {s : State} (h : interlock s = true) : Preserves InterlockLaw s (enterService s) := by
  obtain ⟨hbrake, v, hv, hslow⟩ := interlock_iff.1 h
  refine interlock_core.enterService_entered ?_
  rintro ⟨hrange, -⟩
  refine interlock_put .service _ true ⟨hrange, fun _ => ⟨hbrake, fun w hw => ?_⟩⟩
  obtain rfl : v = w := Option.some.inj (hv.symm.trans hw)
  exact hslow

theorem interlock_kept : Kept (Preserves InterlockLaw) where
  toCore := interlock_core
  enterService _ h := interlock_enterService h
  setUnder := interlock_core.setUnder_of (interlock_put _)
  clearUnder := interlock_core.clearUnder_of (interlock_put _)
  setOver := interlock_core.setOver_of (interlock_put _)
  clearOver := interlock_core.clearOver_of (interlock_put _)
  forcedExit _ hs := .forcedExit hs.1
  signalEvent _ _ h := interlock_signalEvent h
  inputSample := interlock_inputSample
  supervised _ _ ht hs := interlock_core.superviseRoutes_of (interlock_put _) (interlock_put _) (interlock_put _) _
    (ht (SameInterlock.law ⟨rfl, rfl, rfl, rfl, fun _ _ => rfl⟩ hs))
  restart {s} levels hval := interlock_core.restart_of_restarted hval fun hs =>
    .of_range (by simp [restarted_mode]) (range_leaves.restarted levels s hs.1)

theorem interlock_outer : Outer (Preserves InterlockLaw) where
  refl _ := id
  trans h h' hs := h' (h hs)
  path _ hpath := hpath _ interlock_kept
  standby {s} _ hs := .of_range (by simp [enterStandby]) (range_leaves.enterStandby s hs.1)
  clocks _ _ _ _ := id
  asleepMinute _ := interlock_core.minuteEvent _
  shutdown h hs := .of_range (by simp [enterShutdown_mode]) (range_leaves.outer.shutdown h hs.1)
  warm h hs := .of_range (by simp [warmStart_mode]) (range_leaves.outer.warm h hs.1)
  cold h hs := .of_range (by simp [coldStart_mode]) (range_leaves.outer.cold h hs.1)
  reset straps s hs := .of_range (by simp [keepAliveReset, State.reset]) (range_leaves.keepAlive straps s hs.1)
  completes levels hval := interlock_kept.completeStartup_of hval fun s hmode _ hs =>
    .of_range (by simp [activate_mode, hmode]) (range_leaves.activate s.store levels s hs.1)

/-- Settles O57: SERVICE is entered with the interlock, and what would break it ends SERVICE. -/
theorem interlockLawIsKept : Obligations.InterlockLawIsKept := fun _ _ hstep =>
  interlock_outer.step (fun _ _ => SameInterlock.law ⟨rfl, rfl, rfl, rfl, fun _ _ => rfl⟩) hstep

end Sys2Proof.Machine
end

section
/-! PROOFS. The warnings path as a whole: what each of its small changes keeps, the conditions' cascade and
the acknowledgement keep. -/

namespace Sys2Proof.Machine

/-- The Alert Lists that the conditions, an acknowledgement and an activation put in force. -/
inductive AlertStep (s : State) : List Alert → Prop where
  | change {j : Nat} {c : Condition} (old now : CondState) (hc : condAt s j = some c) :
      AlertStep s (alertChange s c j old now).1
  | acked (j : Nat) : AlertStep s (markAcked j s.run.tu.alerts)
  | settled (j : Nat) : AlertStep s (dropSettled j s)
  | filtered : AlertStep s (alertFilter s)

/-- A relation that a condition's change keeps, at the Condition Unit and at the Tell-tale Unit. -/
structure Tasks (W : State → State → Prop) : Prop where
  refl : ∀ s, W s s
  trans : ∀ {s t u}, W s t → W t u → W s u
  record : ∀ s j r, W s (putCondRec s j r)
  change : ∀ j old now s, W s (telltaleChange j old now s).1

namespace Tasks

variable {W : State → State → Prop} (h : Tasks W)
include h

theorem evaluateFrom (s : State) (j : Nat) (base : CondRec → CondRec) : W s (evaluateFrom s j base).1 := by
  unfold Machine.evaluateFrom
  split
  · exact h.refl s
  · split
    · exact h.record s j _
    · exact h.refl s

theorem releaseEvicted (evicted : Option Nat) (s : State) : W s (releaseEvicted evicted s).1 := by
  unfold Machine.releaseEvicted
  split
  · split
    · exact h.evaluateFrom s _ unlatch
    · exact h.refl s
  · exact h.refl s

theorem takeTask (t : Task) (s : State) : W s (takeTask t s).1 := by
  cases t with
  | evaluate j => exact h.evaluateFrom s j id
  | release j => exact h.evaluateFrom s j unlatch
  | changed j old now => exact h.trans (h.change j old now s) (h.releaseEvicted _ _)

theorem cascade (fuel : Nat) (ts : List Task) (s : State) : W s (cascade fuel ts s) := by
  induction fuel generalizing ts s with
  | zero => exact h.refl s
  | succ n ih =>
    cases ts with
    | nil => exact h.refl s
    | cons t ts => exact h.trans (h.takeTask t s) (ih _ _)

theorem runTasks (ts : List Task) (s : State) : W s (runTasks ts s) := h.cascade _ ts s

theorem changeCondition (j : Nat) (r : CondRec) (s : State) : W s (changeCondition j r s) :=
  h.trans (h.record s j r) (h.runTasks _ _)

theorem abandonCondition (s : State) (j : Nat) : W s (abandonCondition s j) := by
  unfold Machine.abandonCondition
  dsimp only
  split
  · exact h.record s j _
  · exact h.trans (h.record s j _) (h.change _ _ _ _)

/-- R76's changes, condition by condition. -/
theorem abandonAll (l : List Nat) (s : State) : W s (l.foldl Machine.abandonCondition s) :=
  foldl_keeps (P := W s) (fun t j ht => h.trans ht (h.abandonCondition t j)) l (h.refl s)

end Tasks

/-- A relation that each small change of the warnings path keeps. -/
structure Warn (W : State → State → Prop) : Prop where
  refl : ∀ s, W s s
  trans : ∀ {s t u}, W s t → W t u → W s u
  notice : ∀ k s, W s (placeNotice k s)
  record : ∀ s j r, W s (putCondRec s j r)
  view : ∀ s j now, W s { s with run.tu.lamps := mapFrom (lampChange s j now) 0 s.run.tu.lamps }
  blink : ∀ s, W s (refreshBlink s)
  drive : ∀ s, W s (driveLamps s)
  alerts : ∀ {s l}, AlertStep s l → W s (setAlerts l s)
  request : ∀ p s, W s (chimeRequest p s)

/-- A relation that the Alert List and the chime have no part in needs no more than the rest of the path. -/
theorem Warn.of_free {W : State → State → Prop} (refl : ∀ s, W s s) (trans : ∀ {s t u}, W s t → W t u → W s u)
    (notice : ∀ k s, W s (placeNotice k s)) (record : ∀ s j r, W s (putCondRec s j r))
    (view : ∀ s j now, W s { s with run.tu.lamps := mapFrom (lampChange s j now) 0 s.run.tu.lamps })
    (blink : ∀ s, W s (refreshBlink s)) (drive : ∀ s, W s (driveLamps s))
    (free : ∀ l c s, W s { s with run.tu.alerts := l, run.tu.chime := c }) : Warn W where
  refl := refl
  trans := trans
  notice := notice
  record := record
  view := view
  blink := blink
  drive := drive
  alerts {s l} _ := by
    unfold setAlerts withdrawIfNone
    split
    · exact free l _ s
    · exact free l s.run.tu.chime s
  request p s := by
    unfold chimeRequest
    split
    · split
      · exact free s.run.tu.alerts _ s
      · exact free s.run.tu.alerts _ s
    · exact refl s

namespace Warn

variable {W : State → State → Prop} (h : Warn W)
include h

theorem noticeIfOn (k : NoticeType) (s : State) : W s (noticeIfOn k s) := by
  unfold Machine.noticeIfOn
  split
  · exact h.notice k s
  · exact h.refl s

theorem telltaleIfChanged (before s : State) : W s (telltaleIfChanged before s) := by
  unfold Machine.telltaleIfChanged
  split
  · exact h.refl s
  · exact h.noticeIfOn .telltale s

theorem chimeOf (c : Condition) (old now : CondState) (s : State) : W s (chimeOf c old now s) := by
  unfold Machine.chimeOf
  split
  · split
    · exact h.refl s
    · exact h.request .single s
    · exact h.request .triple s
  · exact h.refl s

theorem telltaleChange (j : Nat) (old now : CondState) (s : State) : W s (telltaleChange j old now s).1 := by
  unfold Machine.telltaleChange
  split
  · exact h.refl s
  · next c hc =>
    exact h.trans (h.trans (h.trans (h.trans (h.trans (h.view s j now) (h.alerts (.change old now hc))) (h.chimeOf _ _ _ _))
      (h.blink _)) (h.drive _)) (h.telltaleIfChanged s _)

theorem tasks : Tasks W := ⟨h.refl, h.trans, h.record, h.telltaleChange⟩

/-- The consequences of a changed Alert List. -/
theorem redriven (before : State) {l : List Alert} {s : State} (hl : AlertStep s l) :
    W s (Machine.telltaleIfChanged before (driveLamps (refreshBlink (setAlerts l s)))) :=
  h.trans (h.trans (h.trans (h.alerts hl) (h.blink _)) (h.drive _)) (h.telltaleIfChanged before _)

theorem acknowledge (found : Option Nat) (s : State) : W s (acknowledge found s) := by
  cases found with
  | none => exact h.refl s
  | some j => exact h.trans (h.trans (h.alerts (.acked j)) (h.tasks.runTasks _ _)) (h.redriven s (.settled j))

theorem filterAlerts (s : State) : W s (filterAlerts s) := h.redriven s .filtered

theorem flagDelivered (f : FlagId) (v : Bool) (s : State) :
    flagChange f v s = s ∨ W (putFlag s f v) (flagChange f v s) := by
  unfold flagChange
  split
  · exact .inl rfl
  · right
    dsimp only
    have hconditions := h.tasks.runTasks (watchers (putFlag s f v) fun c => decide (c.source = .flag f.number)) (putFlag s f v)
    refine h.trans ?_ (h.noticeIfOn .status _)
    split
    · exact h.trans hconditions (h.noticeIfOn .telltale _)
    · exact hconditions

end Warn

/-! ## What the warnings path leaves of a lamp -/

/-- The lamps keep their load states, open counts, forcings and pattern phases. -/
def SameLoads (s t : State) : Prop :=
  t.run.tu.lamps.map (fun r => (r.load, r.openCount, r.forced, r.lit)) =
    s.run.tu.lamps.map fun r => (r.load, r.openCount, r.forced, r.lit)

theorem SameLoads.of_lamps {s t : State} (h : t.run.tu.lamps = s.run.tu.lamps) : SameLoads s t := by
  unfold SameLoads
  rw [h]

theorem SameLoads.trans {s t u : State} (h : SameLoads s t) (h' : SameLoads t u) : SameLoads s u := Eq.trans h' h

theorem map_mapFrom_eq {α β : Type} {p : α → β} {f : Nat → α → α} (hf : ∀ n a, p (f n a) = p a) (i : Nat) (l : List α) :
    (mapFrom f i l).map p = l.map p := by
  induction l generalizing i with
  | nil => rfl
  | cons a l ih => simp [mapFrom, hf, ih]

theorem sameLoads_warn : Warn SameLoads :=
  .of_free (fun _ => .of_lamps rfl) .trans (fun _ _ => .of_lamps rfl) (fun _ _ _ => .of_lamps rfl)
    (fun s _ _ => map_mapFrom_eq (fun n r => by unfold lampChange; split <;> (try split) <;> rfl) 0 s.run.tu.lamps)
    (fun s => by simp [SameLoads, refreshBlink])
    (fun s => map_mapFrom_eq (p := fun r : LampRec => (r.load, r.openCount, r.forced, r.lit))
      (f := fun n r => { r with output := lampOutput s n r }) (fun _ _ => rfl) 0 s.run.tu.lamps)
    fun _ _ _ => .of_lamps rfl

theorem SameLoads.length {s t : State} (h : SameLoads s t) : t.run.tu.lamps.length = s.run.tu.lamps.length := by
  simpa using congrArg List.length h

theorem SameLoads.getElem? {s t : State} (h : SameLoads s t) {n : Nat} {r : LampRec} (hr : t.run.tu.lamps[n]? = some r) :
    ∃ r', s.run.tu.lamps[n]? = some r' ∧ r.load = r'.load ∧ r.openCount = r'.openCount ∧ r.forced = r'.forced ∧
      r.lit = r'.lit := by
  have hn := congrArg (fun l => l[n]?) h
  simp only [List.getElem?_map, hr, Option.map_some] at hn
  cases hs : s.run.tu.lamps[n]? with
  | none => simp [hs] at hn
  | some r' =>
    simp only [hs, Option.map_some, Option.some.injEq, Prod.mk.injEq] at hn
    exact ⟨r', rfl, hn⟩

theorem SameLoads.any_load {s t : State} (h : SameLoads s t) (p : Load → Bool) :
    (t.run.tu.lamps.any fun r => p r.load) = s.run.tu.lamps.any fun r => p r.load := by
  have hloads := congrArg (fun l => (l.map Prod.fst).any p) h
  simpa [List.any_map, Function.comp_def] using hloads

theorem SameLoads.putFlag (s : State) (f : FlagId) (v : Bool) : SameLoads s (putFlag s f v) :=
  .of_lamps (by rw [putFlag_tu])

theorem SameLoads.flagChange (f : FlagId) (v : Bool) (s : State) : SameLoads s (flagChange f v s) := by
  rcases sameLoads_warn.flagDelivered f v s with hsame | hchanged
  · rw [hsame]
    exact .of_lamps rfl
  · exact .trans (.putFlag s f v) hchanged

end Sys2Proof.Machine
end

section
/-! PROOFS. SHUTDOWN entry and the restart: what they set, beyond what the warnings path makes of it. -/

namespace Sys2Proof.Machine

theorem mapFrom_const {α β : Type} (f : α → β) (i : Nat) (l : List α) : mapFrom (fun _ => f) i l = l.map f := by
  induction l generalizing i with
  | nil => rfl
  | cons a l ih => simp [mapFrom, ih]

theorem WarningsOnly.putFlag {s t : State} (h : WarningsOnly s t) (f : FlagId) (v : Bool) :
    WarningsOnly (putFlag s f v) (putFlag t f v) := by
  refine ⟨?_, by rw [putFlag_queues, putFlag_queues]; exact h.2⟩
  rw [h.1]
  cases f <;> rfl

/-- A flag change after changes of the warnings path. -/
theorem WarningsOnly.flagChange {s t : State} (h : WarningsOnly s t) (f : FlagId) (v : Bool) :
    WarningsOnly (Machine.putFlag s f v) (flagChange f v t) := (h.putFlag f v).trans (flagChange_frame f v t)

/-! ## REPLYs that leave the VTQ -/

theorem replyLeft_mu (o : Origin) (s : State) : replyLeft o s = { s with run.mu := (replyLeft o s).run.mu } := by
  unfold replyLeft
  split
  · split <;> rfl
  all_goals rfl

theorem replyLeft_mu_congr {s t : State} (o : Origin) (h : s.run.mu = t.run.mu) :
    (replyLeft o s).run.mu = (replyLeft o t).run.mu := by
  unfold replyLeft
  split
  · rw [h]
    split <;> simp [h]
  all_goals simp [h]

theorem reportRemoved_cons (e : QEntry) (l : List QEntry) (s : State) :
    reportRemoved (e :: l) s = reportRemoved l (replyLeft e.origin s) := rfl

theorem reportRemoved_mu (l : List QEntry) (s : State) :
    reportRemoved l s = { s with run.mu := (reportRemoved l s).run.mu } := by
  induction l generalizing s with
  | nil => rfl
  | cons e l ih =>
    rw [reportRemoved_cons]
    refine (ih _).trans ?_
    generalize (reportRemoved l _).run.mu = m
    rw [replyLeft_mu e.origin s]

theorem reportRemoved_mu_congr (l : List QEntry) {s t : State} (h : s.run.mu = t.run.mu) :
    (reportRemoved l s).run.mu = (reportRemoved l t).run.mu := by
  induction l generalizing s t with
  | nil => exact h
  | cons e l ih => exact ih (replyLeft_mu_congr e.origin h)

/-- What the emptying of the queues leaves of the Management Unit. -/
def muEmptied (s : State) : Mu :=
  (reportRemoved (s.run.queues.vtq.filter fun e => !finishes s.run.vli.sending.isSome e) s).run.mu

theorem emptyQueues_eq (s : State) : emptyQueues s =
    { s with run.queues.vtq := s.run.queues.vtq.filter (finishes s.run.vli.sending.isSome)
             run.queues.drq := s.run.queues.drq.filter QEntry.inFlight
             run.mu := muEmptied s } := by
  let kept : State := { s with
    run.queues.vtq := s.run.queues.vtq.filter (finishes s.run.vli.sending.isSome)
    run.queues.drq := s.run.queues.drq.filter QEntry.inFlight }
  exact (reportRemoved_mu _ kept).trans
    (congrArg (fun m => { kept with run.mu := m }) (reportRemoved_mu_congr (s := kept) (t := s) _ rfl))

/-- What SHUTDOWN entry leaves of the Management Unit. -/
def muAbandoned (m : Mu) : Mu :=
  if m.phase = .ifrPending ∨ m.phase = .executing then { m with phase := .idle, cmd := none } else m

theorem abandonCommand_eq (s : State) : abandonCommand s = { s with run.mu := muAbandoned s.run.mu } := by
  unfold abandonCommand muAbandoned
  split <;> rfl

/-! ## SHUTDOWN entry -/

/-- R169: what SHUTDOWN entry sets, but for the warnings path. -/
def shutdownBase (s : State) : State :=
  { s with
    mode := .shutdown, phase := .none, shutdownTimer := some Config.shutdownMillis
    run := { s.run with
      flags.service := false
      tables.routes := s.run.tables.routes.map fun e => e.mapTo fun r => { r with timer := none }
      queues.vtq := s.run.queues.vtq.filter (finishes s.run.vli.sending.isSome)
      queues.drq := s.run.queues.drq.filter QEntry.inFlight
      vli := dropTest s.run.vli
      gu.channels := s.run.gu.channels.map shutdownChannel
      tu.lampCheck := none
      mc := { s.run.mc with
        validation := none
        gaugesStarted := (s.run.gu.channels.map shutdownChannel).all channelStarted
        gaugesAtRest := (s.run.gu.channels.map shutdownChannel).all channelAtRest }
      mu := muAbandoned (muEmptied s) } }

/-- SHUTDOWN entry up to the fall of F13. -/
def shutdownLeft (s : State) : State :=
  abandonCommand { shutdownDark s with run.vli := dropTest (shutdownDark s).run.vli }

theorem enterShutdown_left (s : State) :
    enterShutdown s = placeNotice .status (flagChange .service false (shutdownLeft s)) := rfl

/-- The lamps when every forcing is released and the mode is SHUTDOWN. -/
def shutdownLamps (s : State) : List LampRec :=
  (releaseLamps { s with mode := .shutdown, run.tu.lampCheck := none }).run.tu.lamps

theorem shutdownDark_eq (s : State) : shutdownDark s =
    { s with
      mode := .shutdown, phase := .none, shutdownTimer := some Config.shutdownMillis
      run := { s.run with
        tables.routes := s.run.tables.routes.map fun e => e.mapTo fun r => { r with timer := none }
        queues.vtq := s.run.queues.vtq.filter (finishes s.run.vli.sending.isSome)
        queues.drq := s.run.queues.drq.filter QEntry.inFlight
        gu.channels := s.run.gu.channels.map shutdownChannel
        tu := { s.run.tu with
          lamps := shutdownLamps s, lampCheck := none, alerts := pauseAlerts s.run.tu.alerts
          chime := Chime.initial }
        mc := { s.run.mc with
          validation := none
          gaugesStarted := (s.run.gu.channels.map shutdownChannel).all channelStarted
          gaugesAtRest := (s.run.gu.channels.map shutdownChannel).all channelAtRest }
        mu := muEmptied s } } := by
  have hmu : muEmptied (stopFreshness { s with
      mode := .shutdown, phase := .none, run.mc.validation := none
      shutdownTimer := some Config.shutdownMillis }) = muEmptied s := reportRemoved_mu_congr _ rfl
  rw [shutdownDark, emptyQueues_eq, hmu]
  unfold returnGauges mapChannels
  rw [mapFrom_const]
  rfl

theorem shutdownLeft_frame (s : State) :
    WarningsOnly { shutdownBase s with run.flags.service := s.run.flags.service } (shutdownLeft s) := by
  unfold shutdownLeft
  rw [abandonCommand_eq, shutdownDark_eq]
  exact ⟨rfl, rfl⟩

/-- R169: beyond what it sets, SHUTDOWN entry writes the warnings path alone. -/
theorem enterShutdown_frame (s : State) : WarningsOnly (shutdownBase s) (enterShutdown s) :=
  ((shutdownLeft_frame s).flagChange .service false).trans (placeNotice_frame _ _)

/-! ## The restart -/

theorem DriveOnly.restartPlaced {s t : State} (h : DriveOnly s t) : DriveOnly (restartPlaced s) (restartPlaced t) := by
  rw [h.eq]
  rfl

theorem DriveOnly.runs {s t : State} (h : DriveOnly s t) : DriveOnly { s with mode := .run } { t with mode := .run } := by
  rw [h.eq]
  rfl

/-- R168: what the restart sets, but for the Drive-Time Unit's part and the warnings path. -/
def restartedBase (new : NewTables) (levels : BitVec 16) (s : State) : State :=
  { restartPlaced (activationBase new levels (restartReset s)) with mode := .run }

theorem restarted_driveOnly (levels : BitVec 16) (s : State) :
    DriveOnly (restartedBase (validate s.store) levels s) (restarted levels s) :=
  ((activate_driveOnly _ levels _).restartPlaced.trans (restartShown_driveOnly _)).runs.trans
    (restartRuns_frame _).driveOnly

theorem activationBase_phase (new : NewTables) (levels : BitVec 16) (s : State) :
    (activationBase new levels s).phase = s.phase := rfl

theorem restartedBase_phase (new : NewTables) (levels : BitVec 16) (s : State) :
    (restartedBase new levels s).phase = s.phase :=
  (restartPlaced_phase (activationBase new levels (restartReset s))).trans
    ((activationBase_phase new levels (restartReset s)).trans (restartReset_phase s))

end Sys2Proof.Machine
end

section
/-! PROOFS. The flags that follow what they report (R10, R55, R90, R163, R166, R167). F6, F8, F13 and the
routes of a validation come first, for F1 to F3 rest on the last of them; F5 stands by itself. -/

namespace Sys2Proof.Machine

/-! ## F6, F8 and F13 -/

/-- F6, F8 and F13 follow what they report, and no route is active while a STARTUP validation runs. -/
structure Reports (s : State) : Prop where
  phase : PhaseLaw s
  gauge : s.run.flags.gaugeFault = anyFault s.run.gu.channels
  config : s.run.flags.configFault = decide (s.run.mc.disabledCount ≠ 0)
  service : s.run.flags.service = decide (s.mode = .service)
  routes : s.phase = .validating → s.run.tables.routes = Tables.initial.routes

theorem Quiet.reports {s t : State} (h : Quiet s t) : Preserves Reports s t := by
  rintro ⟨hphase, hgauge, hconfig, hservice, hroutes⟩
  refine ⟨.of_eq h.mode h.phase hphase, ?_, ?_, ?_, ?_⟩
  · rw [h.flags, h.channels]
    exact hgauge
  · rw [h.flags, h.disabledCount]
    exact hconfig
  · rw [h.flags, h.mode]
    exact hservice
  · rw [h.phase, h.tables]
    exact hroutes

theorem DriveOnly.reports {s t : State} (h : DriveOnly s t) : Preserves Reports s t := by
  rintro ⟨hphase, hgauge, hconfig, hservice, hroutes⟩
  refine ⟨h.phaseLaw hphase, ?_, ?_, ?_, ?_⟩
  · rw [h.flags, h.gu]
    exact hgauge
  · rw [h.flags, h.mc]
    exact hconfig
  · rw [h.flags, h.mode]
    exact hservice
  · rw [h.phase, h.tables]
    exact hroutes

theorem Reports.no_route {s : State} {n : Nat} {r : LiveRoute} (hs : Reports s) (hr : routeAt s n = some r) :
    s.phase ≠ .validating := by
  intro hphase
  rw [routeAt, hs.routes hphase, Tables.initial, entryAt_replicate_unused] at hr
  cases hr

theorem initial_routes_map (f : LiveRoute → LiveRoute) :
    Tables.initial.routes.map (fun e => e.mapTo f) = Tables.initial.routes := by
  simp [Tables.initial, Entry.mapTo]

/-- A route that is put in its place is none of a validation's. -/
theorem Reports.updRoute {s : State} {n : Nat} {r : LiveRoute} (hr : routeAt s n = some r)
    (f : LiveRoute → LiveRoute) : Preserves Reports s (updRoute n f s) :=
  fun hs => { hs with routes := fun hphase => absurd hphase (hs.no_route hr) }

theorem Reports.putFlag {f : FlagId} (hf : f ≠ .gaugeFault ∧ f ≠ .configFault ∧ f ≠ .service) (s : State) (v : Bool) :
    Preserves Reports s (putFlag s f v) := by
  obtain ⟨hgauge, hconfig, hservice⟩ := hf
  intro hs
  cases f
  case gaugeFault => exact absurd rfl hgauge
  case configFault => exact absurd rfl hconfig
  case service => exact absurd rfl hservice
  all_goals exact { hs with }

theorem reports_core : Core (Preserves Reports) :=
  .of_quiet Quiet.reports (fun h h' hs => h' (h hs)) (fun _ hs => { hs with }) (fun _ hs => { hs with })
    (fun _ hs => { hs with }) (fun _ _ _ _ _ _ hs => { hs with })
    (fun _ hflag hs => { hs with gauge := hflag hs.gauge })
    (fun _ _ hs => { hs with routes := fun hphase => (congrArg _ (hs.routes hphase)).trans (initial_routes_map _) })
    (fun hr _ => .updRoute hr _)
    (fun hmode hs => { hs with phase := fun _ => rfl, routes := nofun, service := by simp [hs.service, hmode] })
    fun _ _ hs => { hs with }

theorem reports_forcedExit (s : State) : Preserves Reports s (forcedExit s) := by
  by_cases hservice : s.mode = .service
  · refine reports_core.forcedExit_left hservice fun hs => ?_
    have hphase := hs.phase (by simp [hservice])
    exact { hs with phase := fun _ => hphase, service := rfl }
  · unfold forcedExit
    rw [if_neg hservice]
    exact id

theorem reports_enterService {s : State} (hrun : s.mode = .run) : Preserves Reports s (enterService s) := by
  refine reports_core.enterService_entered fun hs => ?_
  have hphase := hs.phase (by simp [hrun])
  exact { hs with phase := fun _ => hphase, service := rfl }

theorem enterMoving_fault_free (supply : Bool) (r : Resume) (c : Channel) : (enterMoving supply r c).state ≠ .fault := by
  unfold enterMoving
  split
  · simp
  · cases r <;> simp [Resume.state]

/-- R59: no channel is in FAULT after the restart. -/
theorem restartChannel_fault_free (s : State) (n : Nat) (c : Channel) : (restartChannel s n c).state ≠ .fault := by
  unfold restartChannel
  split
  · simp [idleChannel]
  · split
    · simp
    · simp [homeChannel]

theorem anyFault_mapFrom {f : Nat → Channel → Channel} (hf : ∀ n c, (f n c).state ≠ .fault) (i : Nat) (l : List Channel) :
    anyFault (mapFrom f i l) = false := by
  induction l generalizing i with
  | nil => rfl
  | cons c l ih => exact Bool.or_eq_false_iff.2 ⟨decide_eq_false (hf i c), ih (i + 1)⟩

theorem restartedBase_reports {new : NewTables} {levels : BitVec 16} {s : State} (hphase : s.phase = .none) :
    Reports (restartedBase new levels s) where
  phase _ := (restartedBase_phase new levels s).trans hphase
  gauge := (anyFault_mapFrom (restartChannel_fault_free _) 0 _).symm
  config := rfl
  service := rfl
  routes h := by
    rw [restartedBase_phase, hphase] at h
    cases h

theorem reports_restart {s : State} (levels : BitVec 16) (hval : serviceValidating s = true) :
    Preserves Reports s (restart levels s) :=
  reports_core.restart_of_restarted hval fun hs =>
    (restarted_driveOnly levels s).reports (restartedBase_reports (hs.phase (by simp [serviceValidating_mode hval])))

theorem activationBase_reports {new : NewTables} {levels : BitVec 16} {s : State} (hmode : s.mode = .startup)
    (hs : Reports s) : Reports { activationBase new levels s with phase := .gaugesAndLamps } :=
  { hs with phase := fun hne => absurd hmode hne, config := rfl, routes := nofun }

theorem DriveOnly.inPhase {s t : State} (h : DriveOnly s t) (p : Phase) :
    DriveOnly { s with phase := p } { t with phase := p } := by
  rw [h.eq]
  rfl

theorem reports_activate (levels : BitVec 16) {s : State} (hmode : s.mode = .startup) :
    Preserves Reports s { activate (validate s.store) levels s with phase := .gaugesAndLamps } :=
  fun hs => ((activate_driveOnly _ levels s).inPhase _).reports (activationBase_reports hmode hs)

theorem reports_kept : Kept (Preserves Reports) where
  toCore := reports_core
  forcedExit := reports_forcedExit
  signalEvent _ ht _ hs := reports_core.roadSpeedEvent_of reports_forcedExit _ _ (ht { hs with })
  inputSample := reports_core.inputSample_of (fun _ _ _ hs => { hs with }) reports_forcedExit
  enterService hrun _ := reports_enterService hrun
  supervised hr _ ht hs := reports_core.superviseRoutes_of (.putFlag (by decide)) (.putFlag (by decide))
    (.putFlag (by decide)) _ (ht (.updRoute hr _ hs))
  setUnder := reports_core.setUnder_of (.putFlag (by decide))
  clearUnder := reports_core.clearUnder_of (.putFlag (by decide))
  setOver := reports_core.setOver_of (.putFlag (by decide))
  clearOver := reports_core.clearOver_of (.putFlag (by decide))
  restart := reports_restart

theorem unpowered_reports {s : State} (hphase : s.phase = .none) (hmode : s.mode ≠ .service)
    (hrun : s.run = Run.unpowered) : Reports s where
  phase _ := hphase
  gauge := by
    rw [hrun]
    rfl
  config := by
    rw [hrun]
    rfl
  service := by
    rw [hrun]
    simp [hmode, Run.unpowered, Run.initial, Flags.initial]
  routes h := by
    rw [hphase] at h
    cases h

theorem shutdownBase_reports {s : State} (hs : Reports s) : Reports (shutdownBase s) where
  phase _ := rfl
  gauge := by
    refine hs.gauge.trans (anyFault_congr (l := s.run.gu.channels) ?_).symm
    have hmap : s.run.gu.channels.map shutdownChannel = mapFrom (fun _ => shutdownChannel) 0 s.run.gu.channels :=
      (mapFrom_const _ _ _).symm
    rw [show (shutdownBase s).run.gu.channels = _ from hmap]
    exact .mapFrom fun _ c _ => shutdownChannel_fault c
  config := hs.config
  service := rfl
  routes := nofun

theorem warmBase_reports {s : State} (hmode : s.mode = .shutdown) (hs : Reports s) : Reports (warmBase s) where
  phase hne := absurd rfl hne
  gauge := hs.gauge
  config := hs.config
  service := by
    refine hs.service.trans ?_
    rw [hmode]
    rfl
  routes _ := rfl

theorem coldBegun_reports (s : State) : Reports (beginStartup { s with run := Run.initial }) :=
  ⟨fun hne => absurd rfl hne, rfl, rfl, rfl, fun _ => rfl⟩

theorem reports_outer : Outer (Preserves Reports) where
  refl _ := id
  trans h h' hs := h' (h hs)
  path _ hpath := hpath _ reports_kept
  standby _ _ := unpowered_reports rfl (by simp [enterStandby]) rfl
  clocks _ _ _ _ hs := { hs with }
  asleepMinute _ := reports_core.minuteEvent _
  shutdown _ hs := (enterShutdown_frame _).quiet.reports (shutdownBase_reports hs)
  warm hmode hs := (warmStart_frame _).quiet.reports (warmBase_reports hmode hs)
  cold _ := reports_core.cold_of fun _ => coldBegun_reports _
  reset _ _ _ := unpowered_reports rfl (by simp [keepAliveReset, State.reset]) rfl
  completes levels hval := reports_kept.completeStartup_of hval fun _ hmode _ => reports_activate levels hmode

/-! ## F1 to F3 -/

/-- F1, F2 and F3 say whether an active route of their supervision is STALE (R10). -/
structure Supervised (s : State) : Prop where
  display : s.run.flags.displayLost = anyStale s .display
  gateway : s.run.flags.gatewayLost = anyStale s .gateway
  tacho : s.run.flags.tachoLost = anyStale s .tacho

/-- A law that rests on another one is kept together with it. -/
def Both (A B : State → Prop) (s t : State) : Prop := (A s → A t) ∧ (A s → B s → B t)

theorem Both.refl {A B : State → Prop} (s : State) : Both A B s s := ⟨id, fun _ => id⟩

theorem Both.trans {A B : State → Prop} {s t u : State} (h : Both A B s t) (h' : Both A B t u) : Both A B s u :=
  ⟨fun hs => h'.1 (h.1 hs), fun hs hb => h'.2 (h.1 hs) (h.2 hs hb)⟩

theorem anyStale_congr {s t : State} (h : t.run.tables.routes = s.run.tables.routes) (v : Supervision) :
    anyStale t v = anyStale s v := by
  unfold anyStale
  rw [h]

/-- F1 to F3 and the staleness of the routes are as they were. -/
theorem Supervised.of_same {s t : State} (hd : t.run.flags.displayLost = s.run.flags.displayLost)
    (hg : t.run.flags.gatewayLost = s.run.flags.gatewayLost) (ht : t.run.flags.tachoLost = s.run.flags.tachoLost)
    (hstale : ∀ v, anyStale t v = anyStale s v) : Preserves Supervised s t :=
  fun hs => ⟨by rw [hd, hstale, hs.display], by rw [hg, hstale, hs.gateway], by rw [ht, hstale, hs.tacho]⟩

theorem Quiet.supervised {s t : State} (h : Quiet s t) : Preserves Supervised s t :=
  .of_same (by rw [h.flags]) (by rw [h.flags]) (by rw [h.flags]) (anyStale_congr (by rw [h.tables]))

theorem DriveOnly.supervised {s t : State} (h : DriveOnly s t) : Preserves Supervised s t :=
  .of_same (by rw [h.flags]) (by rw [h.flags]) (by rw [h.flags]) (anyStale_congr (by rw [h.tables]))

theorem SameRoute.stale {r r' : LiveRoute} (h : SameRoute r r') (v : Supervision) :
    (decide (r'.cfg.supervision = v) && decide (r'.fresh = .stale)) =
      (decide (r.cfg.supervision = v) && decide (r.fresh = .stale)) := by
  rw [h.1, h.2]

theorem anyStale_routeTimes {f : LiveRoute → LiveRoute} (hf : ∀ r, SameRoute r (f r)) (s : State) (v : Supervision) :
    anyStale { s with run.tables.routes := s.run.tables.routes.map fun e => e.mapTo f } v = anyStale s v := by
  unfold anyStale
  rw [List.any_map]
  congr 1
  funext e
  cases e with
  | enabled r => exact (hf r).stale v
  | _ => rfl

theorem any_updAt {α : Type} {p : α → Bool} {f : α → α} (l : List α) (n : Nat)
    (h : ∀ a, l[n]? = some a → p (f a) = p a) : (updAt l n f).any p = l.any p := by
  induction l generalizing n with
  | nil => rfl
  | cons a l ih =>
    cases n with
    | zero => simp [updAt, h a rfl]
    | succ n => simp [updAt, ih n h]

theorem routeAt_getElem? {s : State} {n : Nat} {r : LiveRoute} (h : routeAt s n = some r) :
    s.run.tables.routes[n]? = some (.enabled r) := by
  unfold routeAt entryAt at h
  rw [List.getD_eq_getElem?_getD] at h
  cases he : s.run.tables.routes[n]? with
  | none => simp [he, Entry.get?] at h
  | some e =>
    cases e with
    | enabled q => simpa [he, Entry.get?] using h
    | _ => simp [he, Entry.get?] at h

/-- A route that was not STALE is refreshed. -/
theorem anyStale_freshened {s : State} {n : Nat} {r : LiveRoute} (hr : routeAt s n = some r) (hfresh : r.fresh ≠ .stale)
    (v : Supervision) : anyStale (updRoute n refreshed s) v = anyStale s v := by
  refine any_updAt _ n fun e he => ?_
  obtain rfl : e = .enabled r := by
    rw [routeAt_getElem? hr] at he
    exact (Option.some_inj.1 he).symm
  simp [Entry.mapTo, Entry.get?, refreshed, hfresh]

theorem supervised_core : Core (Both Reports Supervised) :=
  .of_quiet (fun h => ⟨h.reports, fun _ => h.supervised⟩) Both.trans
    (fun he => ⟨reports_core.internal he, fun _ hb => { hb with }⟩)
    (fun ht => ⟨reports_core.rebound ht, fun _ hb => { hb with }⟩)
    (fun s => ⟨reports_core.minute s, fun _ hb => { hb with }⟩)
    (fun slot d b s hc hd => ⟨reports_core.loaded slot d b s hc hd, fun _ hb => { hb with }⟩)
    (fun hl hv => ⟨reports_core.channels hl hv, fun _ hb => { hb with }⟩)
    (fun hf s => ⟨reports_core.routeTimes hf s, fun _ => .of_same rfl rfl rfl (anyStale_routeTimes hf s)⟩)
    (fun hr hf => ⟨reports_core.freshened hr hf, fun _ => .of_same rfl rfl rfl (anyStale_freshened hr hf)⟩)
    (fun hm => ⟨reports_core.runs hm, fun _ hb => { hb with }⟩)
    fun payload s => ⟨reports_core.stored payload s, fun _ hb => { hb with }⟩

theorem supervised_putFlag {f : FlagId}
    (hf : f ≠ .gaugeFault ∧ f ≠ .configFault ∧ f ≠ .service) (hl : f ≠ .displayLost ∧ f ≠ .gatewayLost ∧ f ≠ .tachoLost)
    (s : State) (v : Bool) : Both Reports Supervised s (putFlag s f v) := by
  refine ⟨.putFlag hf s v, fun _ hb => ?_⟩
  obtain ⟨hdisplay, hgateway, htacho⟩ := hl
  cases f
  case displayLost => exact absurd rfl hdisplay
  case gatewayLost => exact absurd rfl hgateway
  case tachoLost => exact absurd rfl htacho
  all_goals exact { hb with }

/-- A change of mode with F13. -/
theorem putService_supervised {s : State} (m : Mode) (v : Bool) (hs : Supervised s) :
    Supervised (putFlag { s with mode := m } .service v) := { hs with }

theorem supervised_forcedExit (s : State) : Both Reports Supervised s (forcedExit s) := by
  refine ⟨reports_forcedExit s, fun hs hb => ?_⟩
  by_cases hservice : s.mode = .service
  · refine (supervised_core.forcedExit_left (u := s) hservice ⟨fun hr => ?_, fun _ => putService_supervised _ _⟩).2 hs hb
    have hphase := hr.phase (by simp [hservice])
    exact { hr with phase := fun _ => hphase, service := rfl }
  · unfold forcedExit
    rwa [if_neg hservice]

theorem supervised_enterService {s : State} (hrun : s.mode = .run) : Both Reports Supervised s (enterService s) := by
  refine supervised_core.enterService_entered ⟨fun hs => ?_, fun _ => putService_supervised _ _⟩
  have hphase := hs.phase (by simp [hrun])
  exact { hs with phase := fun _ => hphase, service := rfl }

/-! R10: the supervision sets F1 to F3 from the routes, whatever they were. -/

theorem flagChange_routes (f : FlagId) (v : Bool) (s : State) :
    (flagChange f v s).run.tables.routes = s.run.tables.routes := by
  rw [(flagChange_frame f v s).tables, putFlag_tables]

theorem superviseRoutes_supervised (s : State) : Supervised (superviseRoutes s) := by
  have hstale (v : Supervision) : anyStale (superviseRoutes s) v = anyStale s v :=
    anyStale_congr (by simp only [superviseRoutes, flagChange_routes]) v
  have hread (f g : FlagId) (v : Bool) (t : State) := getFlag_flagChange f g v t
  refine ⟨?_, ?_, ?_⟩
  · rw [hstale]
    change getFlag (superviseRoutes s) .displayLost = _
    simp [superviseRoutes, hread]
  · rw [hstale]
    change getFlag (superviseRoutes s) .gatewayLost = _
    simp only [superviseRoutes, hread]
    simp [anyStale_congr (flagChange_routes _ _ _)]
  · rw [hstale]
    change getFlag (superviseRoutes s) .tachoLost = _
    simp only [superviseRoutes, hread]
    simp [anyStale_congr (flagChange_routes _ _ _)]

theorem validated_routes_never (n : NewTables) (s : State) (h : s.run.tables = n.working) (v : Supervision) :
    anyStale s v = false := by
  rw [anyStale, h, NewTables.working, List.any_map, List.any_eq_false]
  intro e _
  cases e <;> simp [Entry.mapTo, Entry.get?, liveRoute]

theorem initial_routes_never {s : State} (h : s.run.tables.routes = Tables.initial.routes) (v : Supervision) :
    anyStale s v = false := by
  rw [anyStale, h, Tables.initial, List.any_eq_false]
  intro e he
  rw [List.eq_of_mem_replicate he]
  simp [Entry.get?]

theorem activationBase_supervised {new : NewTables} {levels : BitVec 16} {s : State}
    (hroutes : s.run.tables.routes = Tables.initial.routes) (hs : Supervised s) :
    Supervised { activationBase new levels s with phase := .gaugesAndLamps } :=
  have hnever := validated_routes_never new { activationBase new levels s with phase := .gaugesAndLamps } rfl
  ⟨(hs.display.trans (initial_routes_never hroutes _)).trans (hnever _).symm,
    (hs.gateway.trans (initial_routes_never hroutes _)).trans (hnever _).symm,
    (hs.tacho.trans (initial_routes_never hroutes _)).trans (hnever _).symm⟩

/-- No route is active or each is new, with F1 to F3 clear. -/
theorem Supervised.of_clear {s : State} (hd : s.run.flags.displayLost = false) (hg : s.run.flags.gatewayLost = false)
    (ht : s.run.flags.tachoLost = false) (hnever : ∀ v, anyStale s v = false) : Supervised s :=
  ⟨by rw [hd, hnever], by rw [hg, hnever], by rw [ht, hnever]⟩

theorem restartedBase_supervised (new : NewTables) (levels : BitVec 16) (s : State) :
    Supervised (restartedBase new levels s) :=
  .of_clear rfl rfl rfl (validated_routes_never new _ rfl)

theorem supervised_kept : Kept (Both Reports Supervised) where
  toCore := supervised_core
  forcedExit := supervised_forcedExit
  signalEvent _ ht _ :=
    Both.trans (t := putSignal _ _ _) ⟨fun hs => { hs with }, fun _ hb => { hb with }⟩
      (ht.trans (supervised_core.roadSpeedEvent_of supervised_forcedExit _ _))
  inputSample := supervised_core.inputSample_of (fun _ _ _ => ⟨fun hs => { hs with }, fun _ hb => { hb with }⟩)
    supervised_forcedExit
  enterService hrun _ := supervised_enterService hrun
  supervised hr hf ht := ⟨reports_kept.supervised hr hf ht.1, fun _ _ => superviseRoutes_supervised _⟩
  setUnder := supervised_core.setUnder_of (supervised_putFlag (by decide) (by decide))
  clearUnder := supervised_core.clearUnder_of (supervised_putFlag (by decide) (by decide))
  setOver := supervised_core.setOver_of (supervised_putFlag (by decide) (by decide))
  clearOver := supervised_core.clearOver_of (supervised_putFlag (by decide) (by decide))
  restart levels hval := supervised_core.restart_of_restarted hval
    ⟨fun hs => (restarted_driveOnly levels _).reports
        (restartedBase_reports (hs.phase (by simp [serviceValidating_mode hval]))),
      fun _ _ => (restarted_driveOnly levels _).supervised (restartedBase_supervised _ levels _)⟩

theorem unpowered_supervised {s : State} (hrun : s.run = Run.unpowered) : Supervised s := by
  refine .of_clear ?_ ?_ ?_ (initial_routes_never ?_) <;> rw [hrun] <;> rfl

theorem shutdownBase_supervised {s : State} (hs : Supervised s) : Supervised (shutdownBase s) :=
  Supervised.of_same (s := s) rfl rfl rfl
    (anyStale_routeTimes (f := fun r => { r with timer := none }) (fun _ => ⟨rfl, rfl⟩) s) hs

theorem supervised_outer : Outer (Both Reports Supervised) where
  refl := .refl
  trans := Both.trans
  path _ hpath := hpath _ supervised_kept
  standby hm := ⟨reports_outer.standby hm, fun _ _ => unpowered_supervised rfl⟩
  clocks _ _ _ _ := ⟨fun hs => { hs with }, fun _ hb => { hb with }⟩
  asleepMinute _ := supervised_core.minuteEvent _
  shutdown hon := ⟨reports_outer.shutdown hon, fun _ hb =>
    (enterShutdown_frame _).quiet.supervised (shutdownBase_supervised hb)⟩
  warm hm := ⟨reports_outer.warm hm, fun _ _ => (warmStart_frame _).quiet.supervised
    (.of_clear rfl rfl rfl (initial_routes_never rfl))⟩
  cold hm := ⟨reports_outer.cold hm, fun _ _ => (supervised_core.cold_of (s := _)
    ⟨fun _ => coldBegun_reports _, fun _ _ => .of_clear rfl rfl rfl (initial_routes_never rfl)⟩).2 ‹_› ‹_›⟩
  reset straps s := ⟨reports_outer.reset straps s, fun _ _ => unpowered_supervised rfl⟩
  completes levels hval := supervised_kept.completeStartup_of hval fun s hmode hphase =>
    ⟨reports_activate levels hmode, fun hs hb => ((activate_driveOnly _ levels s).inPhase _).supervised
      (activationBase_supervised (hs.routes hphase) hb)⟩

/-! ## F5 -/

/-- F5 says whether a lamp is OPEN or SHORT (R90). -/
def LampFlagLaw (s : State) : Prop := s.run.flags.lampFault = anyLoadFault s.run.tu.lamps

/-- F5 and the loads are as they were. -/
theorem LampFlagLaw.of_loads {s t : State} (hflag : t.run.flags.lampFault = s.run.flags.lampFault) (h : SameLoads s t) :
    Preserves LampFlagLaw s t :=
  fun hs => hflag.trans (hs.trans (h.any_load fun x => decide (x ≠ .ok)).symm)

theorem LampFlagLaw.of_same {s t : State} (hflag : t.run.flags.lampFault = s.run.flags.lampFault)
    (hlamps : t.run.tu.lamps = s.run.tu.lamps) : Preserves LampFlagLaw s t := .of_loads hflag (.of_lamps hlamps)

theorem LampFlagLaw.of_warnings {s t : State} (hframe : WarningsOnly s t) (h : SameLoads s t) :
    Preserves LampFlagLaw s t := .of_loads (by rw [hframe.flags]) h

theorem LampFlagLaw.of_drive {s t : State} (hframe : DriveOnly s t) (h : SameLoads s t) :
    Preserves LampFlagLaw s t := .of_loads (by rw [hframe.flags]) h

end Sys2Proof.Machine
end

section
/-! PROOFS. F5 follows the lamps' load states (R90); with F1 to F3, F6, F8 and F13, the flags' law. -/

namespace Sys2Proof.Machine

theorem map_load_of_pointwise {l l' : List LampRec} (h : Pointwise (fun r r' => SameView r r' ∧ r'.load = r.load) l l') :
    l'.map LampRec.load = l.map LampRec.load := by
  refine List.ext_getElem? fun n => ?_
  rw [List.getElem?_map, List.getElem?_map]
  cases hn : l'[n]? with
  | none =>
    rw [List.getElem?_eq_none_iff] at hn
    rw [List.getElem?_eq_none (h.1 ▸ hn)]
  | some r' =>
    obtain ⟨r, hr, -, hload⟩ := h.2 n r' hn
    simp [hr, hload]

theorem LampFlagLaw.of_run {s t : State} (h : t.run.tu.lamps = s.run.tu.lamps) (hflags : t.run.flags = s.run.flags) :
    Preserves LampFlagLaw s t := .of_same (by rw [hflags]) h

theorem putFlag_lampFault {f : FlagId} (hf : f ≠ .lampFault) (s : State) (v : Bool) :
    (putFlag s f v).run.flags.lampFault = s.run.flags.lampFault := by
  cases f with
  | lampFault => exact absurd rfl hf
  | _ => rfl

theorem FlagId.free_not_lampFault {f : FlagId} (h : f.free = true) : f ≠ .lampFault := by
  rintro rfl
  simp [FlagId.free] at h

theorem lampFlag_core : Core (Preserves LampFlagLaw) where
  refl _ := id
  trans h h' hs := h' (h hs)
  aside h := .of_run h.lamps h.flags
  freeFlag {f} hf v s := .of_same (putFlag_lampFault (FlagId.free_not_lampFault hf) s v) (by rw [putFlag_tu])
  notice _ _ := .of_run rfl rfl
  watch _ s := .of_warnings (runTasks_frame _ s) (sameLoads_warn.tasks.runTasks _ s)
  delay _ _ := .of_warnings (changeCondition_frame _ _ _) (sameLoads_warn.tasks.changeCondition _ _ _)
  acknowledge found s := .of_warnings (acknowledge_frame found s) (sameLoads_warn.acknowledge found s)
  chime _ := .of_run rfl rfl
  alertTimes _ _ := .of_run rfl rfl
  condTimes _ := .of_run rfl rfl
  relayed _ _ _ := .of_run rfl rfl
  drq _ := .of_run rfl rfl
  vtqHead _ _ := .of_run rfl rfl
  vtqPopped _ := .of_run (by rw [replyLeft_mu]) (by rw [replyLeft_mu])
  duqHead _ _ := .of_run rfl rfl
  duqPopped _ := .of_run (by rw [replyLeft_mu]) (by rw [replyLeft_mu])
  emptied s := .of_run (by rw [emptyQueues_eq]) (by rw [emptyQueues_eq])
  muPhase _ _ := .of_run rfl rfl
  replyAwaited _ := .of_run rfl rfl
  replyDropped _ _ h hs := h hs
  replyVtq _ _ _ _ := .of_run rfl rfl
  replyDuq _ _ := .of_run rfl rfl
  busyPlaced _ _ := .of_run rfl rfl
  internal _ := .of_run rfl rfl
  rebound _ := .of_run rfl rfl
  minute _ := .of_run rfl rfl
  loaded _ _ _ _ _ _ := .of_run rfl rfl
  channels _ _ := .of_same rfl rfl
  drive {s l} check hl hs := .of_loads (s := { s with run.tu.lamps := l, run.tu.lampCheck := check }) rfl
    (sameLoads_warn.drive _) (hs.trans (anyLoadFault_congr (map_load_of_pointwise hl)).symm)
  loads _ _ hv hs := hv hs
  lampCheckTick _ := .of_run rfl rfl
  routeTimes _ _ := .of_run rfl rfl
  freshened _ _ := .of_run rfl rfl
  runs _ := .of_run rfl rfl
  stored _ _ := .of_run rfl rfl

theorem abandonConditions_sameLoads (s : State) : SameLoads s (abandonConditions s) := by
  unfold abandonConditions
  generalize List.range 64 = conditions
  exact sameLoads_warn.trans (t := conditions.foldl abandonCondition { s with run.cu.evaluating := false })
    (sameLoads_warn.tasks.abandonAll conditions { s with run.cu.evaluating := false }) (.of_lamps rfl)

/-- Every lamp is at its reset value, with F5 clear. -/
theorem LampFlagLaw.of_initial {s : State} (hflag : s.run.flags.lampFault = false)
    (hlamps : s.run.tu.lamps = Tu.initial.lamps) : LampFlagLaw s := by
  rw [LampFlagLaw, hflag, hlamps]
  rfl

theorem lampFlag_leaves : Leaves (Preserves LampFlagLaw) where
  toCore := lampFlag_core
  anyMode _ _ _ := .of_run rfl rfl
  clocks _ _ _ _ := .of_run rfl rfl
  anyFlag f hf s v := .of_same (putFlag_lampFault hf s v) (by rw [putFlag_tu])
  input _ _ _ := .of_run rfl rfl
  frameSignal _ := .of_run rfl rfl
  route _ _ := .of_run rfl rfl
  count _ _ := .of_run rfl rfl
  tables _ _ := .of_run rfl rfl
  noRoutes _ := .of_run rfl rfl
  sampling _ _ := .of_run rfl rfl
  stopped _ := .of_run rfl rfl
  replaced _ := lampFlag_core.replaceParams_of (fun _ => .of_run rfl rfl) fun _ => .of_run rfl rfl
  filtered s := .of_warnings (filterAlerts_frame s) (sameLoads_warn.filterAlerts s)
  evaluated s := .of_loads (by rw [(firstEvaluation_driveOnly s).flags]) (sameLoads_warn.tasks.runTasks _
    { s with run.cu.evaluating := true, run.cu.recs := List.replicate 64 CondRec.initial })
  abandoned s := .of_loads (by rw [(abandonConditions_frame s).flags]) (abandonConditions_sameLoads s)
  checkOff _ := .of_run rfl rfl
  placed _ := .of_run rfl rfl
  restartedRun _ _ := .of_initial rfl rfl
  initialRun _ _ := .of_initial rfl rfl
  unpoweredRun _ _ := .of_initial rfl rfl
  keepAlive _ _ _ := .of_initial rfl rfl

/-! ## The law -/

theorem flagLaw_iff (s : State) :
    PhaseLaw s ∧ FlagLaw s ↔ Reports s ∧ Supervised s ∧ LampFlagLaw s := by
  constructor
  · rintro ⟨hphase, hdisplay, hgateway, htacho, hlamp, hgauge, hconfig, hservice, hroutes⟩
    exact ⟨⟨hphase, hgauge, hconfig, hservice, hroutes⟩, ⟨hdisplay, hgateway, htacho⟩, hlamp⟩
  · rintro ⟨⟨hphase, hgauge, hconfig, hservice, hroutes⟩, ⟨hdisplay, hgateway, htacho⟩, hlamp⟩
    exact ⟨hphase, hdisplay, hgateway, htacho, hlamp, hgauge, hconfig, hservice, hroutes⟩

/-- Settles O56: each flag's law by the traversal of a step; F1 to F3 rest on F6's group, which tells that no
route is active where a STARTUP validation ends. -/
theorem flagLawIsKept : Obligations.FlagLawIsKept := by
  unfold Obligations.FlagLawIsKept
  intro s t hstep hpower hflags
  obtain ⟨hreports, hsupervised, hlamp⟩ := (flagLaw_iff s).1 ⟨hpower.2, hflags⟩
  have hkept := supervised_outer.step (fun _ _ => ⟨fun hs => { hs with }, fun _ hb => { hb with }⟩) hstep
  exact ((flagLaw_iff t).2 ⟨hkept.1 hreports, hkept.2 hreports hsupervised,
    lampFlag_leaves.outer.step (fun _ _ => .of_run rfl rfl) hstep hlamp⟩).2

end Sys2Proof.Machine
end

section
/-! PROOFS. Relations that the Tell-tale and the Condition Unit alone have a part in. -/

namespace Sys2Proof.Machine

/-- The two states agree on what the Tell-tale and the Condition Unit hold, on the channels, the mode and the
supply flags. -/
structure Still (s t : State) : Prop where
  mode : t.mode = s.mode
  under : t.run.flags.underVoltage = s.run.flags.underVoltage
  over_ : t.run.flags.overVoltage = s.run.flags.overVoltage
  conds : t.run.tables.conds = s.run.tables.conds
  lampTable : t.run.tables.lamps = s.run.tables.lamps
  cu : t.run.cu = s.run.cu
  lamps : t.run.tu.lamps = s.run.tu.lamps
  lampCheck : t.run.tu.lampCheck = s.run.tu.lampCheck
  alerts : t.run.tu.alerts = s.run.tu.alerts
  chime : t.run.tu.chime = s.run.tu.chime
  channels : t.run.gu.channels = s.run.gu.channels

theorem Still.refl (s : State) : Still s s := ⟨rfl, rfl, rfl, rfl, rfl, rfl, rfl, rfl, rfl, rfl, rfl⟩

theorem Aside.still {s t : State} (h : Aside s t) : Still s t where
  mode := h.mode
  under := by rw [h.flags]
  over_ := by rw [h.flags]
  conds := by rw [h.tables]
  lampTable := by rw [h.tables]
  cu := h.cu
  lamps := h.lamps
  lampCheck := h.lampCheck
  alerts := h.alerts
  chime := h.chimeState
  channels := h.channels

theorem putFlag_still {f : FlagId} (hf : f ≠ .underVoltage ∧ f ≠ .overVoltage) (v : Bool) (s : State) :
    Still s (putFlag s f v) := by
  obtain ⟨hunder, hover⟩ := hf
  cases f
  case underVoltage => exact absurd rfl hunder
  case overVoltage => exact absurd rfl hover
  all_goals exact ⟨rfl, rfl, rfl, rfl, rfl, rfl, rfl, rfl, rfl, rfl, rfl⟩

theorem FlagId.free_not_supply {f : FlagId} (h : f.free = true) : f ≠ .underVoltage ∧ f ≠ .overVoltage := by
  constructor <;> rintro rfl <;> simp [FlagId.free] at h

theorem still_of_eq {s t : State} (hmode : t.mode = s.mode) (hflags : t.run.flags = s.run.flags)
    (htables : t.run.tables = s.run.tables) (hcu : t.run.cu = s.run.cu) (htu : t.run.tu = s.run.tu)
    (hgu : t.run.gu = s.run.gu) : Still s t :=
  ⟨hmode, by rw [hflags], by rw [hflags], by rw [htables], by rw [htables], hcu, by rw [htu], by rw [htu],
    by rw [htu], by rw [htu], by rw [hgu]⟩

theorem replyLeft_still (o : Origin) (s : State) : Still s (replyLeft o s) := by
  rw [replyLeft_mu]
  exact ⟨rfl, rfl, rfl, rfl, rfl, rfl, rfl, rfl, rfl, rfl, rfl⟩

/-- A relation is kept by the small changes when those of the two units, of the channels and of the mode keep it. -/
theorem Core.of_still {R : State → State → Prop} (hstill : ∀ {s t}, Still s t → R s t)
    (htrans : ∀ {s t u}, R s t → R t u → R s u)
    (hwatch : ∀ p s, R s (runTasks (watchers s p) s))
    (hdelay : ∀ {s j c r}, condAt s j = some c → delayExpired s j c = some r → R s (changeCondition j r s))
    (hacknowledge : ∀ found s, R s (Machine.acknowledge found s))
    (hchime : ∀ {s c}, ChimeStep s c → R s { s with run.tu.chime := c })
    (halertTimes : ∀ {f : Alert → Alert}, (∀ a, SameAlert a (f a)) → ∀ s,
      R s { s with run.tu.alerts := s.run.tu.alerts.map f })
    (hcondTimes : ∀ s, R s { s with run.cu.recs := s.run.cu.recs.map tickCond })
    (hchannels : ∀ {s l v}, Pointwise (ChannelStep (supplyFault s)) s.run.gu.channels l →
      R s { s with run.gu.channels := l, run.flags.gaugeFault := v })
    (hdrive : ∀ {s l} check, Pointwise (fun r r' => SameView r r' ∧ r'.load = r.load) s.run.tu.lamps l →
      R s (Machine.driveLamps { s with run.tu.lamps := l, run.tu.lampCheck := check }))
    (hloads : ∀ {s l v}, Pointwise SameView s.run.tu.lamps l →
      (∀ (n : Nat) r r', s.run.tu.lamps[n]? = some r → l[n]? = some r' → r.output = lampOutput s n r →
        r'.output = lampOutput s n r') → R s { s with run.tu.lamps := l, run.flags.lampFault := v })
    (hlampCheckTick : ∀ s, R s { s with run.tu.lampCheck := countDown s.run.tu.lampCheck })
    (hruns : ∀ {s}, s.mode = .startup → R s { s with mode := .run, phase := .none }) : Core R where
  refl s := hstill (.refl s)
  trans := htrans
  aside ha := hstill ha.still
  freeFlag hf v s := hstill (putFlag_still (FlagId.free_not_supply hf) v s)
  notice k s := hstill (still_of_eq rfl rfl rfl rfl rfl rfl)
  watch := hwatch
  delay := hdelay
  acknowledge := hacknowledge
  chime := hchime
  alertTimes := halertTimes
  condTimes := hcondTimes
  relayed _ _ _ := hstill (still_of_eq rfl rfl rfl rfl rfl rfl)
  drq _ := hstill (still_of_eq rfl rfl rfl rfl rfl rfl)
  vtqHead _ _ := hstill (still_of_eq rfl rfl rfl rfl rfl rfl)
  vtqPopped {s _ rest} _ := htrans (t := { s with run.queues.vtq := rest }) (hstill (still_of_eq rfl rfl rfl rfl rfl rfl))
    (hstill (replyLeft_still _ _))
  duqHead _ _ := hstill (still_of_eq rfl rfl rfl rfl rfl rfl)
  duqPopped {s _ _} _ := htrans (t := { s with run.queues := s.run.queues.duqRemoveHead })
    (hstill (still_of_eq rfl rfl rfl rfl rfl rfl)) (hstill (replyLeft_still _ _))
  emptied s := by
    rw [emptyQueues_eq]
    exact hstill (still_of_eq rfl rfl rfl rfl rfl rfl)
  muPhase _ _ := hstill (still_of_eq rfl rfl rfl rfl rfl rfl)
  replyAwaited _ := hstill (still_of_eq rfl rfl rfl rfl rfl rfl)
  replyDropped _ _ h := htrans h (hstill (still_of_eq rfl rfl rfl rfl rfl rfl))
  replyVtq _ _ _ _ := hstill (still_of_eq rfl rfl rfl rfl rfl rfl)
  replyDuq _ _ := hstill (still_of_eq rfl rfl rfl rfl rfl rfl)
  busyPlaced _ _ := hstill (still_of_eq rfl rfl rfl rfl rfl rfl)
  internal _ := hstill (still_of_eq rfl rfl rfl rfl rfl rfl)
  rebound _ := hstill (still_of_eq rfl rfl rfl rfl rfl rfl)
  minute _ := hstill (still_of_eq rfl rfl rfl rfl rfl rfl)
  loaded _ _ _ _ _ _ := hstill (still_of_eq rfl rfl rfl rfl rfl rfl)
  channels hl _ := hchannels hl
  drive := hdrive
  loads hview hout _ := hloads hview hout
  lampCheckTick := hlampCheckTick
  routeTimes _ _ := hstill ⟨rfl, rfl, rfl, rfl, rfl, rfl, rfl, rfl, rfl, rfl, rfl⟩
  freshened _ _ := hstill ⟨rfl, rfl, rfl, rfl, rfl, rfl, rfl, rfl, rfl, rfl, rfl⟩
  runs := hruns
  stored _ _ := hstill (still_of_eq rfl rfl rfl rfl rfl rfl)

/-- A relation is kept in the middle of the larger changes when those of the two units, of the mode, the supply
flags and the tables keep it. -/
theorem Leaves.of_still {R : State → State → Prop} (hcore : Core R) (htasks : Tasks R)
    (hstill : ∀ {s t}, Still s t → R s t) (hmode : ∀ mode phase s, R s { s with mode := mode, phase := phase })
    (hsupply : ∀ f v s, f = .underVoltage ∨ f = .overVoltage → R s (putFlag s f v))
    (htables : ∀ (s : State) (tables : Tables), R s { s with run.tables := tables })
    (hfiltered : ∀ s, R s (Machine.filterAlerts s))
    (hcleared : ∀ b s, R s { s with run.cu.evaluating := b, run.cu.recs := List.replicate 64 CondRec.initial })
    (habandoned : ∀ s, R s (Machine.abandonConditions s))
    (hcheckOff : ∀ s, R s { s with run.tu.lampCheck := none })
    (hplaced : ∀ s, R s (Machine.mapChannels (restartChannel s) s))
    (hrestarted : ∀ s, R s { s with run := restartRun s.run })
    (hinitial : ∀ s, R s { s with run := Run.initial })
    (hunpowered : ∀ s, R s { s with run := Run.unpowered })
    (hreset : ∀ straps s, R s (keepAliveReset straps s)) : Leaves R where
  toCore := hcore
  anyMode := hmode
  clocks _ _ _ _ := hstill (still_of_eq rfl rfl rfl rfl rfl rfl)
  anyFlag f _ s v := by
    by_cases hf : f = .underVoltage ∨ f = .overVoltage
    · exact hsupply f v s hf
    · exact hstill (putFlag_still (not_or.1 hf) v s)
  input _ _ _ := hstill (still_of_eq rfl rfl rfl rfl rfl rfl)
  frameSignal _ := hstill (still_of_eq rfl rfl rfl rfl rfl rfl)
  route _ _ := hstill ⟨rfl, rfl, rfl, rfl, rfl, rfl, rfl, rfl, rfl, rfl, rfl⟩
  count _ _ := hstill (still_of_eq rfl rfl rfl rfl rfl rfl)
  tables _ s := htables s _
  noRoutes s := htables s _
  sampling _ _ := hstill (still_of_eq rfl rfl rfl rfl rfl rfl)
  stopped _ := hstill (still_of_eq rfl rfl rfl rfl rfl rfl)
  replaced _ := hcore.replaceParams_of (fun _ => hstill (still_of_eq rfl rfl rfl rfl rfl rfl))
    fun _ => hstill (still_of_eq rfl rfl rfl rfl rfl rfl)
  filtered := hfiltered
  evaluated s := hcore.trans (hcleared true s) (htasks.runTasks _ _)
  abandoned := habandoned
  checkOff := hcheckOff
  placed := hplaced
  restartedRun := hrestarted
  initialRun := hinitial
  unpoweredRun := hunpowered
  keepAlive := hreset

end Sys2Proof.Machine
end

section
/-! PROOFS. The lamps' law: requests follow the masked views (R82), alarm-blink the Alert List (R84), outputs
the drive table (R86). The first two hold in the middle of every larger change; the third is made good at its end. -/

namespace Sys2Proof.Machine

/-- R82: each lamp is requested exactly while its masked view is not empty. -/
def Viewed (s : State) : Prop := ∀ r ∈ s.run.tu.lamps, r.requested = decide (r.view ≠ 0#64)

/-- R84: each lamp is in alarm-blink exactly while a condition of its view has an unacknowledged ALARM entry. -/
def Blinked (s : State) : Prop := ∀ r ∈ s.run.tu.lamps, r.alarmBlink = alarmBlinks r.view s.run.tu.alerts

/-- R86: each output is the one of the drive table. -/
def Lit (s : State) : Prop := ∀ (n : Nat) r, s.run.tu.lamps[n]? = some r → r.output = lampOutput s n r

/-- What the conditions and the Alert List have made of the lamps. -/
def Shown (s : State) : Prop := Viewed s ∧ Blinked s

theorem alarmBlinks_iff (view : BitVec 64) (l : List Alert) : alarmBlinks view l = true ↔
    ∃ a ∈ l, a.acked = false ∧ a.severity = .alarm ∧ view.getLsbD a.cond = true := by
  simp [alarmBlinks, and_assoc]

theorem lampLaw_iff (s : State) : LampLaw s ↔ Shown s ∧ Lit s := by
  constructor
  · intro h
    refine ⟨⟨fun r hr => ?_, fun r hr => ?_⟩, fun n r hr => ?_⟩
    · obtain ⟨n, hn⟩ := List.getElem?_of_mem hr
      obtain ⟨hview, -, -⟩ := h n r hn
      rw [Bool.eq_iff_iff, hview, decide_eq_true_iff]
    · obtain ⟨n, hn⟩ := List.getElem?_of_mem hr
      obtain ⟨-, hblink, -⟩ := h n r hn
      rw [Bool.eq_iff_iff, hblink, alarmBlinks_iff]
    · obtain ⟨-, -, hout⟩ := h n r hr
      rw [Bool.eq_iff_iff, hout, lampOutput_iff]
  · rintro ⟨⟨hview, hblink⟩, hdriven⟩ n r hr
    have hmem := List.mem_of_getElem? hr
    refine ⟨?_, ?_, ?_⟩
    · rw [hview r hmem, decide_eq_true_iff]
    · rw [hblink r hmem, alarmBlinks_iff]
    · rw [hdriven n r hr, lampOutput_iff]

/-! ## What keeps them -/

theorem Viewed.of_lamps {s t : State} (h : t.run.tu.lamps = s.run.tu.lamps) : Preserves Viewed s t := by
  intro hs
  rwa [Viewed, h]

theorem viewed_mapFrom {f : Nat → LampRec → LampRec}
    (hf : ∀ n r, r.requested = decide (r.view ≠ 0#64) → (f n r).requested = decide ((f n r).view ≠ 0#64))
    {s t : State} (h : t.run.tu.lamps = mapFrom f 0 s.run.tu.lamps) : Preserves Viewed s t := by
  intro hs r hr
  rw [h] at hr
  obtain ⟨n, a, ha, rfl⟩ := mem_mapFrom hr
  exact hf n a (hs a ha)

theorem viewed_warn : Warn (Preserves Viewed) :=
  .of_free (fun _ => id) (fun h h' hs => h' (h hs)) (fun _ _ => .of_lamps rfl) (fun _ _ _ => .of_lamps rfl)
    (fun s j now => viewed_mapFrom (f := lampChange s j now) (fun n r hr => by
      unfold lampChange
      split
      · split
        · rfl
        · exact hr
      · exact hr) rfl)
    (fun s => viewed_mapFrom (f := fun _ r => { r with alarmBlink := alarmBlinks r.view s.run.tu.alerts })
      (fun _ _ hr => hr) (mapFrom_const _ _ _).symm)
    (fun s => viewed_mapFrom (f := fun n r => { r with output := lampOutput s n r }) (fun _ _ hr => hr) rfl)
    fun _ _ _ => .of_lamps rfl

theorem Shown.of_tu {s t : State} (hl : t.run.tu.lamps = s.run.tu.lamps) (ha : t.run.tu.alerts = s.run.tu.alerts) :
    Preserves Shown s t := by
  rintro ⟨hview, hblink⟩
  refine ⟨Viewed.of_lamps hl hview, ?_⟩
  rwa [Blinked, hl, ha]

theorem Blinked.refreshed (s : State) : Blinked (refreshBlink s) := by
  intro r hr
  obtain ⟨a, -, rfl⟩ := List.mem_map.1 hr
  rfl

theorem Blinked.driven {s : State} (h : Blinked s) : Blinked (driveLamps s) := by
  intro r hr
  obtain ⟨n, a, ha, rfl⟩ := mem_mapFrom hr
  exact h a ha

theorem lampOutput_same {s t : State} (hmode : t.mode = s.mode) (hover : t.run.flags.overVoltage = s.run.flags.overVoltage)
    (hcheck : t.run.tu.lampCheck.isSome = s.run.tu.lampCheck.isSome) (htable : t.run.tables.lamps = s.run.tables.lamps)
    (n : Nat) (r : LampRec) : lampOutput t n r = lampOutput s n r := by
  unfold lampOutput lampAt
  rw [hmode, hover, hcheck, htable]

/-- Outputs driven afresh are those of the drive table. -/
theorem Lit.driveLamps (s : State) : Lit (driveLamps s) := by
  intro n r hr
  unfold Machine.driveLamps at hr
  rw [mapFrom_getElem?] at hr
  obtain ⟨a, -, rfl⟩ := Option.map_eq_some_iff.1 hr
  simp only [Nat.zero_add]
  rfl

/-- The lamps are as they were, and so is what the drive table reads. -/
theorem Lit.of_same {s t : State} (hl : t.run.tu.lamps = s.run.tu.lamps)
    (h : ∀ n r, lampOutput t n r = lampOutput s n r) : Preserves Lit s t := by
  intro hs n r hr
  rw [hl] at hr
  rw [h]
  exact hs n r hr

theorem LampLaw.of_same {s t : State} (hl : t.run.tu.lamps = s.run.tu.lamps) (ha : t.run.tu.alerts = s.run.tu.alerts)
    (h : ∀ n r, lampOutput t n r = lampOutput s n r) : Preserves LampLaw s t := by
  intro hs
  obtain ⟨hshown, hdriven⟩ := (lampLaw_iff s).1 hs
  exact (lampLaw_iff t).2 ⟨.of_tu hl ha hshown, .of_same hl h hdriven⟩

theorem LampLaw.driveLamps {s : State} (h : Shown s) : LampLaw (driveLamps s) :=
  (lampLaw_iff _).2 ⟨⟨viewed_warn.drive s h.1, h.2.driven⟩, .driveLamps s⟩

theorem Still.lampOutput {s t : State} (h : Still s t) (n : Nat) (r : LampRec) : lampOutput t n r = lampOutput s n r :=
  lampOutput_same h.mode h.over_ (by rw [h.lampCheck]) h.lampTable n r

theorem Still.lampLaw {s t : State} (h : Still s t) : Preserves LampLaw s t := .of_same h.lamps h.alerts h.lampOutput

theorem Still.shown {s t : State} (h : Still s t) : Preserves Shown s t := .of_tu h.lamps h.alerts

theorem telltaleIfChanged_still (before s : State) : Still s (telltaleIfChanged before s) := by
  unfold telltaleIfChanged noticeIfOn
  split
  · exact .refl s
  · split
    · exact still_of_eq rfl rfl rfl rfl rfl rfl
    · exact .refl s

/-- What every change of the Alert List ends with makes the law good again. -/
theorem Viewed.redriven {s : State} (h : Viewed s) (before : State) :
    LampLaw (telltaleIfChanged before (driveLamps (refreshBlink s))) :=
  (telltaleIfChanged_still before _).lampLaw (.driveLamps ⟨viewed_warn.blink s h, .refreshed s⟩)

theorem lampLaw_telltaleChange (j : Nat) (old now : CondState) (s : State) :
    telltaleChange j old now s = (s, none) ∨ (Viewed s → LampLaw (telltaleChange j old now s).1) := by
  unfold telltaleChange
  split
  · exact .inl rfl
  · next c hc =>
    refine .inr fun hs => Viewed.redriven ?_ s
    exact viewed_warn.chimeOf c old now _ (viewed_warn.alerts (.change old now hc) (viewed_warn.view s j now hs))

theorem Shown.viewed {s : State} (h : Shown s) : Viewed s := h.1

theorem LampLaw.shown {s : State} (h : LampLaw s) : Shown s := ((lampLaw_iff s).1 h).1

theorem lampLaw_tasks : Tasks (Preserves LampLaw) where
  refl _ := id
  trans h h' hs := h' (h hs)
  record _ _ _ := .of_same rfl rfl fun _ _ => rfl
  change j old now s := by
    rcases lampLaw_telltaleChange j old now s with h | h
    · rw [h]
      exact id
    · exact fun hs => h hs.shown.viewed

theorem shown_tasks : Tasks (Preserves Shown) where
  refl _ := id
  trans h h' hs := h' (h hs)
  record _ _ _ := .of_tu rfl rfl
  change j old now s := by
    rcases lampLaw_telltaleChange j old now s with h | h
    · rw [h]
      exact id
    · exact fun hs => (h hs.viewed).shown

theorem lampLaw_acknowledge (found : Option Nat) (s : State) : acknowledge found s = s ∨ (Viewed s → LampLaw (acknowledge found s)) := by
  cases found with
  | none => exact .inl rfl
  | some j =>
    refine .inr fun hs => Viewed.redriven ?_ s
    exact viewed_warn.alerts (.settled j) (viewed_warn.tasks.runTasks _ _ (viewed_warn.alerts (.acked j) hs))

theorem lampLaw_filterAlerts {s : State} (h : Viewed s) : LampLaw (filterAlerts s) :=
  Viewed.redriven (viewed_warn.alerts .filtered h) s

theorem shown_alertTimes {f : Alert → Alert} (hf : ∀ a, SameAlert a (f a)) (s : State) :
    Preserves Shown s { s with run.tu.alerts := s.run.tu.alerts.map f } := by
  rintro ⟨hview, hblink⟩
  refine ⟨.of_lamps rfl hview, fun r hr => (hblink r hr).trans ?_⟩
  have hsame (a : Alert) : ((f a).cond, (f a).acked, (f a).severity) = (a.cond, a.acked, a.severity) := by
    obtain ⟨hcond, hacked, hseverity⟩ := hf a
    rw [hcond, hacked, hseverity]
  simp only [Prod.mk.injEq] at hsame
  simp [alarmBlinks, List.any_map, Function.comp_def, hsame]

/-- Lamps with the views that they had. -/
theorem shown_sameView {s t : State} (h : Pointwise SameView s.run.tu.lamps t.run.tu.lamps)
    (ha : t.run.tu.alerts = s.run.tu.alerts) : Preserves Shown s t := by
  rintro ⟨hview, hblink⟩
  refine ⟨fun r' hr' => ?_, fun r' hr' => ?_⟩
  · obtain ⟨r, hr, hv, hq, -⟩ := h.mem hr'
    rw [hq, hv]
    exact hview r hr
  · obtain ⟨r, hr, hv, -, hb⟩ := h.mem hr'
    rw [hb, hv, ha]
    exact hblink r hr

theorem countDown_isSome (x : Option Nat) : (countDown x).isSome = x.isSome := by cases x <;> rfl

theorem lampLaw_core : Core (Preserves LampLaw) :=
  .of_still Still.lampLaw (fun h h' hs => h' (h hs)) (fun _ s => lampLaw_tasks.runTasks _ s)
    (fun _ _ => lampLaw_tasks.changeCondition _ _ _)
    (fun found s hs => by
      rcases lampLaw_acknowledge found s with h | h
      · rwa [h]
      · exact h hs.shown.viewed)
    (fun _ => .of_same rfl rfl fun _ _ => rfl)
    (fun hf s hs => (lampLaw_iff _).2 ⟨shown_alertTimes hf s hs.shown, .of_same rfl (fun _ _ => rfl) ((lampLaw_iff s).1 hs).2⟩)
    (fun _ => .of_same rfl rfl fun _ _ => rfl)
    (fun _ => .of_same rfl rfl fun _ _ => rfl)
    (fun {s l} check hl hs => .driveLamps
      (shown_sameView (t := { s with run.tu.lamps := l, run.tu.lampCheck := check }) (hl.imp fun _ _ h => h.1) rfl hs.shown))
    (fun {s l v} hview hout hs => (lampLaw_iff _).2
      ⟨shown_sameView (t := { s with run.tu.lamps := l, run.flags.lampFault := v }) hview rfl hs.shown, fun n r' hr' => by
        obtain ⟨r, hr, -⟩ := hview.2 n r' hr'
        exact hout n r r' hr hr' (((lampLaw_iff s).1 hs).2 n r hr)⟩)
    (fun s => .of_same rfl rfl (lampOutput_same rfl rfl (countDown_isSome _) rfl))
    fun hmode => .of_same rfl rfl fun n r => by simp [lampOutput, lampAt, hmode]

theorem shown_core : Core (Preserves Shown) :=
  .of_still Still.shown (fun h h' hs => h' (h hs)) (fun _ s => shown_tasks.runTasks _ s)
    (fun _ _ => shown_tasks.changeCondition _ _ _)
    (fun found s hs => by
      rcases lampLaw_acknowledge found s with h | h
      · rwa [h]
      · exact (h hs.viewed).shown)
    (fun _ => .of_tu rfl rfl) shown_alertTimes (fun _ => .of_tu rfl rfl) (fun _ => .of_tu rfl rfl)
    (fun {s l} check hl hs => (LampLaw.driveLamps (shown_sameView (t := { s with run.tu.lamps := l, run.tu.lampCheck := check })
      (hl.imp fun _ _ h => h.1) rfl hs)).shown)
    (fun hview _ => shown_sameView hview rfl) (fun _ => .of_tu rfl rfl) fun _ => .of_tu rfl rfl

/-- Every lamp is at its reset value, and the Alert List is empty. -/
theorem Shown.of_initial {s : State} (hl : s.run.tu.lamps = Tu.initial.lamps) (ha : s.run.tu.alerts = []) : Shown s := by
  constructor
  · intro r hr
    rw [hl] at hr
    rw [List.eq_of_mem_replicate hr]
    rfl
  · intro r hr
    rw [hl] at hr
    rw [List.eq_of_mem_replicate hr, ha]
    rfl

theorem shown_leaves : Leaves (Preserves Shown) :=
  .of_still shown_core shown_tasks Still.shown (fun _ _ _ => .of_tu rfl rfl)
    (fun _ _ _ _ => .of_tu (by rw [putFlag_tu]) (by rw [putFlag_tu])) (fun _ _ => .of_tu rfl rfl)
    (fun _ hs => (lampLaw_filterAlerts hs.viewed).shown) (fun _ _ => .of_tu rfl rfl)
    (fun s => by
      unfold abandonConditions
      generalize List.range 64 = conditions
      exact fun hs => Shown.of_tu (s := conditions.foldl abandonCondition { s with run.cu.evaluating := false }) rfl rfl
        (shown_tasks.abandonAll conditions { s with run.cu.evaluating := false } (Shown.of_tu (s := s) rfl rfl hs)))
    (fun _ => .of_tu rfl rfl) (fun _ => .of_tu rfl rfl) (fun _ _ => .of_initial rfl rfl)
    (fun _ _ => .of_initial rfl rfl) (fun _ _ => .of_initial rfl rfl) fun _ _ _ => .of_initial rfl rfl

/-! ## The law through the larger changes -/

/-- The modes in which the outputs follow the lamps (R86). -/
theorem lampLaw_mode {s : State} {m : Mode} {p : Phase} (hs : s.mode.ignition = some true) (hm : m.ignition = some true) :
    Preserves LampLaw s { s with mode := m, phase := p } := by
  refine .of_same rfl rfl fun n r => ?_
  have hnot {m : Mode} (h : m.ignition = some true) : m ≠ .standby ∧ m ≠ .shutdown := by cases m <;> simp_all [Mode.ignition]
  simp [lampOutput, lampAt, hnot hs, hnot hm]

theorem putFlag_overVoltage {f : FlagId} (hf : f ≠ .overVoltage) (s : State) (v : Bool) :
    (putFlag s f v).run.flags.overVoltage = s.run.flags.overVoltage := by
  cases f with
  | overVoltage => exact absurd rfl hf
  | _ => rfl

theorem lampLaw_putFlag {f : FlagId} (hf : f ≠ .overVoltage) (s : State) (v : Bool) :
    Preserves LampLaw s (putFlag s f v) :=
  .of_same (by rw [putFlag_tu]) (by rw [putFlag_tu]) (lampOutput_same (putFlag_mode s f v)
    (putFlag_overVoltage hf s v) (by rw [putFlag_tu]) (by rw [putFlag_tables]))

theorem lampLaw_forcedExit (s : State) : Preserves LampLaw s (forcedExit s) :=
  lampLaw_core.forcedExit_of (fun s hs => lampLaw_mode (p := s.phase) (by rw [hs]; rfl) rfl) (lampLaw_putFlag (by decide)) s

/-- R86: the outputs follow F10. -/
theorem lampLaw_setOver (s : State) : Preserves LampLaw s (setOver s) :=
  fun hs => (lampLaw_iff _).2 ⟨shown_leaves.kept.setOver s hs.shown, .driveLamps _⟩

theorem lampLaw_clearOver (s : State) : Preserves LampLaw s (clearOver s) :=
  fun hs => (lampLaw_iff _).2 ⟨shown_leaves.kept.clearOver s hs.shown, .driveLamps _⟩

theorem restartShown_still (s : State) : Still (driveLamps (writeSlotSignals s)) (restartShown s) :=
  still_of_eq rfl rfl rfl rfl rfl rfl

theorem lampLaw_restartShown {s : State} (hs : Shown s) : LampLaw (restartShown s) :=
  (restartShown_still s).lampLaw (.driveLamps (shown_core.writeSlotSignals s hs))

theorem lampLaw_restartRuns {s : State} (hs : s.mode.ignition = some true) : Preserves LampLaw s (restartRuns s) :=
  fun h => lampLaw_core.noticeIfOn .status _ (lampLaw_mode (p := s.phase) hs rfl h)

theorem restartPlaced_mode (s : State) : (restartPlaced s).mode = s.mode := rfl

theorem lampLaw_restarted {s : State} (levels : BitVec 16) (hval : serviceValidating s = true) (hs : Shown s) :
    LampLaw (restarted levels s) := by
  have hplaced : Shown (restartPlaced (activate (validate (restartReset s).store) levels (restartReset s))) :=
    shown_core.reportGauges _ (shown_leaves.placed _ (shown_leaves.activate _ levels _
      (shown_leaves.restartedRun _ (shown_core.releaseForcings s hs))))
  refine lampLaw_restartRuns ?_ (lampLaw_restartShown hplaced)
  rw [(restartShown_driveOnly _).mode, restartPlaced_mode, activate_mode, restartReset_mode, serviceValidating_mode hval]
  rfl

theorem lampLaw_kept : Kept (Preserves LampLaw) where
  toCore := lampLaw_core
  forcedExit := lampLaw_forcedExit
  signalEvent _ ht _ hs := lampLaw_core.roadSpeedEvent_of lampLaw_forcedExit _ _ (ht (LampLaw.of_same rfl rfl (fun _ _ => rfl) hs))
  inputSample := lampLaw_core.inputSample_of (fun _ _ _ => .of_same rfl rfl fun _ _ => rfl) lampLaw_forcedExit
  enterService hrun _ := lampLaw_core.enterService_of (fun s hs => lampLaw_mode (p := s.phase) (by rw [hs]; rfl) rfl)
    (lampLaw_putFlag (by decide)) hrun
  supervised _ _ ht hs := lampLaw_core.superviseRoutes_of (lampLaw_putFlag (by decide)) (lampLaw_putFlag (by decide))
    (lampLaw_putFlag (by decide)) _ (ht (LampLaw.of_same rfl rfl (fun _ _ => rfl) hs))
  setUnder := lampLaw_core.setUnder_of (lampLaw_putFlag (by decide))
  clearUnder := lampLaw_core.clearUnder_of (lampLaw_putFlag (by decide))
  setOver := lampLaw_setOver
  clearOver := lampLaw_clearOver
  restart levels hval := lampLaw_core.restart_of_restarted hval fun hs => lampLaw_restarted levels hval hs.shown

/-- An unlit STANDBY with every lamp at its reset value. -/
theorem LampLaw.of_standby {s : State} (hmode : s.mode = .standby) (hl : s.run.tu.lamps = Tu.initial.lamps)
    (ha : s.run.tu.alerts = []) : LampLaw s := by
  refine (lampLaw_iff s).2 ⟨.of_initial hl ha, fun n r hr => ?_⟩
  rw [hl] at hr
  rw [List.eq_of_mem_replicate (List.mem_of_getElem? hr), lampOutput, if_pos hmode]
  rfl

theorem coldBegun_lampLaw (s : State) : LampLaw (beginStartup { s with run := Run.initial }) := by
  refine (lampLaw_iff _).2 ⟨.of_initial rfl rfl, fun n r hr => ?_⟩
  rw [List.eq_of_mem_replicate (List.mem_of_getElem? hr)]
  rfl

theorem lit_darkenLamps (s : State) : Lit (darkenLamps s) := by
  unfold darkenLamps releaseLamps chimeSilence
  dsimp only
  generalize ({ s with run.tu.lamps := _, run.tu.lampCheck := _, run.tu.alerts := _ } : State) = u
  exact .of_same (s := driveLamps u) rfl (fun _ _ => rfl) (.driveLamps u)

theorem warmStopped_shown (s : State) : Preserves Shown s (warmStopped s) := by
  unfold warmStopped
  exact fun hs => shown_leaves.stopped _ (shown_leaves.abandoned _ (shown_leaves.dropRoutes _ (shown_leaves.beginStartup s hs)))

theorem shutdownDark_lampLaw {s : State} (hs : Shown s) : LampLaw (shutdownDark s) :=
  (lampLaw_iff _).2 ⟨shown_core.dark_of (shown_leaves.anyMode _ _ _) shown_leaves.checkOff hs, lit_darkenLamps _⟩

theorem lampLaw_activate {m : List Host.Cell} (levels : BitVec 16) {s : State} (hs : Shown s) :
    LampLaw (activate (validate m) levels s) := by
  have hcounted (n : Nat) : Shown { s with run.mc.disabledCount := n, run.mu.storeDiffers := false } := .of_tu rfl rfl hs
  have hflag := shown_core.flagDelivered (shown_leaves.anyFlag .configFault (by decide) _
    (decide ((validate m).failures.length ≠ 0))) (hcounted (validate m).failures.length)
  have hreplaced := shown_leaves.replaced m _ (shown_leaves.sampling levels _ (shown_leaves.tables ⟨m, rfl⟩ _ hflag))
  exact lampLaw_tasks.runTasks _ _ (LampLaw.of_same rfl rfl (fun _ _ => rfl) (lampLaw_filterAlerts hreplaced.viewed))

theorem lampLaw_outer : Outer (Preserves LampLaw) where
  refl _ := id
  trans h h' hs := h' (h hs)
  path _ hpath := hpath _ lampLaw_kept
  standby _ _ := .of_standby rfl rfl rfl
  clocks _ _ _ _ := .of_same rfl rfl fun _ _ => rfl
  asleepMinute _ := lampLaw_core.minuteEvent _
  shutdown _ := lampLaw_core.shutdown_of (fun hs => shutdownDark_lampLaw hs.shown) fun t _ => lampLaw_putFlag (by decide) t _
  warm _ hs := by
    rw [warmStart_eq]
    exact lampLaw_core.noticeIfOn .status _ (.driveLamps (warmStopped_shown _ hs.shown))
  cold _ := lampLaw_core.cold_of fun _ => coldBegun_lampLaw _
  reset _ _ _ := .of_standby rfl rfl rfl
  completes levels hval := lampLaw_kept.completeStartup_of hval fun t hmode _ hs =>
    lampLaw_mode (by rw [activate_mode, hmode]; rfl) (by rw [activate_mode, hmode]; rfl) (lampLaw_activate levels hs.shown)

/-- Settles O59: the outputs are driven afresh at the end of each change that the drive table reads. -/
theorem lampLawIsKept : Obligations.LampLawIsKept := by
  unfold Obligations.LampLawIsKept
  intro s t hstep
  exact lampLaw_outer.step (fun _ _ => .of_same rfl rfl fun _ _ => rfl) hstep

end Sys2Proof.Machine
end

section
/-! PROOFS. What the supply flags and SHUTDOWN hold still: the channels (R56), and the chime (R98, R101). -/

namespace Sys2Proof.Machine

/-! ## The chime -/

/-- The order of the chime queue, and the chime in SHUTDOWN. -/
structure ChimeRest (s : State) : Prop where
  order : ChimeOrder s.run.tu.chime.queue
  shutdown : s.mode = .shutdown → s.run.tu.chime = Chime.initial

/-- The chime's part of the law. -/
structure ChimeLaw (s : State) : Prop extends ChimeRest s where
  silent : s.run.flags.underVoltage = true → s.run.tu.chime.playing = none

theorem ChimeLaw.of_initial {s : State} (h : s.run.tu.chime = Chime.initial) : ChimeLaw s where
  order := by
    rw [h]
    exact .nil
  silent _ := by
    rw [h]
    rfl
  shutdown _ := h

theorem ChimeLaw.of_same {s t : State} (hmode : t.mode = .shutdown → s.mode = .shutdown)
    (hunder : t.run.flags.underVoltage = true → s.run.flags.underVoltage = true)
    (hchime : t.run.tu.chime = s.run.tu.chime) : Preserves ChimeLaw s t := fun hs =>
  { order := by
      rw [hchime]
      exact hs.order
    silent := fun h => by
      rw [hchime]
      exact hs.silent (hunder h)
    shutdown := fun h => by
      rw [hchime]
      exact hs.shutdown (hmode h) }

theorem ChimeLaw.of_step {s : State} {c : Chime} (h : ChimeStep s c) : Preserves ChimeLaw s { s with run.tu.chime := c } := by
  obtain ⟨horder, hsilent, hshutdown⟩ := h
  exact fun hs => ⟨⟨horder hs.order, fun hm => hshutdown hm (hs.shutdown hm)⟩, fun hu => hsilent hu (hs.silent hu)⟩

theorem Still.chimeLaw {s t : State} (h : Still s t) : Preserves ChimeLaw s t :=
  .of_same (by rw [h.mode]; exact id) (by rw [h.under]; exact id) h.chime

theorem chimeStep_withdraw (s : State) : ChimeStep s s.run.tu.chime.withdraw := by
  have hfilter (hq : ChimeOrder s.run.tu.chime.queue) : ChimeOrder (s.run.tu.chime.queue.filter (· ≠ .rep)) :=
    List.Pairwise.filter _ hq
  unfold Chime.withdraw
  dsimp only
  split
  · next cur hplaying =>
    refine chimeStep_of_playing (by simp [hplaying]) fun hq => ?_
    split
    · exact chimeOrder_next (hfilter hq)
    · exact hfilter hq
  · refine ⟨hfilter, fun _ h => h, fun _ hinitial => ?_⟩
    rw [hinitial]
    rfl

/-- The chime takes an admitted change, under the mode and F9 as they were. -/
structure ChimeKept (s t : State) : Prop where
  mode : t.mode = s.mode
  under : t.run.flags.underVoltage = s.run.flags.underVoltage
  chime : ChimeStep s t.run.tu.chime

theorem ChimeKept.of_same {s t : State} (hmode : t.mode = s.mode)
    (hunder : t.run.flags.underVoltage = s.run.flags.underVoltage) (hchime : t.run.tu.chime = s.run.tu.chime) :
    ChimeKept s t := ⟨hmode, hunder, by rw [hchime]; exact ⟨id, fun _ => id, fun _ => id⟩⟩

theorem ChimeKept.trans {s t u : State} (h : ChimeKept s t) (h' : ChimeKept t u) : ChimeKept s u := by
  obtain ⟨hmode, hunder, horder, hsilent, hshutdown⟩ := h
  obtain ⟨hmode', hunder', horder', hsilent', hshutdown'⟩ := h'
  rw [hunder] at hsilent'
  rw [hmode] at hshutdown'
  exact ⟨hmode'.trans hmode, hunder'.trans hunder, fun hq => horder' (horder hq), fun hu hp => hsilent' hu (hsilent hu hp),
    fun hm hc => hshutdown' hm (hshutdown hm hc)⟩

theorem ChimeKept.chimeLaw {s t : State} (h : ChimeKept s t) : Preserves ChimeLaw s t := by
  obtain ⟨hmode, hunder, horder, hsilent, hshutdown⟩ := h
  refine fun hs => ⟨⟨horder hs.order, fun hm => ?_⟩, fun hu => ?_⟩
  · rw [hmode] at hm
    exact hshutdown hm (hs.shutdown hm)
  · rw [hunder] at hu
    exact hsilent hu (hs.silent hu)

theorem setAlerts_chimeKept (l : List Alert) (s : State) : ChimeKept s (setAlerts l s) := by
  unfold setAlerts withdrawIfNone
  split
  · exact ⟨rfl, rfl, chimeStep_withdraw s⟩
  · exact .of_same rfl rfl rfl

theorem chimeKept_warn : Warn ChimeKept where
  refl _ := .of_same rfl rfl rfl
  trans := .trans
  notice _ _ := .of_same rfl rfl rfl
  record _ _ _ := .of_same rfl rfl rfl
  view _ _ _ := .of_same rfl rfl rfl
  blink _ := .of_same rfl rfl rfl
  drive _ := .of_same rfl rfl rfl
  alerts _ := setAlerts_chimeKept _ _
  request p s := by
    obtain ⟨c, hc, heq⟩ := chimeRequest_step p s
    rw [heq]
    exact ⟨rfl, rfl, hc⟩

theorem chimeLaw_tasks : Tasks (Preserves ChimeLaw) where
  refl _ := id
  trans h h' hs := h' (h hs)
  record _ _ _ := .of_same id id rfl
  change j old now s := (chimeKept_warn.telltaleChange j old now s).chimeLaw

theorem chimeLaw_core : Core (Preserves ChimeLaw) :=
  .of_still Still.chimeLaw (fun h h' hs => h' (h hs)) (fun _ s => chimeLaw_tasks.runTasks _ s)
    (fun _ _ => chimeLaw_tasks.changeCondition _ _ _) (fun found s => (chimeKept_warn.acknowledge found s).chimeLaw) .of_step
    (fun _ _ => .of_same id id rfl) (fun _ => .of_same id id rfl) (fun _ => .of_same id id rfl)
    (fun _ _ => .of_same id id rfl) (fun _ _ => .of_same id id rfl) (fun _ => .of_same id id rfl)
    fun _ => .of_same nofun id rfl

theorem chimeLaw_putFlag {f : FlagId} (hf : f ≠ .underVoltage) (s : State) (v : Bool) :
    Preserves ChimeLaw s (putFlag s f v) := by
  cases f
  case underVoltage => exact absurd rfl hf
  all_goals exact .of_same id id rfl

/-- A changed flag, with its consequences for the conditions. -/
theorem flagChange_chimeRest (f : FlagId) (v : Bool) (s : State) : Preserves ChimeRest s (flagChange f v s) := by
  rcases chimeKept_warn.flagDelivered f v s with h | h
  · rw [h]
    exact id
  · obtain ⟨hmode, -, horder, -, hshutdown⟩ := h
    rw [putFlag_mode] at hmode hshutdown
    rw [putFlag_tu] at horder hshutdown
    exact fun hs => ⟨horder hs.order, fun hm => hshutdown (hmode ▸ hm) (hs.shutdown (hmode ▸ hm))⟩

theorem ChimeRest.abandoned {s : State} (h : ChimeRest s) : ChimeLaw (abandonChime s) where
  order := (chimeStep_abandon s).1 h.order
  shutdown hm := (chimeStep_abandon s).2.2 hm (h.shutdown hm)
  silent _ := by
    unfold abandonChime Chime.abandon
    dsimp only
    split
    · rfl
    · assumption

/-- R101: whatever F9 has begun, the pattern that plays is abandoned. -/
theorem chimeLaw_setUnder (s : State) : Preserves ChimeLaw s (setUnder s) := by
  intro hs
  have hraised := flagChange_chimeRest .underVoltage true { s with run.iu.low := 0, run.iu.lowClear := 0 } ⟨hs.order, hs.shutdown⟩
  exact ChimeRest.abandoned (s := freezeGauges _) ⟨hraised.order, hraised.shutdown⟩

theorem chimeLaw_clearUnder (s : State) : Preserves ChimeLaw s (clearUnder s) := by
  have hcleared : Preserves ChimeLaw s (putFlag { s with run.iu.low := 0, run.iu.lowClear := 0 } .underVoltage false) :=
    .of_same id nofun rfl
  exact chimeLaw_core.trans (chimeLaw_core.trans (chimeLaw_core.flagDelivered hcleared) (chimeLaw_core.resumeGauges _))
    (chimeLaw_core.chimeResume _)

theorem chimeLaw_mode {m : Mode} {p : Phase} (hm : m ≠ .shutdown) (s : State) :
    Preserves ChimeLaw s { s with mode := m, phase := p } := .of_same (fun h => absurd h hm) id rfl

theorem chimeLaw_forcedExit (s : State) : Preserves ChimeLaw s (forcedExit s) :=
  chimeLaw_core.forcedExit_of (fun s _ => chimeLaw_mode (p := s.phase) (by decide) s) (chimeLaw_putFlag (by decide)) s

theorem chimeLaw_filterAlerts (s : State) : Preserves ChimeLaw s (filterAlerts s) :=
  (chimeKept_warn.filterAlerts s).chimeLaw

theorem chimeLaw_activate (m : List Host.Cell) (levels : BitVec 16) (s : State) :
    Preserves ChimeLaw s (activate (validate m) levels s) :=
  chimeLaw_core.activate_of (fun _ _ => .of_same id id rfl) (fun _ => .of_same id id rfl) (fun _ => .of_same id id rfl)
    (chimeLaw_core.replaceParams_of (fun _ => .of_same id id rfl) fun _ => .of_same id id rfl) chimeLaw_filterAlerts
    (fun s => chimeLaw_tasks.trans (t := { s with run.cu.evaluating := true, run.cu.recs := List.replicate 64 CondRec.initial })
      (.of_same id id rfl) (chimeLaw_tasks.runTasks _ _)) s

theorem chimeLaw_kept : Kept (Preserves ChimeLaw) where
  toCore := chimeLaw_core
  forcedExit := chimeLaw_forcedExit
  signalEvent _ ht _ hs := chimeLaw_core.roadSpeedEvent_of chimeLaw_forcedExit _ _ (ht { hs with })
  inputSample := chimeLaw_core.inputSample_of (fun _ _ _ => .of_same id id rfl) chimeLaw_forcedExit
  enterService hrun _ := chimeLaw_core.enterService_of (fun s _ => chimeLaw_mode (p := s.phase) (by decide) s)
    (chimeLaw_putFlag (by decide)) hrun
  supervised _ _ ht hs := chimeLaw_core.superviseRoutes_of (chimeLaw_putFlag (by decide)) (chimeLaw_putFlag (by decide))
    (chimeLaw_putFlag (by decide)) _ (ht { hs with })
  setUnder := chimeLaw_setUnder
  clearUnder := chimeLaw_clearUnder
  setOver := chimeLaw_core.setOver_of (chimeLaw_putFlag (by decide))
  clearOver := chimeLaw_core.clearOver_of (chimeLaw_putFlag (by decide))
  restart levels hval := chimeLaw_core.restart_of hval (fun _ _ => .of_initial rfl) (fun s => chimeLaw_activate s.store levels s)
    (fun _ => .of_same id id rfl) fun s => chimeLaw_mode (p := s.phase) (by decide) s

theorem chimeLaw_abandonConditions (s : State) : Preserves ChimeLaw s (abandonConditions s) := by
  unfold abandonConditions
  generalize List.range 64 = conditions
  exact fun hs => ChimeLaw.of_same (s := conditions.foldl abandonCondition { s with run.cu.evaluating := false }) id id rfl
    (chimeLaw_tasks.abandonAll conditions { s with run.cu.evaluating := false } (ChimeLaw.of_same (s := s) id id rfl hs))

theorem chimeLaw_stopSampling (s : State) : Preserves ChimeLaw s (stopSampling s) := .of_same id id rfl

theorem chimeLaw_warmStopped (s : State) : Preserves ChimeLaw s (warmStopped s) := by
  intro hs
  have hbegun : ChimeLaw (beginStartup s) := ChimeLaw.of_same (s := s) nofun id rfl hs
  have hdropped : ChimeLaw (dropRoutes (beginStartup s)) := ChimeLaw.of_same (s := beginStartup s) id id rfl hbegun
  exact chimeLaw_stopSampling _ (chimeLaw_abandonConditions _ hdropped)

theorem shutdownDark_chime (s : State) : (shutdownDark s).run.tu.chime = Chime.initial := rfl

theorem chimeLaw_outer : Outer (Preserves ChimeLaw) where
  refl _ := id
  trans h h' hs := h' (h hs)
  path _ hpath := hpath _ chimeLaw_kept
  standby _ _ := .of_initial rfl
  clocks _ _ _ _ := .of_same id id rfl
  asleepMinute _ := chimeLaw_core.minuteEvent _
  shutdown _ := chimeLaw_core.shutdown_of (fun _ => .of_initial (shutdownDark_chime _)) fun t _ => chimeLaw_putFlag (by decide) t _
  warm _ := chimeLaw_core.warm_of (chimeLaw_warmStopped _)
  cold _ := chimeLaw_core.cold_of fun _ => .of_initial rfl
  reset _ _ _ := .of_initial rfl
  completes levels hval := chimeLaw_kept.completeStartup_of hval fun t hmode _ hs =>
    chimeLaw_mode (by rw [activate_mode, hmode]; decide) _ (chimeLaw_activate _ levels t hs)

/-! ## The channels -/

/-- The channels' part of the law. -/
structure FrozenLaw (s : State) : Prop where
  still : supplyFault s = true → ∀ c ∈ s.run.gu.channels, c.state.freezable = false
  moving : supplyFault s = false → ∀ c ∈ s.run.gu.channels, c.state ≠ .frozen
  resume : ∀ c ∈ s.run.gu.channels, c.state = .frozen → c.resume.isSome = true

theorem FrozenLaw.of_same {s t : State} (hsupply : supplyFault t = supplyFault s)
    (hchannels : t.run.gu.channels = s.run.gu.channels) : Preserves FrozenLaw s t := fun hs =>
  { still := by
      rw [hsupply, hchannels]
      exact hs.still
    moving := by
      rw [hsupply, hchannels]
      exact hs.moving
    resume := by
      rw [hchannels]
      exact hs.resume }

theorem Quiet.frozenLaw {s t : State} (h : Quiet s t) : Preserves FrozenLaw s t :=
  .of_same (by rw [supplyFault, h.flags, supplyFault]) h.channels

theorem DriveOnly.frozenLaw {s t : State} (h : DriveOnly s t) : Preserves FrozenLaw s t :=
  .of_same (by rw [supplyFault, h.flags, supplyFault]) (by rw [h.gu])

theorem FrozenLaw.of_step {s t : State} (hsupply : supplyFault t = supplyFault s)
    (h : Pointwise (ChannelStep (supplyFault s)) s.run.gu.channels t.run.gu.channels) : Preserves FrozenLaw s t := by
  intro hs
  refine ⟨fun hset c' hc' => ?_, fun hclear c' hc' => ?_, fun c' hc' => ?_⟩ <;>
    obtain ⟨c, hc, hstill, hmoving, hresume⟩ := h.mem hc'
  · rw [hsupply] at hset
    exact hstill hset (hs.still hset c hc)
  · rw [hsupply] at hclear
    exact hmoving hclear (hs.moving hclear c hc)
  · exact hresume (hs.resume c hc)

/-- Where no channel is FROZEN or may be frozen, the supply flags are free. -/
theorem FrozenLaw.of_rest {s : State} (h : ∀ c ∈ s.run.gu.channels, c.state.freezable = false ∧ c.state ≠ .frozen) :
    FrozenLaw s :=
  ⟨fun _ c hc => (h c hc).1, fun _ c hc => (h c hc).2, fun c hc hf => absurd hf (h c hc).2⟩

theorem FrozenLaw.of_initial {s : State} (h : s.run.gu.channels = Gu.initial.channels) : FrozenLaw s :=
  .of_rest fun c hc => by
    rw [h] at hc
    rw [List.eq_of_mem_replicate hc]
    exact ⟨rfl, nofun⟩

theorem frozenLaw_core : Core (Preserves FrozenLaw) :=
  .of_quiet Quiet.frozenLaw (fun h h' hs => h' (h hs)) (fun _ => .of_same rfl rfl) (fun _ => .of_same rfl rfl)
    (fun _ => .of_same rfl rfl) (fun _ _ _ _ _ _ => .of_same rfl rfl) (fun hl _ => .of_step rfl hl)
    (fun _ _ => .of_same rfl rfl) (fun _ _ => .of_same rfl rfl) (fun _ => .of_same rfl rfl) fun _ _ => .of_same rfl rfl

theorem freezeChannel_freezable (c : Channel) : (freezeChannel c).state.freezable = false := by
  unfold freezeChannel
  split
  · rfl
  · next h => cases hc : c.state <;> simp_all [ChanState.resume?, ChanState.freezable]

/-- R56: under a supply flag every channel that may be frozen is. -/
theorem FrozenLaw.frozen {s : State} (hset : supplyFault s = true)
    (hresume : ∀ c ∈ s.run.gu.channels, c.state = .frozen → c.resume.isSome = true) : FrozenLaw (freezeGauges s) where
  still _ c hc := by
    obtain ⟨n, a, -, rfl⟩ := mem_mapFrom hc
    exact freezeChannel_freezable a
  moving hclear := absurd (hset.symm.trans hclear) (by decide)
  resume c hc := by
    obtain ⟨n, a, ha, rfl⟩ := mem_mapFrom hc
    exact (freezeChannel_step a).2.2 (hresume a ha)

theorem resumeChannel_not_frozen {c : Channel} (h : c.state = .frozen → c.resume.isSome = true) :
    (resumeChannel c).state ≠ .frozen := by
  unfold resumeChannel
  split
  · next r _ _ => exact r.state_ne_frozen
  · next hnot =>
    intro hf
    obtain ⟨r, hr⟩ := Option.isSome_iff_exists.1 (h hf)
    exact hnot r hf hr

/-- R56: once both supply flags are clear, no channel stays FROZEN. -/
theorem FrozenLaw.resumed {s : State}
    (hstill : supplyFault s = true → ∀ c ∈ s.run.gu.channels, c.state.freezable = false)
    (hresume : ∀ c ∈ s.run.gu.channels, c.state = .frozen → c.resume.isSome = true) : FrozenLaw (resumeGauges s) := by
  unfold resumeGauges
  split
  · next hset => exact ⟨hstill, fun hclear => absurd (hset.symm.trans hclear) (by decide), hresume⟩
  · next hclear =>
    refine ⟨fun hset => absurd hset hclear, fun _ c hc => ?_, fun c hc => ?_⟩ <;> obtain ⟨n, a, ha, rfl⟩ := mem_mapFrom hc
    · exact resumeChannel_not_frozen (hresume a ha)
    · exact fun hf => absurd hf (resumeChannel_not_frozen (hresume a ha))

theorem flagChange_channels (f : FlagId) (v : Bool) (s : State) :
    (flagChange f v s).run.gu.channels = s.run.gu.channels := by
  rw [(flagChange_frame f v s).gu, putFlag_gu]

/-- R137, R138: a supply flag that is set freezes the channels. -/
theorem FrozenLaw.flagSet {f : FlagId} {s : State} (hset : supplyFault (flagChange f true s) = true) (hs : FrozenLaw s) :
    FrozenLaw (freezeGauges (flagChange f true s)) :=
  .frozen hset (by rw [flagChange_channels]; exact hs.resume)

/-- R137, R138: a supply flag that is cleared lets them resume unless the other is set. -/
theorem FrozenLaw.flagCleared {f : FlagId} {s : State}
    (hset : supplyFault (flagChange f false s) = true → supplyFault s = true) (hs : FrozenLaw s) :
    FrozenLaw (resumeGauges (flagChange f false s)) :=
  .resumed (by rw [flagChange_channels]; exact fun h => hs.still (hset h)) (by rw [flagChange_channels]; exact hs.resume)

theorem frozenLaw_setUnder (s : State) : Preserves FrozenLaw s (setUnder s) := by
  intro hs
  have hcounts : FrozenLaw { s with run.iu.low := 0, run.iu.lowClear := 0 } := { hs with }
  exact frozenLaw_core.abandonChime _ (.flagSet (by rw [supplyFault_flagChange_under]; rfl) hcounts)

theorem frozenLaw_setOver (s : State) : Preserves FrozenLaw s (setOver s) := by
  intro hs
  have hcounts : FrozenLaw { s with run.iu.high := 0, run.iu.highClear := 0 } := { hs with }
  exact frozenLaw_core.driveLamps _ (.flagSet (by rw [supplyFault_flagChange_over, Bool.or_true]) hcounts)

theorem frozenLaw_clearUnder (s : State) : Preserves FrozenLaw s (clearUnder s) := by
  intro hs
  have hcounts : FrozenLaw { s with run.iu.low := 0, run.iu.lowClear := 0 } := { hs with }
  refine frozenLaw_core.chimeResume _ (.flagCleared ?_ hcounts)
  rw [supplyFault_flagChange_under]
  exact fun h => Bool.or_eq_true_iff.2 (.inr h)

theorem frozenLaw_clearOver (s : State) : Preserves FrozenLaw s (clearOver s) := by
  intro hs
  have hcounts : FrozenLaw { s with run.iu.high := 0, run.iu.highClear := 0 } := { hs with }
  refine frozenLaw_core.driveLamps _ (.flagCleared ?_ hcounts)
  rw [supplyFault_flagChange_over, Bool.or_false]
  exact fun h => Bool.or_eq_true_iff.2 (.inl h)

theorem frozenLaw_putFlag {f : FlagId} (hf : f ≠ .underVoltage ∧ f ≠ .overVoltage) (s : State) (v : Bool) :
    Preserves FrozenLaw s (putFlag s f v) := by
  obtain ⟨hunder, hover⟩ := hf
  cases f
  case underVoltage => exact absurd rfl hunder
  case overVoltage => exact absurd rfl hover
  all_goals exact .of_same rfl rfl

theorem frozenLaw_forcedExit (s : State) : Preserves FrozenLaw s (forcedExit s) :=
  frozenLaw_core.forcedExit_of (fun _ _ => .of_same rfl rfl) (frozenLaw_putFlag (by decide)) s

theorem restartChannel_not_frozen (s : State) (n : Nat) (c : Channel) : (restartChannel s n c).state ≠ .frozen := by
  unfold restartChannel
  split
  · simp [idleChannel]
  · split
    · simp
    · simp [homeChannel]

/-- R59: the restart clears F9 and F10, and no channel is FROZEN. -/
theorem restartedBase_frozenLaw (new : NewTables) (levels : BitVec 16) (s : State) :
    FrozenLaw (restartedBase new levels s) where
  still := nofun
  moving _ c hc := by
    obtain ⟨n, a, -, rfl⟩ := mem_mapFrom hc
    exact restartChannel_not_frozen _ _ _
  resume c hc := by
    obtain ⟨n, a, -, rfl⟩ := mem_mapFrom hc
    exact fun hf => absurd hf (restartChannel_not_frozen _ _ _)

theorem frozenLaw_kept : Kept (Preserves FrozenLaw) where
  toCore := frozenLaw_core
  forcedExit := frozenLaw_forcedExit
  signalEvent _ ht _ hs := frozenLaw_core.roadSpeedEvent_of frozenLaw_forcedExit _ _ (ht { hs with })
  inputSample := frozenLaw_core.inputSample_of (fun _ _ _ => .of_same rfl rfl) frozenLaw_forcedExit
  enterService hrun _ := frozenLaw_core.enterService_of (fun _ _ => .of_same rfl rfl) (frozenLaw_putFlag (by decide)) hrun
  supervised _ _ ht hs := frozenLaw_core.superviseRoutes_of (frozenLaw_putFlag (by decide)) (frozenLaw_putFlag (by decide))
    (frozenLaw_putFlag (by decide)) _ (ht { hs with })
  setUnder := frozenLaw_setUnder
  clearUnder := frozenLaw_clearUnder
  setOver := frozenLaw_setOver
  clearOver := frozenLaw_clearOver
  restart levels hval := frozenLaw_core.restart_of_restarted hval fun _ =>
    (restarted_driveOnly levels _).frozenLaw (restartedBase_frozenLaw _ levels _)

theorem activationBase_frozenLaw (new : NewTables) (levels : BitVec 16) (s : State) :
    Preserves FrozenLaw s (activationBase new levels s) := .of_same rfl rfl

theorem warmBase_frozenLaw (s : State) : Preserves FrozenLaw s (warmBase s) := .of_same rfl rfl

theorem frozenLaw_outer : Outer (Preserves FrozenLaw) where
  refl _ := id
  trans h h' hs := h' (h hs)
  path _ hpath := hpath _ frozenLaw_kept
  standby _ _ := .of_initial rfl
  clocks _ _ _ _ := .of_same rfl rfl
  asleepMinute _ := frozenLaw_core.minuteEvent _
  shutdown _ := frozenLaw_core.shutdown_of (frozenLaw_core.dark_of (.of_same rfl rfl) fun _ => .of_same rfl rfl)
    fun t _ => frozenLaw_putFlag (by decide) t _
  warm _ hs := (warmStart_frame _).quiet.frozenLaw (warmBase_frozenLaw _ hs)
  cold _ := frozenLaw_core.cold_of fun _ => .of_initial rfl
  reset _ _ _ := .of_initial rfl
  completes levels hval := frozenLaw_kept.completeStartup_of hval fun t _ _ hs =>
    ((activate_driveOnly _ levels t).inPhase _).frozenLaw { activationBase_frozenLaw _ levels t hs with }

theorem supplyLaw_iff (s : State) : SupplyLaw s ↔ FrozenLaw s ∧ ChimeLaw s := by
  constructor
  · rintro ⟨hstill, hmoving, hresume, horder, hsilent, hshutdown⟩
    exact ⟨⟨hstill, hmoving, hresume⟩, ⟨horder, hshutdown⟩, hsilent⟩
  · rintro ⟨⟨hstill, hmoving, hresume⟩, ⟨horder, hshutdown⟩, hsilent⟩
    exact ⟨hstill, hmoving, hresume, horder, hsilent, hshutdown⟩

/-- Settles O58: the channels' and the chime's part, each by the traversal of a step. -/
theorem supplyLawIsKept : Obligations.SupplyLawIsKept := by
  unfold Obligations.SupplyLawIsKept
  intro s t hstep hs
  obtain ⟨hfrozen, hchime⟩ := (supplyLaw_iff s).1 hs
  exact (supplyLaw_iff t).2 ⟨frozenLaw_outer.step (fun _ _ => .of_same rfl rfl) hstep hfrozen,
    chimeLaw_outer.step (fun _ _ => .of_same id id rfl) hstep hchime⟩

end Sys2Proof.Machine
end

section
/-! PROOFS. The Alert List's law (R92), and LATCHED conditions with the entries that stand for them (R70, R75, R76). -/

namespace Sys2Proof.Machine

/-! ## At most 16 entries, one for a condition -/

/-- The entries' conditions are among those there were. -/
theorem AlertLaw.of_sublist {l l' : List Alert} (h : (l'.map Alert.cond).Sublist (l.map Alert.cond)) (hl : AlertLaw l) :
    AlertLaw l' := by
  refine ⟨?_, hl.2.sublist h⟩
  have hlen := h.length_le
  simp only [List.length_map] at hlen
  exact hlen.trans hl.1

theorem AlertLaw.of_map {f : Alert → Alert} (hf : ∀ a, (f a).cond = a.cond) {l : List Alert} (hl : AlertLaw l) :
    AlertLaw (l.map f) := by
  refine hl.of_sublist ?_
  rw [List.map_map]
  exact (List.map_congr_left fun a _ => hf a) ▸ List.Sublist.refl _

theorem AlertLaw.of_filterMap {f : Alert → Option Alert} (hf : ∀ a b, f a = some b → b.cond = a.cond) {l : List Alert}
    (hl : AlertLaw l) : AlertLaw (l.filterMap f) := by
  refine hl.of_sublist ?_
  clear hl
  induction l with
  | nil => exact .slnil
  | cons a l ih =>
    rw [List.filterMap_cons]
    cases hfa : f a with
    | none => exact ih.cons _
    | some b =>
      rw [List.map_cons, List.map_cons, hf a b hfa]
      exact ih.cons_cons _

/-- One more entry, for a condition without one. -/
theorem AlertLaw.append {l : List Alert} (hl : AlertLaw l) {e : Alert} (hroom : l.length < 16) (hnew : ∀ a ∈ l, a.cond ≠ e.cond) :
    AlertLaw (l ++ [e]) := by
  refine ⟨by rw [List.length_append]; exact hroom, ?_⟩
  rw [List.map_append, List.nodup_append]
  refine ⟨hl.2, by simp, fun x hx y hy => ?_⟩
  obtain ⟨a, ha, rfl⟩ := List.mem_map.1 hx
  rw [List.map_singleton, List.mem_singleton] at hy
  rw [hy]
  exact hnew a ha

theorem alertLaw_enter (c : Condition) (j : Nat) (paused : Bool) {l : List Alert} (hl : AlertLaw l) :
    AlertLaw (alertEnter c j paused l).1 := by
  have hdropped {p : Alert → Bool} {old : Alert} (hold : l.find? p = some old) (hnone : ¬ l.any (fun a => decide (a.cond = j)) = true) :
      AlertLaw (dropFirst p l ++ [newAlert c j paused]) := by
    have hlen := dropFirst_length (List.any_eq_true.2 ⟨old, List.mem_of_find?_eq_some hold, List.find?_some hold⟩)
    have hdrop := hl.of_sublist ((dropFirst_sublist p l).map Alert.cond)
    refine hdrop.append (by have := hl.1; omega) fun a ha hcond => hnone (List.any_eq_true.2 ⟨a, ?_, ?_⟩)
    · exact (dropFirst_sublist p l).mem ha
    · simpa [newAlert] using hcond
  unfold alertEnter
  dsimp only
  split
  · next hany =>
    obtain ⟨a, ha, hcond⟩ := List.any_eq_true.1 hany
    have hkept : AlertLaw (l.filter fun a => decide (a.cond ≠ j)) := hl.of_sublist (List.filter_sublist.map _)
    refine hkept.append ?_ fun b hb => by simpa [newAlert] using (List.mem_filter.1 hb).2
    refine lt_of_lt_of_le ?_ hl.1
    exact List.length_filter_lt_length_iff_exists.2 ⟨a, ha, by simpa using hcond⟩
  · next hnone =>
    split
    · next hroom => exact hl.append hroom fun a ha hcond => hnone (List.any_eq_true.2 ⟨a, ha, by simpa [newAlert] using hcond⟩)
    · split
      · next hold => exact hdropped hold hnone
      · split
        · split
          · next hold => exact hdropped hold hnone
          · exact hl
        · exact hl

theorem alertLaw_change (s : State) (c : Condition) (j : Nat) (old now : CondState) (hl : AlertLaw s.run.tu.alerts) :
    AlertLaw (alertChange s c j old now).1 := by
  have hpause (running : Bool) : AlertLaw (alertPause j running s.run.tu.alerts) := hl.of_map fun a => by
    split
    · split <;> rfl
    · rfl
  unfold alertChange
  dsimp only
  split
  · split
    · exact alertLaw_enter _ _ _ hl
    · exact hl
  · split
    · refine hl.of_filterMap fun a b hab => ?_
      split at hab
      · split at hab <;> cases hab
        rfl
      · cases hab
        rfl
    · split
      · exact hpause _
      · split
        · exact hpause _
        · exact hl

/-- Each change of the Alert List keeps R92's law. -/
theorem AlertStep.alertLaw {s : State} {l : List Alert} (h : AlertStep s l) (hl : AlertLaw s.run.tu.alerts) : AlertLaw l := by
  cases h with
  | change old now hc => exact alertLaw_change s _ _ _ _ hl
  | acked j => exact hl.of_map fun a => by split <;> rfl
  | settled j =>
    unfold dropSettled
    split
    · exact hl
    · exact hl.of_sublist (List.filter_sublist.map _)
  | filtered =>
    refine hl.of_filterMap fun a b hab => ?_
    split at hab
    · split at hab <;> cases hab
      rfl
    · cases hab

/-- R92's law in a state. -/
def Listed (s : State) : Prop := AlertLaw s.run.tu.alerts

theorem Listed.of_alerts {s t : State} (h : t.run.tu.alerts = s.run.tu.alerts) : Preserves Listed s t := by
  intro hs
  rwa [Listed, h]

@[simp] theorem setAlerts_alerts (l : List Alert) (s : State) : (setAlerts l s).run.tu.alerts = l := by
  unfold setAlerts withdrawIfNone
  split <;> rfl

@[simp] theorem chimeRequest_alerts (p : Pattern) (s : State) : (chimeRequest p s).run.tu.alerts = s.run.tu.alerts := by
  obtain ⟨c, -, h⟩ := chimeRequest_step p s
  rw [h]

theorem listed_warn : Warn (Preserves Listed) where
  refl _ := id
  trans h h' hs := h' (h hs)
  notice _ _ := .of_alerts rfl
  record _ _ _ := .of_alerts rfl
  view _ _ _ := .of_alerts rfl
  blink _ := .of_alerts rfl
  drive _ := .of_alerts rfl
  alerts hl hs := by
    rw [Listed, setAlerts_alerts]
    exact hl.alertLaw hs
  request p s := .of_alerts (chimeRequest_alerts p s)

theorem listed_core : Core (Preserves Listed) :=
  .of_still (fun h => .of_alerts h.alerts) (fun h h' hs => h' (h hs)) (fun _ s => listed_warn.tasks.runTasks _ s)
    (fun _ _ => listed_warn.tasks.changeCondition _ _ _) listed_warn.acknowledge (fun _ => .of_alerts rfl)
    (fun hf _ hs => AlertLaw.of_map (fun a => (hf a).1) hs) (fun _ => .of_alerts rfl) (fun _ => .of_alerts rfl)
    (fun _ _ => .of_alerts rfl) (fun _ _ => .of_alerts rfl) (fun _ => .of_alerts rfl) fun _ => .of_alerts rfl

theorem Listed.of_empty {s : State} (h : s.run.tu.alerts = []) : Listed s := by
  rw [Listed, h]
  exact ⟨by simp, by simp⟩

theorem listed_leaves : Leaves (Preserves Listed) :=
  .of_still listed_core listed_warn.tasks (fun h => .of_alerts h.alerts) (fun _ _ _ => .of_alerts rfl)
    (fun _ _ _ _ => .of_alerts (by rw [putFlag_tu])) (fun _ _ => .of_alerts rfl) listed_warn.filterAlerts
    (fun _ _ => .of_alerts rfl)
    (fun s => by
      unfold abandonConditions
      generalize List.range 64 = conditions
      exact fun hs => Listed.of_alerts (s := conditions.foldl abandonCondition { s with run.cu.evaluating := false }) rfl
        (listed_warn.tasks.abandonAll conditions { s with run.cu.evaluating := false } (Listed.of_alerts (s := s) rfl hs)))
    (fun _ => .of_alerts rfl) (fun _ => .of_alerts rfl) (fun _ _ => .of_empty rfl) (fun _ _ => .of_empty rfl)
    (fun _ _ => .of_empty rfl) fun _ _ _ => .of_empty rfl

end Sys2Proof.Machine
end

section
/-! PROOFS. LATCHED conditions and the entries that stand for them (R70, R71, R75, R76). A change that takes an
entry away hands its condition to the cascade, which releases it next: the law then holds for all but that one. -/

namespace Sys2Proof.Machine

/-- A LATCHED condition has a descriptor. -/
def HasDescriptor (s : State) (j : Nat) : Prop := (condRec s j).state = .latched → (condAt s j).isSome = true

/-- An unacknowledged entry stands for a LATCHED condition. -/
def Entered (s : State) (j : Nat) : Prop := (condRec s j).state = .latched → hasUnacked s j = true

/-- `LatchLaw`, where the condition `but` alone may want its entry. -/
structure Latches (but : Option Nat) (s : State) : Prop where
  described : ∀ j, j < 64 → HasDescriptor s j
  entered : ∀ j, j < 64 → but ≠ some j → Entered s j
  idle : s.run.cu.evaluating = false → ∀ j, j < 64 → (condRec s j).state = .inactive

theorem hasUnacked_iff (s : State) (j : Nat) :
    hasUnacked s j = true ↔ ∃ a ∈ s.run.tu.alerts, a.cond = j ∧ a.acked = false := by
  simp [hasUnacked]

theorem latchLaw_iff (s : State) : LatchLaw s ↔ Latches none s := by
  constructor
  · rintro ⟨hlatched, hidle⟩
    exact ⟨fun j hj h => (hlatched j hj h).1, fun j hj _ h => (hasUnacked_iff s j).2 (hlatched j hj h).2, hidle⟩
  · rintro ⟨hdescribed, hentered, hidle⟩
    exact ⟨fun j hj h => ⟨hdescribed j hj h, (hasUnacked_iff s j).1 (hentered j hj nofun h)⟩, hidle⟩

/-- What the law reads is as it was. -/
structure SameLatch (s t : State) : Prop where
  recs : t.run.cu.recs = s.run.cu.recs
  evaluating : t.run.cu.evaluating = s.run.cu.evaluating
  conds : t.run.tables.conds = s.run.tables.conds

theorem SameLatch.condRec {s t : State} (h : SameLatch s t) (j : Nat) : condRec t j = condRec s j := by
  rw [Machine.condRec, h.recs]
  rfl

theorem SameLatch.condAt {s t : State} (h : SameLatch s t) (j : Nat) : condAt t j = condAt s j := by
  rw [Machine.condAt, h.conds]
  rfl

/-- The records and descriptors are as they were, and so is each entry that the law rests on. -/
theorem Latches.of_sameLatch {but but' : Option Nat} {s t : State} (h : SameLatch s t)
    (hentries : ∀ j, but' ≠ some j → (condRec s j).state = .latched → hasUnacked s j = true → hasUnacked t j = true)
    (hbut : ∀ j, but = some j → but' = some j) (hs : Latches but s) : Latches but' t where
  described j hj := by
    rw [HasDescriptor, h.condRec, h.condAt]
    exact hs.described j hj
  entered j hj hne := by
    rw [Entered, h.condRec]
    exact fun hl => hentries j hne hl (hs.entered j hj (fun hb => hne (hbut j hb)) hl)
  idle := by
    rw [h.evaluating]
    intro he j hj
    rw [h.condRec]
    exact hs.idle he j hj

theorem hasUnacked_congr {s t : State} (h : t.run.tu.alerts = s.run.tu.alerts) (j : Nat) :
    hasUnacked t j = hasUnacked s j := by
  rw [hasUnacked, h, hasUnacked]

theorem Latches.of_same {but : Option Nat} {s t : State} (hcu : t.run.cu = s.run.cu)
    (hconds : t.run.tables.conds = s.run.tables.conds) (halerts : t.run.tu.alerts = s.run.tu.alerts) :
    Preserves (Latches but) s t :=
  .of_sameLatch ⟨by rw [hcu], by rw [hcu], hconds⟩ (fun j _ _ h => by rwa [hasUnacked_congr halerts]) fun _ => id

theorem Still.latches {s t : State} (h : Still s t) : Preserves (Latches none) s t := .of_same h.cu h.conds h.alerts

/-- Every record is INACTIVE. -/
theorem Latches.of_inactive {s : State} (h : ∀ j, j < 64 → (condRec s j).state = .inactive) : Latches none s where
  described j hj hl := by
    rw [h j hj] at hl
    cases hl
  entered j hj _ hl := by
    rw [h j hj] at hl
    cases hl
  idle _ := h

theorem Latches.of_initial {s : State} (h : s.run.cu.recs = List.replicate 64 CondRec.initial) : Latches none s :=
  .of_inactive fun j hj => by
    rw [condRec, h, List.getD_eq_getElem?_getD, List.getElem?_replicate, if_pos hj]
    rfl

/-! ## One evaluation -/

theorem condRec_put (s : State) (j : Nat) (r : CondRec) (k : Nat) :
    condRec (putCondRec s j r) k = if j = k ∧ k < s.run.cu.recs.length then r else condRec s k := by
  simp only [condRec, putCondRec, List.getD_eq_getElem?_getD, updAt_getElem?]
  split_ifs with h h' h'
  · obtain ⟨-, hk⟩ := h'
    simp [List.getElem?_eq_getElem hk]
  · rw [List.getElem?_eq_none (not_lt.1 fun hk => h' ⟨h.symm, hk⟩)]
    rfl
  · exact absurd h'.1.symm h
  · rfl

theorem condRec_put_ne {s : State} {j k : Nat} (h : j ≠ k) (r : CondRec) : condRec (putCondRec s j r) k = condRec s k := by
  rw [condRec_put, if_neg fun hjk => h hjk.1]

/-- A record that is put in its place is read back, or nothing stands there. -/
theorem condRec_put_self (s : State) (j : Nat) (r : CondRec) :
    condRec (putCondRec s j r) j = r ∨ (condRec (putCondRec s j r) j).state = .inactive := by
  rw [condRec_put]
  split
  · exact .inl rfl
  · next h =>
    right
    rw [condRec, List.getD_eq_getElem?_getD, List.getElem?_eq_none (not_lt.1 fun hk => h ⟨rfl, hk⟩)]
    rfl

/-- R68: a record becomes LATCHED over an unacknowledged entry alone. -/
theorem condMove_latched {s : State} {c : Condition} {j : Nat} {truth : Bool} {r : CondRec}
    (h : (condMove s c j truth r).state = .latched) : r.state = .latched ∨ hasUnacked s j = true := by
  unfold condMove at h
  split at h
  case h_3 =>
    right
    split at h
    · simp_all
    · split at h
      · dsimp only [latchChoice] at h
        split at h
        · next hlatch => exact hlatch.2
        · cases h
      · cases h
  all_goals (try split at h) <;> (try split at h) <;> simp_all

theorem condHold_latched {r : CondRec} (h : (condHold r).state = .latched) : r.state = .latched := by
  unfold condHold at h
  split at h <;> simp_all

theorem condSuspend_latched {r : CondRec} (h : (condSuspend r).state = .latched) : r.state = .latched := by
  unfold condSuspend at h
  split at h <;> simp_all

theorem evalRec_latched {s : State} {c : Condition} {j : Nat} {r : CondRec} (h : (evalRec s c j r).state = .latched) :
    r.state = .latched ∨ hasUnacked s j = true := by
  have hresumed {m : Bool} (hr : (if r.state = .suspended then
      ({ state := .inactive, remembered := m, timer := none } : CondRec) else { r with remembered := m }).state = .latched) :
      r.state = .latched := by
    split at hr
    · cases hr
    · exact hr
  unfold evalRec at h
  dsimp only at h
  split at h
  · have hl := condSuspend_latched h
    exact .inl hl
  · split at h
    · exact (condMove_latched h).imp_left hresumed
    · split at h
      · exact .inl (hresumed (condHold_latched h))
      · exact (condMove_latched h).imp_left hresumed
      · exact (condMove_latched h).imp_left hresumed

/-- A new record of a condition, LATCHED over an unacknowledged entry alone. -/
theorem Latches.put {s : State} {j : Nat} {r : CondRec} (hs : Latches (some j) s) (hd : (condAt s j).isSome = true)
    (hr : j < 64 → r.state = .latched → hasUnacked s j = true)
    (hidle : j < 64 → s.run.cu.evaluating = false → r.state = .inactive) : Latches none (putCondRec s j r) where
  described k hk := by
    by_cases hjk : j = k
    · exact fun _ => hjk ▸ hd
    · rw [HasDescriptor, condRec_put_ne hjk]
      exact hs.described k hk
  entered k hk _ := by
    by_cases hjk : j = k
    · subst hjk
      rcases condRec_put_self s j r with h | h
      · rw [Entered, h]
        exact hr hk
      · intro hl
        rw [h] at hl
        cases hl
    · rw [Entered, condRec_put_ne hjk]
      exact hs.entered k hk fun h => hjk (Option.some_inj.1 h)
  idle he k hk := by
    by_cases hjk : j = k
    · subst hjk
      rcases condRec_put_self s j r with h | h
      · rw [h]
        exact hidle hk he
      · exact h
    · rw [condRec_put_ne hjk]
      exact hs.idle he k hk

/-- A condition that is not LATCHED wants no entry. -/
theorem Latches.settled {s : State} {j : Nat} (hs : Latches (some j) s) (h : j < 64 → (condRec s j).state ≠ .latched) :
    Latches none s where
  described := hs.described
  entered k hk _ := by
    by_cases hjk : j = k
    · subst hjk
      exact fun hl => absurd hl (h hk)
    · exact hs.entered k hk fun h => hjk (Option.some_inj.1 h)
  idle := hs.idle

theorem Latches.weaken {s : State} (j : Nat) (hs : Latches none s) : Latches (some j) s where
  described := hs.described
  entered k hk _ := hs.entered k hk nofun
  idle := hs.idle

/-- A task may be taken: a change of a condition that is LATCHED is one to LATCHED. -/
def TaskOk (s : State) (t : Task) : Prop :=
  ∀ j old now, t = .changed j old now → (condRec s j).state = .latched → now = .latched

/-- No change is among the tasks but at their head, which may be taken. -/
def TasksOk (s : State) (ts : List Task) : Prop :=
  (∀ t ∈ ts.head?, TaskOk s t) ∧ ∀ t ∈ ts.tail, ∀ j old now, t ≠ .changed j old now

theorem TasksOk.of_evaluations {s : State} {ts : List Task} (h : ∀ t ∈ ts, ∀ j old now, t ≠ .changed j old now) :
    TasksOk s ts :=
  ⟨fun t ht j old now heq => absurd heq (h t (List.mem_of_mem_head? ht) j old now), fun t ht => h t (List.mem_of_mem_tail ht)⟩

theorem TasksOk.append {s : State} {ts us : List Task} (h : TasksOk s ts) (hus : ∀ t ∈ us, ∀ j old now, t ≠ .changed j old now) :
    TasksOk s (ts ++ us) := by
  cases ts with
  | nil => exact .of_evaluations hus
  | cons t ts =>
    refine ⟨h.1, fun u hu => ?_⟩
    rcases List.mem_append.1 hu with h' | h'
    · exact h.2 u h'
    · exact hus u h'

/-- An evaluation puts the law good again for its condition, when the record it starts from is not LATCHED or has
its entry. -/
theorem Latches.evaluated {s : State} {j : Nat} (base : CondRec → CondRec) (hs : Latches (some j) s)
    (hbase : j < 64 → (base (condRec s j)).state = .latched → hasUnacked s j = true) :
    Latches none (evaluateFrom s j base).1 ∧ TasksOk (evaluateFrom s j base).1 (evaluateFrom s j base).2 := by
  unfold evaluateFrom
  split
  · next hnone =>
    refine ⟨hs.settled fun hj hl => ?_, .of_evaluations nofun⟩
    have := hs.described j hj hl
    rw [hnone] at this
    cases this
  · next c hc =>
    split
    · next he =>
      refine ⟨hs.put (by rw [hc]; rfl) (fun hj hl => ?_) fun _ h => absurd (he.symm.trans h) (by decide), ?_⟩
      · exact (evalRec_latched hl).elim (hbase hj) id
      · dsimp only
        split
        · exact .of_evaluations nofun
        · refine ⟨?_, nofun⟩
          rintro t ⟨⟩ k old now ⟨⟩ hl
          rcases condRec_put_self s j (evalRec s c j (base (condRec s j))) with h | h
          · rwa [h] at hl
          · rw [h] at hl
            cases hl
    · next he =>
      refine ⟨hs.settled fun hj hl => ?_, .of_evaluations nofun⟩
      rw [hs.idle (Bool.eq_false_iff.2 he) j hj] at hl
      cases hl

theorem unlatch_not_latched (r : CondRec) : (unlatch r).state ≠ .latched := by
  unfold unlatch
  split
  · simp
  · assumption

/-- R71: a release puts the law good again for its condition. -/
theorem Latches.released {s : State} {j : Nat} (hs : Latches (some j) s) :
    Latches none (evaluateFrom s j unlatch).1 ∧ TasksOk (evaluateFrom s j unlatch).1 (evaluateFrom s j unlatch).2 :=
  hs.evaluated unlatch fun _ h => absurd h (unlatch_not_latched _)

/-! ## One condition change -/

theorem mem_dropFirst {α : Type} {p : α → Bool} {l : List α} {a : α} (ha : a ∈ l) :
    a ∈ dropFirst p l ∨ l.find? p = some a := by
  induction l with
  | nil => cases ha
  | cons x xs ih =>
    rw [List.find?_cons, dropFirst]
    cases hp : p x with
    | true =>
      rcases List.mem_cons.1 ha with rfl | h
      · exact .inr rfl
      · exact .inl h
    | false =>
      rcases List.mem_cons.1 ha with rfl | h
      · exact .inl List.mem_cons_self
      · exact (ih h).imp (List.mem_cons_of_mem x) id

/-- R93: an entry at the tail leaves the entries of the others, but for the evicted one's. -/
theorem alertEnter_keeps {c : Condition} {j : Nat} {paused : Bool} {l : List Alert} {a : Alert} (ha : a ∈ l)
    (hj : a.cond ≠ j) :
    a ∈ (alertEnter c j paused l).1 ∨ (alertEnter c j paused l).2 = some a.cond := by
  have hdropped {p : Alert → Bool} (e : Alert) {old : Alert} (hold : l.find? p = some old) :
      a ∈ dropFirst p l ++ [e] ∨ some old.cond = some a.cond := by
    rcases mem_dropFirst (p := p) ha with h | h
    · exact .inl (List.mem_append_left _ h)
    · rw [hold] at h
      exact .inr (by rw [Option.some_inj.1 h])
  unfold alertEnter
  dsimp only
  split
  · exact .inl (List.mem_append_left _ (List.mem_filter.2 ⟨ha, by simpa using hj⟩))
  · split
    · exact .inl (List.mem_append_left _ ha)
    · split
      · next hold => exact hdropped _ hold
      · split
        · split
          · next hold => exact hdropped _ hold
          · exact .inl ha
        · exact .inl ha

/-- What a condition change leaves of an unacknowledged entry: the evicted condition's may go, and that of the
changed one unless it becomes LATCHED. -/
theorem alertChange_keeps {s : State} {c : Condition} {j : Nat} {old now : CondState} {a : Alert}
    (ha : a ∈ s.run.tu.alerts) (hacked : a.acked = false) (hj : a.cond = j → now = .latched) :
    (∃ b ∈ (alertChange s c j old now).1, b.cond = a.cond ∧ b.acked = false) ∨
      (alertChange s c j old now).2 = some a.cond := by
  have hpause (running : Bool) : ∃ b ∈ alertPause j running s.run.tu.alerts, b.cond = a.cond ∧ b.acked = false := by
    refine ⟨_, List.mem_map_of_mem ha, ?_⟩
    split
    · split
      · exact ⟨rfl, hacked⟩
      · exact ⟨rfl, hacked⟩
    · exact ⟨rfl, hacked⟩
  unfold alertChange
  dsimp only
  split
  · next hact =>
    have hnow : now ≠ .latched := by
      simp only [isActivation, Bool.and_eq_true, decide_eq_true_eq] at hact
      simp [hact.1]
    split
    · exact (alertEnter_keeps ha fun h => hnow (hj h)).imp_left fun h => ⟨a, h, rfl, hacked⟩
    · exact .inl ⟨a, ha, rfl, hacked⟩
  · split
    · next hdeact =>
      have hnow : now ≠ .latched := by
        simp only [isDeactivation, Bool.and_eq_true, decide_eq_true_eq] at hdeact
        rcases hdeact.2 with h | h <;> simp [h]
      refine .inl ⟨a, List.mem_filterMap.2 ⟨a, ha, ?_⟩, rfl, hacked⟩
      rw [if_neg fun h => hnow (hj h)]
    · split
      · exact .inl (hpause _)
      · split
        · exact .inl (hpause _)
        · exact .inl ⟨a, ha, rfl, hacked⟩

@[simp] theorem telltaleIfChanged_alerts (before s : State) : (telltaleIfChanged before s).run.tu.alerts = s.run.tu.alerts :=
  (telltaleIfChanged_still before s).alerts

@[simp] theorem chimeOf_alerts (c : Condition) (old now : CondState) (s : State) :
    (chimeOf c old now s).run.tu.alerts = s.run.tu.alerts := by
  unfold chimeOf
  split
  · split
    · rfl
    · exact chimeRequest_alerts _ _
    · exact chimeRequest_alerts _ _
  · rfl

@[simp] theorem driveLamps_alerts (s : State) : (driveLamps s).run.tu.alerts = s.run.tu.alerts := rfl

@[simp] theorem refreshBlink_alerts (s : State) : (refreshBlink s).run.tu.alerts = s.run.tu.alerts := rfl

/-- A condition change puts R93's and R94's list in force, and hands back the condition it evicts. -/
theorem telltaleChange_alerts {s : State} {j : Nat} {c : Condition} (hc : condAt s j = some c) (old now : CondState) :
    (telltaleChange j old now s).1.run.tu.alerts = (alertChange s c j old now).1 ∧
      (telltaleChange j old now s).2 = (alertChange s c j old now).2 := by
  unfold telltaleChange
  rw [hc]
  refine ⟨?_, rfl⟩
  dsimp only
  simp only [telltaleIfChanged_alerts, driveLamps_alerts, refreshBlink_alerts, chimeOf_alerts, setAlerts_alerts]
  rfl

@[simp] theorem setAlerts_cu (l : List Alert) (s : State) : (setAlerts l s).run.cu = s.run.cu := by
  unfold setAlerts withdrawIfNone
  split <;> rfl

@[simp] theorem chimeRequest_cu (p : Pattern) (s : State) : (chimeRequest p s).run.cu = s.run.cu := by
  obtain ⟨c, -, h⟩ := chimeRequest_step p s
  rw [h]

@[simp] theorem chimeOf_cu (c : Condition) (old now : CondState) (s : State) : (chimeOf c old now s).run.cu = s.run.cu := by
  unfold chimeOf
  split
  · split
    · rfl
    · exact chimeRequest_cu _ _
    · exact chimeRequest_cu _ _
  · rfl

@[simp] theorem telltaleIfChanged_cu (before s : State) : (telltaleIfChanged before s).run.cu = s.run.cu :=
  (telltaleIfChanged_still before s).cu

/-- The Tell-tale Unit leaves the condition records alone. -/
@[simp] theorem telltaleChange_cu (j : Nat) (old now : CondState) (s : State) :
    (telltaleChange j old now s).1.run.cu = s.run.cu := by
  unfold telltaleChange
  split
  · rfl
  · simp

theorem sameLatch_of_cu {s t : State} (hcu : t.run.cu = s.run.cu) (htables : t.run.tables = s.run.tables) : SameLatch s t :=
  ⟨by rw [hcu], by rw [hcu], by rw [htables]⟩

/-- R83, R93: after a condition change the evicted condition alone may want its entry. -/
theorem Latches.changed {s : State} {j : Nat} {old now : CondState} (hs : Latches none s)
    (ht : TaskOk s (.changed j old now)) :
    Latches (telltaleChange j old now s).2 (telltaleChange j old now s).1 := by
  cases hc : condAt s j with
  | none =>
    have hsame : telltaleChange j old now s = (s, none) := by
      unfold telltaleChange
      rw [hc]
    rw [hsame]
    exact hs
  | some c =>
    obtain ⟨halerts, hevicted⟩ := telltaleChange_alerts hc old now
    refine hs.of_sameLatch (sameLatch_of_cu (telltaleChange_cu ..) (telltaleChange_frame ..).tables) (fun k hne hl hk => ?_) (fun _ h => by cases h)
    obtain ⟨a, ha, rfl, hacked⟩ := (hasUnacked_iff s k).1 hk
    have hlatched (h : a.cond = j) : now = .latched := by
      rw [h] at hl
      exact ht j old now rfl hl
    rcases alertChange_keeps ha hacked hlatched (c := c) (old := old) with h | h
    · rw [← halerts] at h
      exact (hasUnacked_iff _ _).2 h
    · exact absurd (hevicted.trans h) hne

/-! ## The cascade -/

theorem watchers_evaluate {s : State} {p : Condition → Bool} {t : Task} (h : t ∈ watchers s p) :
    ∃ j, t = .evaluate j ∧ j < 64 := by
  obtain ⟨j, hj, hsome⟩ := List.mem_filterMap.1 h
  split at hsome
  · split at hsome <;> cases hsome
    exact ⟨j, rfl, List.mem_range.1 hj⟩
  · cases hsome

theorem watchers_evaluations {s : State} {p : Condition → Bool} : ∀ t ∈ watchers s p, ∀ j old now, t ≠ .changed j old now := by
  intro t ht j old now heq
  obtain ⟨k, hk, -⟩ := watchers_evaluate ht
  exact Task.noConfusion (hk.symm.trans heq)

/-- R93: the evicted condition is released when it is LATCHED. -/
theorem Latches.evicted {s : State} {evicted : Option Nat} (hs : Latches evicted s) :
    Latches none (releaseEvicted evicted s).1 ∧ TasksOk (releaseEvicted evicted s).1 (releaseEvicted evicted s).2 := by
  cases evicted with
  | none => exact ⟨hs, .of_evaluations nofun⟩
  | some k =>
    unfold releaseEvicted
    dsimp only
    split
    · exact hs.released
    · next hl => exact ⟨hs.settled fun _ => hl, .of_evaluations nofun⟩

theorem Latches.taken {s : State} {t : Task} (hs : Latches none s) (ht : TaskOk s t) :
    Latches none (takeTask t s).1 ∧ TasksOk (takeTask t s).1 (takeTask t s).2 := by
  cases t with
  | evaluate j => exact (hs.weaken j).evaluated id fun hj hl => hs.entered j hj nofun hl
  | release j => exact (hs.weaken j).released
  | changed j old now =>
    obtain ⟨hreleased, hok⟩ := (hs.changed ht).evicted
    exact ⟨hreleased, hok.append watchers_evaluations⟩

/-- R73: the law holds after each task of the cascade. -/
theorem Latches.cascade {fuel : Nat} {ts : List Task} {s : State} (hs : Latches none s) (hts : TasksOk s ts) :
    Latches none (cascade fuel ts s) := by
  induction fuel generalizing ts s with
  | zero => exact hs
  | succ n ih =>
    cases ts with
    | nil => exact hs
    | cons t ts =>
      obtain ⟨hs', hok⟩ := hs.taken (hts.1 t rfl)
      exact ih hs' (hok.append hts.2)

theorem Latches.runTasks {ts : List Task} {s : State} (hs : Latches none s) (hts : TasksOk s ts) :
    Latches none (runTasks ts s) := hs.cascade hts

/-- A release that has to come, with what comes after it. -/
theorem Latches.runRelease {j : Nat} {s : State} (hs : Latches (some j) s) : Latches none (Machine.runTasks [.release j] s) := by
  obtain ⟨hs', hok⟩ := hs.released
  have htaken : Latches none (Machine.cascade (Config.cascadeBound - 1) ((takeTask (.release j) s).2 ++ []) (takeTask (.release j) s).1) :=
    Latches.cascade hs' (hok.append nofun)
  exact htaken

/-! ## The other changes of the two units -/

theorem latches_delay {s : State} {j : Nat} {c : Condition} {r : CondRec} (hc : condAt s j = some c)
    (hr : delayExpired s j c = some r) : Preserves (Latches none) s (changeCondition j r s) := by
  intro hs
  have hlatched (hl : r.state = .latched) : hasUnacked s j = true := by
    unfold delayExpired at hr
    dsimp only at hr
    split at hr <;> cases hr
    · cases hl
    · dsimp only [latchChoice] at hl
      split at hl
      · next h => exact h.2
      · cases hl
  have hactive : (condRec s j).state ≠ .inactive := by
    unfold delayExpired at hr
    dsimp only at hr
    split at hr
    · next h _ => simp [h]
    · next h _ => simp [h]
    · cases hr
  refine ((hs.weaken j).put (by rw [hc]; rfl) (fun _ => hlatched) fun hj he => absurd (hs.idle he j hj) hactive).runTasks ?_
  split
  · exact .of_evaluations nofun
  · refine ⟨?_, nofun⟩
    rintro t ⟨⟩ k old now ⟨⟩ hl
    rcases condRec_put_self s j r with h | h
    · rwa [h] at hl
    · rw [h] at hl
      cases hl

theorem latches_acknowledge (found : Option Nat) (s : State) : Preserves (Latches none) s (acknowledge found s) := by
  cases found with
  | none => exact id
  | some j =>
    intro hs
    have hmarked : Latches (some j) (setAlerts (markAcked j s.run.tu.alerts) s) := by
      refine hs.of_sameLatch (sameLatch_of_cu (setAlerts_cu _ s) (setAlerts_frame _ s).tables) (fun k hne _ hk => ?_) (fun _ h => by cases h)
      obtain ⟨a, ha, rfl, hacked⟩ := (hasUnacked_iff s k).1 hk
      refine (hasUnacked_iff _ _).2 ⟨a, ?_, rfl, hacked⟩
      rw [setAlerts_alerts]
      exact List.mem_map.2 ⟨a, ha, if_neg fun h => hne (by rw [h])⟩
    have hreleased := hmarked.runRelease
    unfold acknowledge
    dsimp only
    generalize Machine.runTasks [.release j] (setAlerts (markAcked j s.run.tu.alerts) s) = u at hreleased
    refine (telltaleIfChanged_still s _).latches (Latches.of_sameLatch (s := u)
      (sameLatch_of_cu (setAlerts_cu _ u) (setAlerts_frame _ u).tables) (fun k _ _ hk => ?_) (fun _ h => by cases h) hreleased)
    obtain ⟨a, ha, hcond, hacked⟩ := (hasUnacked_iff u k).1 hk
    refine (hasUnacked_iff _ _).2 ⟨a, ?_, hcond, hacked⟩
    rw [driveLamps_alerts, refreshBlink_alerts, setAlerts_alerts]
    unfold dropSettled
    split
    · exact ha
    · exact List.mem_filter.2 ⟨ha, by simp [hacked]⟩

theorem latches_alertTimes {f : Alert → Alert} (hf : ∀ a, SameAlert a (f a)) (s : State) :
    Preserves (Latches none) s { s with run.tu.alerts := s.run.tu.alerts.map f } := by
  refine .of_sameLatch ⟨rfl, rfl, rfl⟩ (fun j _ _ hj => ?_) (fun _ h => by cases h)
  obtain ⟨a, ha, hcond, hacked⟩ := (hasUnacked_iff s j).1 hj
  obtain ⟨hcond', hacked', -⟩ := hf a
  exact (hasUnacked_iff _ _).2 ⟨f a, List.mem_map_of_mem ha, hcond'.trans hcond, hacked'.trans hacked⟩

theorem latches_condTimes (s : State) :
    Preserves (Latches none) s { s with run.cu.recs := s.run.cu.recs.map tickCond } := by
  have hstate (j : Nat) : (condRec { s with run.cu.recs := s.run.cu.recs.map tickCond } j).state = (condRec s j).state := by
    simp only [condRec, List.getD_eq_getElem?_getD, List.getElem?_map]
    cases s.run.cu.recs[j]? <;> rfl
  rintro ⟨hdescribed, hentered, hidle⟩
  refine ⟨fun j hj => ?_, fun j hj hne => ?_, fun he j hj => ?_⟩
  · rw [HasDescriptor, hstate]
    exact hdescribed j hj
  · rw [Entered, hstate]
    exact hentered j hj hne
  · rw [hstate]
    exact hidle he j hj

theorem latches_core : Core (Preserves (Latches none)) :=
  .of_still Still.latches (fun h h' hs => h' (h hs)) (fun _ _ hs => hs.runTasks (.of_evaluations watchers_evaluations))
    latches_delay latches_acknowledge (fun _ => .of_same rfl rfl rfl) latches_alertTimes latches_condTimes
    (fun _ => .of_same rfl rfl rfl) (fun _ _ => .of_same rfl rfl rfl) (fun _ _ => .of_same rfl rfl rfl)
    (fun _ => .of_same rfl rfl rfl) fun _ => .of_same rfl rfl rfl

/-! ## The larger changes -/

theorem latches_putFlag (f : FlagId) (s : State) (v : Bool) : Preserves (Latches none) s (putFlag s f v) :=
  .of_same (putFlag_cu s f v) (by rw [putFlag_tables]) (by rw [putFlag_tu])

theorem latches_forcedExit (s : State) : Preserves (Latches none) s (forcedExit s) :=
  latches_core.forcedExit_of (fun _ _ => .of_same rfl rfl rfl) (latches_putFlag _) s

/-- R75: the first evaluation begins with every record at its reset value. -/
theorem firstEvaluation_latches (s : State) : Latches none (firstEvaluation s) := by
  have hreset : Latches none { s with run.cu.evaluating := true, run.cu.recs := List.replicate 64 CondRec.initial } :=
    .of_initial rfl
  refine hreset.runTasks (.of_evaluations fun t ht j old now heq => ?_)
  obtain ⟨k, -, rfl⟩ := List.mem_map.1 ht
  cases heq

theorem activate_latches (new : NewTables) (levels : BitVec 16) (s : State) : Latches none (activate new levels s) :=
  firstEvaluation_latches _

theorem latches_restartPlaced (s : State) : Preserves (Latches none) s (restartPlaced s) := .of_same rfl rfl rfl

theorem latches_restartRuns (s : State) : Preserves (Latches none) s (restartRuns s) := by
  intro hs
  have hrun : Latches none { s with mode := .run } := Latches.of_same (s := s) rfl rfl rfl hs
  exact latches_core.noticeIfOn .status _ hrun

theorem restarted_latches (levels : BitVec 16) (s : State) : Latches none (restarted levels s) :=
  latches_restartRuns _ (latches_core.restartShown _ (latches_restartPlaced _ (activate_latches _ levels _)))

theorem latches_kept : Kept (Preserves (Latches none)) where
  toCore := latches_core
  forcedExit := latches_forcedExit
  signalEvent _ ht _ hs := latches_core.roadSpeedEvent_of latches_forcedExit _ _ (ht { hs with })
  inputSample := latches_core.inputSample_of (fun _ _ _ => .of_same rfl rfl rfl) latches_forcedExit
  enterService hrun _ := latches_core.enterService_of (fun _ _ => .of_same rfl rfl rfl) (latches_putFlag _) hrun
  supervised _ _ ht hs := latches_core.superviseRoutes_of (latches_putFlag _) (latches_putFlag _) (latches_putFlag _) _
    (ht { hs with })
  setUnder := latches_core.setUnder_of (latches_putFlag _)
  clearUnder := latches_core.clearUnder_of (latches_putFlag _)
  setOver := latches_core.setOver_of (latches_putFlag _)
  clearOver := latches_core.clearOver_of (latches_putFlag _)
  restart levels hval := latches_core.restart_of_restarted hval fun _ => restarted_latches levels _

theorem abandonCondition_inactive (s : State) (j k : Nat)
    (h : j = k ∨ (condRec s k).state = .inactive) : (condRec (abandonCondition s j) k).state = .inactive := by
  have hput : (condRec (putCondRec s j { state := .inactive, remembered := false, timer := none }) k).state = .inactive := by
    rw [condRec_put]
    split
    · rfl
    · next hno =>
      rcases h with rfl | h
      · rw [condRec, List.getD_eq_getElem?_getD, List.getElem?_eq_none (not_lt.1 fun hk => hno ⟨rfl, hk⟩)]
        rfl
      · exact h
  unfold abandonCondition
  dsimp only
  split
  · exact hput
  · rw [condRec, telltaleChange_cu]
    exact hput

theorem abandonAll_inactive (l : List Nat) (s : State) (k : Nat) (h : k ∈ l ∨ (condRec s k).state = .inactive) :
    (condRec (l.foldl abandonCondition s) k).state = .inactive := by
  induction l generalizing s with
  | nil => exact h.resolve_left nofun
  | cons j l ih =>
    refine ih _ ?_
    rcases h with h | h
    · rcases List.mem_cons.1 h with rfl | h'
      · exact .inr (abandonCondition_inactive s k k (.inl rfl))
      · exact .inl h'
    · exact .inr (abandonCondition_inactive s j k (.inr h))

/-- R76: every condition is INACTIVE, whatever it was. -/
theorem abandonConditions_latches (s : State) : Latches none (abandonConditions s) := by
  refine .of_inactive fun j hj => ?_
  unfold abandonConditions
  have hmem := List.mem_range.2 hj
  generalize List.range 64 = conditions at hmem
  exact abandonAll_inactive conditions _ j (.inl hmem)

theorem latches_stopSampling (s : State) : Preserves (Latches none) s (stopSampling s) := .of_same rfl rfl rfl

theorem latches_outer : Outer (Preserves (Latches none)) where
  refl _ := id
  trans h h' hs := h' (h hs)
  path _ hpath := hpath _ latches_kept
  standby _ _ := .of_initial rfl
  clocks _ _ _ _ := .of_same rfl rfl rfl
  asleepMinute _ := latches_core.minuteEvent _
  shutdown _ := latches_core.shutdown_of (latches_core.dark_of (.of_same rfl rfl rfl) fun _ => .of_same rfl rfl rfl)
    fun t _ => latches_putFlag _ t _
  warm _ := latches_core.warm_of fun _ => latches_stopSampling _ (abandonConditions_latches _)
  cold _ := latches_core.cold_of fun _ => .of_initial rfl
  reset _ _ _ := .of_initial rfl
  completes levels hval := latches_kept.completeStartup_of hval fun t _ _ _ =>
    Latches.of_same (s := activate (validate t.store) levels t) rfl rfl rfl (activate_latches _ levels t)

/-- Settles O55: the Alert List's law over each change of the list; LATCHED conditions over the cascade, in which
only the condition whose entry has just gone may want it. -/
theorem alertListLawIsKept : Obligations.AlertListLawIsKept := by
  unfold Obligations.AlertListLawIsKept
  intro s t hstep
  refine ⟨listed_leaves.outer.step (fun _ _ => .of_alerts rfl) hstep, ?_⟩
  rw [latchLaw_iff, latchLaw_iff]
  exact latches_outer.step (fun _ _ => .of_same rfl rfl rfl) hstep

end Sys2Proof.Machine
end

section
/-! PROOFS. Card events (R110 to R114): what a changed binding brings, and what becomes of the table, the slots and
the log in each case. -/

namespace Sys2Proof.Machine

/-! ## A changed binding (R114) -/

theorem noticing_congr {s t : State} (h : t.mode = s.mode) : noticing t = noticing s := by
  rw [noticing, h, ← noticing]

theorem WarningsOnly.withUnsynced {s t : State} (h : WarningsOnly s t) (v : Bool) :
    WarningsOnly { s with dtu.unsynced := v } { t with dtu.unsynced := v } := by
  refine ⟨?_, h.2⟩
  conv_lhs => rw [h.1]

theorem WarningsOnly.slotUnsynced {s t : State} (h : WarningsOnly s t) : slotUnsynced t = slotUnsynced s := by
  simp only [Machine.slotUnsynced, slotDriver_eq_boundRecord, h.dtu]

/-- What R114 sets for a slot whose binding changed, but for the warnings path. -/
def boundBase (slot : Nat) (s : State) : State :=
  { s with dtu.unsynced := if slot = 1 then slotUnsynced s else s.dtu.unsynced
           run.signals := updAt s.run.signals (160 + slot) fun _ => slotEntry s slot }

/-- R114 for one slot, up to the Drive-time notice. -/
def bindingWritten (slot : Nat) (before : Stage) (s : State) : State :=
  let s1 := stageChange slot before (writeSlotSignal slot s)
  if slot = 1 then refreshUnsynced s1 else s1

theorem bindingOutputs_eq (slot : Nat) (before : Stage) (s : State) :
    bindingOutputs slot before s = noticeIfOn .drivetime (bindingWritten slot before s) := rfl

theorem bindingWritten_frame {s : State} (hp : powered s = true) (slot : Nat) (before : Stage) :
    WarningsOnly (boundBase slot s) (bindingWritten slot before s) := by
  have hstage := (writeSlotSignal_frame hp slot).trans (stageChange_frame slot before _)
  unfold bindingWritten boundBase
  dsimp only
  split
  · have hv : slotUnsynced (stageChange slot before (writeSlotSignal slot s)) = slotUnsynced s := by
      rw [hstage.slotUnsynced]
      simp only [slotUnsynced, slotDriver_eq_boundRecord, putSignal_dtu]
    have hrefreshed := refreshUnsynced_frame (stageChange slot before (writeSlotSignal slot s))
    rw [hv] at hrefreshed
    exact (hstage.withUnsynced _).trans hrefreshed
  · exact hstage

theorem bindingOutputs_frame {s : State} (hp : powered s = true) (slot : Nat) (before : Stage) :
    WarningsOnly (boundBase slot s) (bindingOutputs slot before s) :=
  (bindingWritten_frame hp slot before).trans (noticeIfOn_frame _ _)

theorem bindingOutputs_stands {s : State} (hp : powered s = true) (hn : noticing s = true) (slot : Nat) (before : Stage) :
    NoticeStands .drivetime (bindingOutputs slot before s) :=
  noticeIfOn_stands ((noticing_congr (bindingWritten_frame hp slot before).mode).trans hn)

theorem boundBase_frame {s t : State} (h : WarningsOnly s t) (slot : Nat) : WarningsOnly (boundBase slot s) (boundBase slot t) := by
  have hv : (if slot = 1 then slotUnsynced t else t.dtu.unsynced) = if slot = 1 then slotUnsynced s else s.dtu.unsynced := by
    rw [h.slotUnsynced, h.dtu]
  unfold boundBase
  rw [hv, h.slotEntry, h.signals]
  exact (h.withSignals (updAt s.run.signals (160 + slot) fun _ => slotEntry s slot)).withUnsynced
    (if slot = 1 then slotUnsynced s else s.dtu.unsynced)

theorem updAt_self {s : State} (k : Nat) : (updAt s.run.signals k fun _ => signalAt s k) = s.run.signals := by
  refine List.ext_getElem? fun n => ?_
  rw [updAt_getElem?]
  split
  · next h =>
    subst h
    cases hn : s.run.signals[n]? with
    | none => rfl
    | some e => simp [signalAt, List.getD_eq_getElem?_getD, hn]
  · rfl

/-- What a card event writes beyond the warnings path. -/
def takenBase (s : State) (new : Dtu) : State :=
  let u : State := { s with dtu := new }
  { u with dtu.unsynced := if new.slot1 = s.dtu.slot1 then s.dtu.unsynced else slotUnsynced u
           run.signals := updAt (updAt s.run.signals 161 fun _ =>
             if new.slot1 ≠ s.dtu.slot1 then slotEntry u 1 else signalAt s 161) 162 fun _ =>
               if new.slot2 ≠ s.dtu.slot2 then slotEntry u 2 else signalAt s 162 }

theorem cardTaken_iff (s : State) (new : Dtu) (t : State) :
    CardTaken s new t ↔ WarningsOnly (takenBase s new) t ∧ (noticing s = true → NoticeStands .drivetime t) := Iff.rfl

theorem boundBase_powered {s : State} (hp : powered s = true) (slot : Nat) : powered (boundBase slot s) = true := hp

theorem boundBase_entry (s : State) : slotEntry (boundBase 1 s) 2 = slotEntry s 2 := by
  have hsignal : signalAt (boundBase 1 s) 162 = signalAt s 162 := by
    rw [signalAt, boundBase, updAt_getD, if_neg (by omega), ← signalAt]
  have hrecord : (boundBase 1 s).dtu.boundRecord 2 = s.dtu.boundRecord 2 := rfl
  simp only [slotEntry, slotDriver_eq_boundRecord, hrecord, hsignal]

theorem takenBase_first {s : State} {new : Dtu} (h1 : new.slot1 ≠ s.dtu.slot1) (h2 : new.slot2 = s.dtu.slot2) :
    takenBase s new = boundBase 1 { s with dtu := new } := by
  have hself : (updAt (updAt s.run.signals 161 fun _ => slotEntry { s with dtu := new } 1) 162 fun _ => signalAt s 162) =
      updAt s.run.signals 161 fun _ => slotEntry { s with dtu := new } 1 := by
    have hat : signalAt s 162 = signalAt (putSignal s 161 (slotEntry { s with dtu := new } 1)) 162 := by
      exact (signalAt_putSignal _ _ _ _ (by decide)).symm
    rw [hat]
    exact updAt_self (s := putSignal s 161 (slotEntry { s with dtu := new } 1)) 162
  simp only [takenBase, boundBase, h1, h2, ne_eq, not_true_eq_false, not_false_eq_true, if_true, if_false, hself]

theorem takenBase_second {s : State} {new : Dtu} (hu : new.unsynced = s.dtu.unsynced) (h1 : new.slot1 = s.dtu.slot1)
    (h2 : new.slot2 ≠ s.dtu.slot2) : takenBase s new = boundBase 2 { s with dtu := new } := by
  simp only [takenBase, boundBase, h1, h2, ne_eq, not_true_eq_false, not_false_eq_true, if_true, if_false, updAt_self, hu]
  rfl

theorem takenBase_both {s : State} {new : Dtu} (h1 : new.slot1 ≠ s.dtu.slot1) (h2 : new.slot2 ≠ s.dtu.slot2) :
    takenBase s new = boundBase 2 (boundBase 1 { s with dtu := new }) := by
  have hentry := boundBase_entry { s with dtu := new }
  unfold boundBase at hentry ⊢
  rw [hentry]
  simp only [takenBase, h1, h2, ne_eq, not_false_eq_true, if_true, if_false]
  rfl

/-- A card event's outputs for a Drive-Time state in which a slot's binding changed. -/
theorem putBindings_taken {s : State} {new : Dtu} (hp : powered s = true) (hu : new.unsynced = s.dtu.unsynced)
    (hchanged : new.slot1 ≠ s.dtu.slot1 ∨ new.slot2 ≠ s.dtu.slot2) : CardTaken s new (putBindings new s) := by
  have hput : powered { s with dtu := new } = true := hp
  have hnput : noticing { s with dtu := new } = noticing s := rfl
  rw [cardTaken_iff, ← hnput]
  unfold putBindings
  dsimp only
  by_cases h1 : new.slot1 = s.dtu.slot1
  · have h2 : new.slot2 ≠ s.dtu.slot2 := hchanged.resolve_left (not_not.2 h1)
    rw [if_pos h1, if_neg h2, takenBase_second hu h1 h2]
    generalize ({ s with dtu := new } : State) = u at hput
    exact ⟨bindingOutputs_frame hput 2 _, fun hn => bindingOutputs_stands hput hn 2 _⟩
  · by_cases h2 : new.slot2 = s.dtu.slot2
    · rw [if_neg h1, if_pos h2, takenBase_first h1 h2]
      generalize ({ s with dtu := new } : State) = u at hput
      exact ⟨bindingOutputs_frame hput 1 _, fun hn => bindingOutputs_stands hput hn 1 _⟩
    · rw [if_neg h1, if_neg h2, takenBase_both h1 h2]
      generalize ({ s with dtu := new } : State) = u at hput
      have hfirst := bindingOutputs_frame hput 1 (slotStage s 1)
      have hpowered : powered (bindingOutputs 1 (slotStage s 1) u) = true := (powered_congr hfirst.mode).trans hput
      exact ⟨(boundBase_frame hfirst 2).trans (bindingOutputs_frame hpowered 2 _),
        fun hn => bindingOutputs_stands hpowered ((noticing_congr hfirst.mode).trans hn) 2 _⟩

/-! ## What becomes of the table, the slots and the log (R110 to R113) -/

theorem logDriver_eq (k : LogKind) (slot : Option Nat) (d : Driver) (t : Dtu) : logDriver k slot d t = t.logged k slot d := by
  have hdrop : t.log.length + 1 - Config.logCapacity = t.log.length - 63 := Nat.add_sub_add_right _ 1 63
  unfold logDriver appendLog Dtu.logged
  rw [hdrop]
  rfl

/-- The Drive-Time state with a card out of a slot. -/
def Dtu.cardOut (t : Dtu) (slot : Nat) : Dtu :=
  (boundTo t slot).elim t fun d => (recordOf t d).elim t fun r => (t.slotTo slot none).logged .cardOut (some slot) r

theorem exists_recordOf {t : Dtu} {d : Nat} (h : d ∈ t.drivers.map Driver.digest) : ∃ r, recordOf t d = some r := by
  rw [← Option.ne_none_iff_exists']
  exact fun hnone => (recordOf_eq_none_iff t d).1 hnone h

theorem unbind_eq {t : Dtu} (h : SlotsLaw t) (slot : Nat) : unbind slot t = t.cardOut slot := by
  unfold unbind Dtu.cardOut
  split
  · next hnone => rw [hnone, Option.elim_none]
  · next d hd =>
    obtain ⟨r, hr⟩ := exists_recordOf (h.boundTo_mem hd)
    rw [hd, Option.elim_some, hr, Option.elim_some]
    exact logDriver_eq _ _ _ _

theorem unbind_bound {t : Dtu} {slot d : Nat} {r : Driver} (hd : boundTo t slot = some d) (hr : recordOf t d = some r) :
    unbind slot t = (t.slotTo slot none).logged .cardOut (some slot) r := by
  unfold unbind
  rw [hd]
  dsimp only
  rw [hr]
  exact logDriver_eq _ _ _ _

@[simp] theorem unbind_minutes (slot : Nat) (t : Dtu) : (unbind slot t).minutes = t.minutes := by
  unfold unbind
  split
  · rfl
  · split
    · simp only [logDriver_eq, Dtu.logged, setSlot]
      split <;> rfl
    · unfold setSlot
      split <;> rfl

@[simp] theorem unbind_unsynced (slot : Nat) (t : Dtu) : (unbind slot t).unsynced = t.unsynced := by
  unfold unbind
  split
  · rfl
  · split
    · simp only [logDriver_eq, Dtu.logged, setSlot]
      split <;> rfl
    · unfold setSlot
      split <;> rfl

theorem recordOf_unbind (slot d : Nat) (t : Dtu) : recordOf (unbind slot t) d = recordOf t d := by
  rw [recordOf, unbind_drivers, ← recordOf]

/-- The table with a record present in a slot. -/
def Dtu.present (t : Dtu) (slot digest minutes : Nat) : Dtu :=
  { (t.slotTo slot (some digest)) with drivers := t.drivers.map fun r =>
      if r.digest = digest then { r with lastPresent := minutes } else r }

theorem recordOf_map {l : List Driver} {d m : Nat} :
    (l.map fun x => if x.digest = d then { x with lastPresent := m } else x).find? (fun x => decide (x.digest = d)) =
      (l.find? fun x => decide (x.digest = d)).map fun r => { r with lastPresent := m } := by
  induction l with
  | nil => rfl
  | cons x xs ih =>
    by_cases hx : x.digest = d
    · simp [hx]
    · simp [hx, ih]

theorem bind_eq {t : Dtu} {slot d : Nat} {r : Driver} (hr : recordOf t d = some r) :
    bind slot d t = (t.present slot d t.minutes).logged .cardIn (some slot) r := by
  have hput : updRecord d (fun x => { x with lastPresent := t.minutes }) (setSlot slot (some d) t) =
      t.present slot d t.minutes := by
    unfold updRecord Dtu.present
    rw [setSlot_drivers]
    rfl
  have hfound : recordOf (t.present slot d t.minutes) d = some { r with lastPresent := t.minutes } := by
    unfold recordOf Dtu.present
    rw [recordOf_map]
    exact congrArg _ hr
  unfold bind
  dsimp only
  rw [hput, hfound]
  exact logDriver_eq _ _ _ _

theorem Dtu.slotTo_unsynced (t : Dtu) (slot : Nat) (d : Option Nat) : (t.slotTo slot d).unsynced = t.unsynced := by
  unfold Dtu.slotTo
  split <;> rfl

theorem bind_unsynced (slot d : Nat) (t : Dtu) : (bind slot d t).unsynced = t.unsynced := by
  have hput : (updRecord d (fun x => { x with lastPresent := t.minutes }) (setSlot slot (some d) t)).unsynced = t.unsynced :=
    Dtu.slotTo_unsynced t slot (some d)
  unfold bind
  dsimp only
  split
  · rw [logDriver_eq]
    exact hput
  · exact hput

theorem makeRoom_unsynced (t : Dtu) : (makeRoom t).unsynced = t.unsynced := by
  unfold makeRoom
  split
  · rfl
  · split <;> rfl

theorem cardPresent_unsynced (slot d : Nat) (t : Dtu) : (cardPresent slot d t).unsynced = t.unsynced := by
  unfold cardPresent bindPresent
  split
  · rfl
  · split
    · split <;> simp [bind_unsynced]
    · rw [bind_unsynced]
      exact (makeRoom_unsynced _).trans (unbind_unsynced slot t)

theorem boundTo_bind (slot d : Nat) (t : Dtu) : boundTo (bind slot d t) slot = some d :=
  ((bind_sameTable slot d t).boundTo slot).trans (boundTo_setSlot_same slot (some d) t)

theorem boundTo_cardPresent (slot d : Nat) (t : Dtu) : boundTo (cardPresent slot d t) slot = some d := by
  unfold cardPresent bindPresent
  split
  · assumption
  · split
    · split
      · exact boundTo_bind _ _ _
      · exact boundTo_bind _ _ _
    · exact boundTo_bind _ _ _

/-- R111, case 4: the record moves from the other slot. -/
theorem cardPresent_moved {t : Dtu} {slot d : Nat} {r : Driver} (h : SlotsLaw t) (hb : boundTo t slot ≠ some d)
    (hr : recordOf t d = some r) (hother : boundTo t (otherSlot slot) = some d) :
    cardPresent slot d t =
      ((((t.cardOut slot).slotTo (otherSlot slot) none).logged .cardOut (some (otherSlot slot)) r).present slot d
        t.minutes).logged .cardIn (some slot) r := by
  have hfreed : recordOf (unbind slot t) d = some r := (recordOf_unbind slot d t).trans hr
  have hstill : boundTo (unbind slot t) (otherSlot slot) = some d := (boundTo_unbind_other slot t).trans hother
  rw [cardPresent, if_neg hb, bindPresent, hfreed]
  dsimp only
  rw [if_pos hstill, bind_eq ((recordOf_unbind _ _ _).trans hfreed), unbind_minutes, unbind_minutes,
    unbind_bound hstill hfreed, unbind_eq h]

/-- R111, case 3: the record of the table is bound. -/
theorem cardPresent_known {t : Dtu} {slot d : Nat} {r : Driver} (h : SlotsLaw t) (hb : boundTo t slot ≠ some d)
    (hr : recordOf t d = some r) (hother : boundTo t (otherSlot slot) ≠ some d) :
    cardPresent slot d t = ((t.cardOut slot).present slot d t.minutes).logged .cardIn (some slot) r := by
  have hfreed : recordOf (unbind slot t) d = some r := (recordOf_unbind slot d t).trans hr
  rw [cardPresent, if_neg hb, bindPresent, hfreed]
  dsimp only
  rw [if_neg (by rwa [boundTo_unbind_other]), bind_eq hfreed, unbind_minutes, unbind_eq h]

@[simp] theorem makeRoom_minutes (t : Dtu) : (makeRoom t).minutes = t.minutes := by
  unfold makeRoom
  split
  · rfl
  · split <;> rfl

/-- The table with a new record, bound to a slot. -/
def Dtu.enters (t : Dtu) (slot : Nat) (r : Driver) : Dtu :=
  ({ (t.slotTo slot (some r.digest)) with drivers := t.drivers ++ [r] }).logged .cardIn (some slot) r

theorem freshRecord_congr {t u : Dtu} (hp : t.params = u.params) (hm : t.minutes = u.minutes) (d : Nat) :
    freshRecord t d = freshRecord u d := by
  unfold freshRecord
  rw [hp, hm]

theorem bind_created {t : Dtu} {slot d : Nat} (hnew : recordOf t d = none) :
    bind slot d (createRecord d t) = (makeRoom t).enters slot (freshRecord t d) := by
  have hfresh : freshRecord (makeRoom t) d = freshRecord t d := freshRecord_congr (makeRoom_params t) (makeRoom_minutes t) d
  have hothers (x : Driver) (hx : x ∈ (makeRoom t).drivers) : x.digest ≠ d := fun heq =>
    (recordOf_eq_none_iff t d).1 hnew (heq ▸ List.mem_map_of_mem (makeRoom_sub t x hx))
  have hfound : recordOf (createRecord d t) d = some (freshRecord t d) := by
    unfold recordOf createRecord
    dsimp only
    rw [hfresh, List.find?_append, List.find?_eq_none.2 fun x hx => by simpa using hothers x hx]
    simp [freshRecord_digest]
  have hmap : (createRecord d t).drivers.map (fun x => if x.digest = d then { x with lastPresent := (createRecord d t).minutes } else x) =
      (makeRoom t).drivers ++ [freshRecord t d] := by
    have hid : (createRecord d t).drivers = (makeRoom t).drivers ++ [freshRecord t d] := by
      unfold createRecord
      dsimp only
      rw [hfresh]
    rw [hid, List.map_append]
    congr 1
    · exact (List.map_congr_left fun x hx => if_neg (hothers x hx)).trans (List.map_id _)
    · have hminutes : (createRecord d t).minutes = t.minutes := makeRoom_minutes t
      rw [List.map_singleton, if_pos (freshRecord_digest t d), hminutes]
      rfl
  rw [bind_eq hfound, Dtu.present, hmap, Dtu.enters]
  congr 1
  unfold Dtu.slotTo createRecord
  split <;> rfl

/-- R111, case 5, R112: a new record, with room for it. -/
theorem cardPresent_new {t : Dtu} {slot d : Nat} (h : SlotsLaw t) (hb : boundTo t slot ≠ some d) (hr : recordOf t d = none) :
    cardPresent slot d t = (makeRoom (t.cardOut slot)).enters slot (freshRecord t d) := by
  have hfreed : recordOf (unbind slot t) d = none := (recordOf_unbind slot d t).trans hr
  have hparams : (unbind slot t).params = t.params := (unbind_sameTable slot t).1.trans (by unfold setSlot; split <;> rfl)
  rw [cardPresent, if_neg hb, bindPresent, hfreed]
  dsimp only
  rw [bind_created hfreed, freshRecord_congr hparams (unbind_minutes slot t), unbind_eq h]

theorem cardOut_drivers {t : Dtu} (h : SlotsLaw t) (slot : Nat) : (t.cardOut slot).drivers = t.drivers := by
  rw [← unbind_eq h, unbind_drivers]

theorem cardOut_minutes {t : Dtu} (h : SlotsLaw t) (slot : Nat) : (t.cardOut slot).minutes = t.minutes := by
  rw [← unbind_eq h, unbind_minutes]

theorem SlotsLaw.cardOut {t : Dtu} (h : SlotsLaw t) (slot : Nat) : SlotsLaw (t.cardOut slot) :=
  unbind_eq h slot ▸ h.unbind slot

theorem makeRoom_of_room {t : Dtu} (h : t.drivers.length < 4) : makeRoom t = t := if_pos h

/-- R112: a full table evicts the unbound record that has been absent longest. -/
theorem makeRoom_full {t : Dtu} (h : SlotsLaw t) (slot : Nat) (hfull : t.drivers.length = 4) :
    ∃ old, (old ∈ t.drivers ∧ (t.cardOut slot).slot1 ≠ some old.digest ∧ (t.cardOut slot).slot2 ≠ some old.digest) ∧
      (∀ x, (x ∈ t.drivers ∧ (t.cardOut slot).slot1 ≠ some x.digest ∧ (t.cardOut slot).slot2 ≠ some x.digest) →
        (t.minutes + 16777216 - x.lastPresent) % 16777216 < (t.minutes + 16777216 - old.lastPresent) % 16777216 ∨
          ((t.minutes + 16777216 - x.lastPresent) % 16777216 = (t.minutes + 16777216 - old.lastPresent) % 16777216 ∧
            old.digest ≤ x.digest)) ∧
      makeRoom (t.cardOut slot) =
        ({ (t.cardOut slot) with drivers := t.drivers.filter fun x => decide (x.digest ≠ old.digest) }).logged
          .recordEvicted none old := by
  have hfree (x : Driver) : isUnbound (t.cardOut slot) x = true ↔
      (t.cardOut slot).slot1 ≠ some x.digest ∧ (t.cardOut slot).slot2 ≠ some x.digest := by
    simp [isUnbound]
  have hdrivers := cardOut_drivers h slot
  have hage (x : Driver) : ageOf (t.cardOut slot) x = (t.minutes + 16777216 - x.lastPresent) % 16777216 := by
    rw [ageOf, cardOut_minutes h]
    rfl
  rcases makeRoom_cases (h.cardOut slot) with ⟨hlt, -⟩ | ⟨-, old, hold, heq⟩
  · rw [hdrivers] at hlt
    omega
  · obtain ⟨⟨hmem, hunbound⟩, holdest⟩ := oldestUnbound_spec hold
    rw [hdrivers] at hmem holdest
    refine ⟨old, ⟨hmem, (hfree old).1 hunbound⟩, fun x ⟨hx, hxfree⟩ => ?_, ?_⟩
    · rw [← hage, ← hage]
      exact holdest x hx ((hfree x).2 hxfree)
    · rw [heq, logDriver_eq, Dtu.without, hdrivers]

/-! ## Card events (R110) -/

section
variable {s : State} {slot i p : Nat}

theorem cardEvent_judged (hp : presenceSignal s.dtu.params slot = some p)
    (hi : i = p ∨ digestSignal s.dtu.params slot = some i) : cardEvent slot i s = judgeCard slot p s := by
  unfold cardEvent
  rw [hp]
  exact if_pos hi

theorem putBindings_self (s : State) : putBindings s.dtu s = s := by
  unfold putBindings
  dsimp only
  rw [if_pos rfl, if_pos rfl]

theorem usableDigest_eq_some_iff {d : Nat} : usableDigest s slot = some d ↔
    ∃ k v, digestSignal s.dtu.params slot = some k ∧ usableAt s k = some v ∧ v = (d : Int) ∧ d ≤ 65535 := by
  unfold usableDigest usableOpt
  cases hk : digestSignal s.dtu.params slot with
  | none => simp
  | some k =>
    cases hv : usableAt s k with
    | none => simp [hv]
    | some v =>
      simp only [hv, Option.some.injEq, exists_eq_left', exists_and_left]
      constructor
      · intro h
        split at h
        · cases h
          omega
        · cases h
      · rintro ⟨rfl, hd⟩
        rw [if_pos (by omega)]
        simp

theorem boundTo_ne {u t : Dtu} (hslot : slot = 1 ∨ slot = 2) (h : boundTo t slot ≠ boundTo u slot) :
    t.slot1 ≠ u.slot1 ∨ t.slot2 ≠ u.slot2 := by
  rcases hslot with rfl | rfl
  · exact .inl h
  · exact .inr h

theorem cardTaken_present {d : Nat} {new : Dtu} (hslot : slot = 1 ∨ slot = 2) (hpow : powered s = true)
    (hb : boundTo s.dtu slot ≠ some d) (hnew : cardPresent slot d s.dtu = new) :
    CardTaken s new (putBindings (cardPresent slot d s.dtu) s) := by
  rw [← hnew]
  exact putBindings_taken hpow (cardPresent_unsynced slot d s.dtu)
    (boundTo_ne hslot (by rw [boundTo_cardPresent]; exact fun h => hb h.symm))

theorem cardTaken_out (hslot : slot = 1 ∨ slot = 2) (hpow : powered s = true) (hb : boundTo s.dtu slot ≠ none) :
    CardTaken s (unbind slot s.dtu) (putBindings (unbind slot s.dtu) s) :=
  putBindings_taken hpow (unbind_unsynced slot s.dtu)
    (boundTo_ne hslot (by rw [boundTo_unbind_same]; exact fun h => hb h.symm))

end

/-- What the notes of a card event say of the presence signal. -/
theorem presenceOf_unknown {e : SigEntry} (h : e.status = .stale ∨ e.status = .never) : presenceOf e = .unknown := by
  unfold presenceOf
  rcases h with h | h <;> rw [h]

theorem presenceOf_present {e : SigEntry} (h : e.status = .valid ∨ e.status = .clamped) (hv : e.value ≠ 0) :
    presenceOf e = .present := by
  unfold presenceOf
  rcases h with h | h <;> rw [h] <;> exact if_neg hv

theorem presenceOf_absent {e : SigEntry} (h : e.status = .notAvailable ∨ e.status = .errorCode ∨
    ((e.status = .valid ∨ e.status = .clamped) ∧ e.value = 0)) : presenceOf e = .absent := by
  unfold presenceOf
  rcases h with h | h | ⟨h | h, hv⟩ <;> rw [h]
  · exact if_pos hv
  · exact if_pos hv

theorem otherSlot_eq {slot : Nat} (h : slot = 1 ∨ slot = 2) : otherSlot slot = 3 - slot := by
  rcases h with rfl | rfl <;> rfl

/-- Settles O52: the law by the traversal of a step; a card event by R110's rows and R111's cases. -/
theorem driverTableLawIsKept : Obligations.DriverTableLawIsKept := by
  unfold Obligations.DriverTableLawIsKept
  refine ⟨fun s t hstep => driven_leaves.outer.step (fun _ _ => .of_dtu rfl) hstep, ?_⟩
  intro s slot i p hslot hpow hlaw
  dsimp only
  intro hp hi
  obtain ⟨hok, hslots, -⟩ := (driverLaw_iff s.dtu).1 hlaw
  rw [cardEvent_judged (s := s) (slot := slot) hp hi, judgeCard]
  refine ⟨fun hstatus => ?_, fun hread hvalue hnone => ?_, fun hstatus => ?_, fun hread hvalue d hdigest => ?_⟩
  · rw [presenceOf_unknown hstatus]
  · have hno : usableDigest s slot = none := by
      rw [Option.eq_none_iff_forall_ne_some]
      exact fun d hd => hnone d (usableDigest_eq_some_iff.1 hd)
    rw [presenceOf_present hread hvalue]
    dsimp only
    rw [hno]
  · rw [presenceOf_absent hstatus]
    refine ⟨fun hb => ?_, fun hb => ?_⟩
    · have hsame : unbind slot s.dtu = s.dtu := by
        rw [unbind, show boundTo s.dtu slot = none from hb]
      dsimp only
      rw [hsame, putBindings_self]
    · exact unbind_eq hslots slot ▸ cardTaken_out hslot hpow hb
  · rw [presenceOf_present hread hvalue]
    dsimp only
    rw [usableDigest_eq_some_iff.2 hdigest]
    refine ⟨fun hb => ?_, fun hb => ⟨fun r hr => ⟨fun hother => ?_, fun hother => ?_⟩, fun hr => ?_⟩⟩
    · dsimp only
      rw [cardPresent, if_pos (show boundTo s.dtu slot = some d from hb), putBindings_self]
    · rw [← otherSlot_eq hslot] at hother
      exact cardTaken_present hslot hpow hb (cardPresent_known hslots hb hr hother)
    · rw [← otherSlot_eq hslot] at hother ⊢
      exact cardTaken_present hslot hpow hb (cardPresent_moved hslots hb hr hother)
    · have hnew := cardPresent_new hslots hb hr
      refine ⟨freshRecord s.dtu d, (freshRecord_law hok s.dtu d rfl).2, rfl, fun hroom => ?_, fun hfull => ?_⟩
      · rw [makeRoom_of_room (by rwa [cardOut_drivers hslots])] at hnew
        exact cardTaken_present hslot hpow hb hnew
      · obtain ⟨old, hfree, holdest, hmade⟩ := makeRoom_full hslots slot hfull
        rw [hmade] at hnew
        exact ⟨old, hfree, holdest, cardTaken_present hslot hpow hb hnew⟩

end Sys2Proof.Machine
end

section
/-! PROOFS. The commands in hand: a step of their row carries them out and places their REPLY (section 10.4). The
reads answer with what they name. -/

namespace Sys2Proof.Machine

theorem whenDue_inHand {s : State} {c : CmdCode} {cmd : Command} (h : InHand s c cmd) (hleave : c ≠ .leaveService)
    (htest : c ≠ .linkTest) (run : Command → State → State) : whenDue (commandDue s c) run s = run cmd s := by
  rw [h.due (fun hc => absurd hc hleave) fun hc => absurd hc htest]
  rfl

theorem whenDue_force {s : State} {a : ForceAction} {cmd : Command} (h : InHand s .forceOutput cmd)
    (ha : forceActionOf cmd.payload = some a) (run : Command → State → State) :
    whenDue (forceDue s a) run s = run cmd s := by
  rw [h.forceDue ha]
  rfl

/-- A command's answer, where what it did keeps the command and the mode. -/
theorem InHand.answered {s u : State} {c : CmdCode} {cmd : Command} (h : InHand s c cmd) (hcmd : u.run.mu.cmd = s.run.mu.cmd)
    (hmode : u.mode ≠ .shutdown) (code : Code) (data : List Byte) :
    Replied u (answer code data u) cmd (byteOf code.number :: data) none :=
  answer_replied (hcmd.trans h.2.1) hmode code data

/-- A command that changes nothing is answered. -/
theorem InHand.answered_same {s : State} {c : CmdCode} {cmd : Command} (h : InHand s c cmd) (code : Code) (data : List Byte) :
    Replied s (answer code data s) cmd (byteOf code.number :: data) none :=
  h.answered rfl h.mode_ne code data

/-! ## Flags in two bytes (R188) -/

/-- The number whose bits are the first `k` of `f`. -/
def bitsOf (f : Nat → Bool) (k : Nat) : Nat := (List.range k).foldl (fun acc n => acc + 2 ^ n * boolNat (f n)) 0

theorem bitsOf_succ (f : Nat → Bool) (k : Nat) : bitsOf f (k + 1) = 2 ^ k * boolNat (f k) + bitsOf f k := by
  unfold bitsOf
  rw [List.range_succ, List.foldl_append, Nat.add_comm]
  rfl

theorem bitsOf_lt (f : Nat → Bool) (k : Nat) : bitsOf f k < 2 ^ k := by
  induction k with
  | zero => exact Nat.one_pos
  | succ k ih =>
    have hbit : boolNat (f k) ≤ 1 := by cases f k <;> decide
    have hle : 2 ^ k * boolNat (f k) ≤ 2 ^ k * 1 := Nat.mul_le_mul_left _ hbit
    rw [bitsOf_succ, Nat.pow_succ]
    omega

theorem bitsOf_testBit (f : Nat → Bool) (k n : Nat) : (bitsOf f k).testBit n = (decide (n < k) && f n) := by
  induction k with
  | zero => simp [bitsOf]
  | succ k ih =>
    rw [bitsOf_succ, Nat.testBit_two_pow_mul_add _ (bitsOf_lt f k)]
    split
    · next hlt =>
      rw [ih]
      simp [hlt, Nat.lt_succ_of_lt hlt]
    · next hge =>
      rcases Nat.eq_or_lt_of_le (Nat.le_of_not_lt hge) with rfl | hgt
      · cases f k <;> simp [boolNat]
      · have hpos : n - k ≠ 0 := by omega
        have hout : ¬ n < k + 1 := by omega
        cases f k <;> simp [boolNat, hout, Nat.testBit_one_eq_true_iff_self_eq_zero, ← Bool.not_eq_true, hpos]

theorem flagBytes_eq (s : State) :
    flagBytes s = [byteOf (bitsOf (flagNumber s) 14 / 256), byteOf (bitsOf (flagNumber s) 14)] := rfl

theorem flagsLow_bit (f : Nat → Bool) {n : Nat} (hn : n < 8) : (byteOf (bitsOf f 14)).getLsbD n = f n := by
  have hin : n < 14 := by omega
  rw [byteOf, BitVec.getLsbD_ofNat, bitsOf_testBit]
  simp [hn, hin]

theorem flagsHigh_bit (f : Nat → Bool) {n : Nat} (hn : n < 8) :
    (byteOf (bitsOf f 14 / 256)).getLsbD n = (decide (n < 6) && f (n + 8)) := by
  have hshift : (bitsOf f 14 / 256).testBit n = (bitsOf f 14).testBit (n + 8) := by
    rw [show (256 : Nat) = 2 ^ 8 from rfl, Nat.testBit_div_two_pow]
  have hin : decide (n + 8 < 14) = decide (n < 6) := by
    rw [decide_eq_decide]
    omega
  rw [byteOf, BitVec.getLsbD_ofNat, hshift, bitsOf_testBit, hin]
  simp [hn]

/-! ## The reads (R178, R179, R182) -/

theorem entryBytes_eq {s : State} {payload : List Byte} {table : TableId}
    (ht : tableOf (bitField (byteAt payload 1) 7 4) = some table) (hg : bitField (byteAt payload 1) 3 0 < table.groups) :
    entryBytes s payload =
      ((List.range 6).map fun k => storeRead s.store (storeAddress table (byteAt payload 2).toNat
        (6 * bitField (byteAt payload 1) 3 0 + k))) ++
      [byteOf (16 * storeStateCode (storeStateOf s.store table (byteAt payload 2).toNat) +
        workStateCode (workStateAt s table (byteAt payload 2).toNat))] := by
  have htable : entryTable payload = table := by rw [entryTable, ht, Option.getD_some]
  generalize hgroup : bitField (byteAt payload 1) 3 0 = g at hg ⊢
  have hgroup' : entryGroup payload = g := hgroup
  unfold entryBytes
  rw [htable, hgroup']
  dsimp only [entryIndex]
  congr 1
  refine List.ext_getElem? fun k => ?_
  unfold storeImage
  rw [List.getElem?_take, List.getElem?_drop, List.getElem?_map, List.getElem?_map]
  by_cases hk : k < 6
  · rw [if_pos hk, List.getElem?_range (by omega), List.getElem?_range hk]
    rfl
  · rw [if_neg hk, List.getElem?_eq_none (by simpa using hk)]
    rfl

theorem storeStateCode_eq (m : List Host.Cell) (t : TableId) (i : Nat) :
    storeStateCode (storeStateOf m t i) =
      if (∀ b ∈ storeImage m t i, b = 0xFF#8) ∧ storeRead m (storeAddress t i (6 * t.groups)) = 0xFF#8 then 0
      else if storeRead m (storeAddress t i (6 * t.groups)) = crc8 (storeImage m t i) then 1 else 2 := by
  have hall : (storeImage m t i).all (· = 0xFF#8) = true ↔ ∀ b ∈ storeImage m t i, b = 0xFF#8 := by simp
  unfold storeStateOf storeCheck
  simp only [hall]
  split
  · rfl
  · split <;> rfl

/-- Settles O21: each read's bytes, placed in its REPLY. -/
theorem readsAnswerWithTheirData : Obligations.ReadsAnswerWithTheirData := by
  unfold Obligations.ReadsAnswerWithTheirData
  intro s cmd
  refine ⟨fun hin => ?status, fun hin => ?signal, fun hin table htable => ?entry, fun hin => ?driver⟩
  case status =>
    refine ⟨_, _, _, congrArg Host.Outcome.next (whenDue_inHand hin (by simp) (by simp) fun _ => runReadStatus),
      fun n hn => flagsHigh_bit (flagNumber s) hn, fun n hn => flagsLow_bit (flagNumber s) hn, ?_⟩
    exact hin.answered_same .ok (statusBytes s)
  case signal =>
    refine ⟨_, congrArg Host.Outcome.next (whenDue_inHand hin (by simp) (by simp) runReadSignal), ?_⟩
    exact hin.answered_same .ok _
  case entry =>
    intro i group image check hgroup
    refine ⟨_, congrArg Host.Outcome.next (whenDue_inHand hin (by simp) (by simp) runReadEntry), ?_⟩
    have hanswered := hin.answered_same .ok (entryBytes s cmd.payload)
    rw [entryBytes_eq htable hgroup, storeStateCode_eq] at hanswered
    unfold runReadEntry
    rw [entryBytes_eq htable hgroup, storeStateCode_eq]
    exact hanswered
  case driver =>
    refine ⟨_, congrArg Host.Outcome.next (whenDue_inHand hin (by simp) (by simp) runReadDriver), fun hnone => ?_,
      fun d hd => ?_⟩
    · unfold runReadDriver
      rw [hnone]
      exact hin.answered_same .ok _
    · unfold runReadDriver
      rw [hd]
      exact sendResult_replied hin.2.1 hin.mode_ne _ _ _ rfl

end Sys2Proof.Machine
end

section
/-! PROOFS. ENTER SERVICE, WRITE ENTRY, SET DRIVE-TIME and FORCE OUTPUT (section 10.4). -/

namespace Sys2Proof.Machine

/-! ## ENTER SERVICE (R166) -/

theorem chimeSilence_frame (s : State) : WarningsOnly s (chimeSilence s) := ⟨rfl, rfl⟩

theorem enterService_frame (s : State) :
    WarningsOnly { s with mode := .service, run.flags.service := true } (enterService s) := by
  have hflag : WarningsOnly { s with mode := .service, run.flags.service := true }
      (flagChange .service true { s with mode := .service }) := flagChange_frame .service true { s with mode := .service }
  exact (hflag.trans (chimeSilence_frame _)).trans (noticeIfOn_frame _ _)

theorem noticeIfOn_still (k : NoticeType) (s : State) : Still s (noticeIfOn k s) := by
  unfold noticeIfOn
  split
  · exact still_of_eq rfl rfl rfl rfl rfl rfl
  · exact .refl s

theorem enterService_chime (s : State) : (enterService s).run.tu.chime = Chime.initial := (noticeIfOn_still _ _).chime

theorem enterService_stands (s : State) : NoticeStands .status (enterService s) := by
  refine noticeIfOn_stands ?_
  rw [noticing, (chimeSilence_frame _).mode, flagChange_mode]
  rfl

/-- Settles O24: the interlock decides; the entry's frame by the flag's and the chime's. -/
theorem enterServiceTakesTheInterlock : Obligations.EnterServiceTakesTheInterlock := by
  unfold Obligations.EnterServiceTakesTheInterlock
  intro s cmd hin held
  have hheld : held ↔ interlock s = true := by rw [interlock_iff, parkBrakeOn_iff]
  have hexec := congrArg (Host.Outcome.next (φ := Fault) (ρ := Refusal))
    (whenDue_inHand hin (by simp) (by simp) fun _ => runEnterService)
  refine ⟨fun h => ?_, fun h => ?_⟩
  · have hframe := enterService_frame s
    refine ⟨enterService s, _, hexec, ?_, hframe, enterService_chime s, enterService_stands s⟩
    unfold runEnterService
    rw [if_pos (hheld.1 h)]
    exact hin.answered (by rw [hframe.mu]) (by rw [hframe.mode]; simp) .ok []
  · refine ⟨_, hexec, ?_⟩
    unfold runEnterService
    rw [if_neg fun hi => h (hheld.2 hi)]
    exact hin.answered_same .refusedInterlock []

/-! ## WRITE ENTRY (R180) -/

theorem storeRead_storeWriteAll {m : List Host.Cell} (h : storeWf m = true) (a : Nat) (vs : List Byte) (b : Nat) :
    storeRead (storeWriteAll m a vs) b =
      if a ≤ b ∧ b < a + vs.length then vs.getD (b - a) 0#8 else storeRead m b := by
  induction vs generalizing m a with
  | nil => rw [if_neg (by simp)]; rfl
  | cons v vs ih =>
    rw [storeWriteAll, ih (storeWrite_wf a v h), storeRead_storeWrite h, List.length_cons]
    rcases Nat.lt_trichotomy b a with hlt | rfl | hgt
    · rw [if_neg (by omega), if_neg (by omega), if_neg (by omega)]
    · rw [if_neg (by omega), if_pos rfl, if_pos (by omega), Nat.sub_self]
      rfl
    · have hstep : b - a = b - (a + 1) + 1 := by omega
      by_cases hin : b < a + 1 + vs.length
      · rw [if_pos (by omega), if_pos (by omega), hstep]
        rfl
      · rw [if_neg (by omega), if_neg (by omega), if_neg (by omega)]

theorem writeGroup_read {m : List Host.Cell} (h : storeWf m = true) (t : TableId) (i g : Nat) (bs : List Byte) {a : Nat}
    (ha : a ≠ storeAddress t i (6 * t.groups)) :
    storeRead (writeGroup m t i g bs) a = storeRead (storeWriteAll m (storeAddress t i (6 * g)) bs) a := by
  unfold writeGroup
  dsimp only
  rw [storeRead_storeWrite (storeWriteAll_wf _ bs h), if_neg ha]

theorem writeGroup_image {m : List Host.Cell} (h : storeWf m = true) (t : TableId) (i g : Nat) (bs : List Byte) :
    storeImage (writeGroup m t i g bs) t i = storeImage (storeWriteAll m (storeAddress t i (6 * g)) bs) t i := by
  refine List.map_congr_left fun k hk => writeGroup_read h t i g bs ?_
  have := List.mem_range.1 hk
  unfold storeAddress
  omega

/-- R180: the check byte is the CRC over the image as it then stands. -/
theorem writeGroup_check {m : List Host.Cell} (h : storeWf m = true) (t : TableId) (i g : Nat) (bs : List Byte) :
    storeCheck (writeGroup m t i g bs) t i = crc8 (storeImage (writeGroup m t i g bs) t i) := by
  rw [writeGroup_image h]
  unfold storeCheck writeGroup
  dsimp only
  rw [storeRead_storeWrite (storeWriteAll_wf _ bs h), if_pos rfl]

theorem storeStateOf_of_check {m : List Host.Cell} {t : TableId} {i : Nat} (h : storeCheck m t i = crc8 (storeImage m t i)) :
    storeStateOf m t i ≠ .bad := by
  unfold storeStateOf
  dsimp only
  rw [if_pos h]
  split <;> simp

/-- Settles O25: what the store's reads are after the group and the check byte are written. -/
theorem writeEntryWritesOneGroup : Obligations.WriteEntryWritesOneGroup := by
  unfold Obligations.WriteEntryWritesOneGroup
  intro s cmd table hin hwf htable i group hgroup
  have htable' : entryTable cmd.payload = table := by rw [entryTable, htable, Option.getD_some]
  let bytes := (List.range 6).map fun k => byteAt cmd.payload (3 + k)
  have hstore : (writeEntry cmd.payload s).store = writeGroup s.store table i group bytes := by
    rw [← htable']
    rfl
  have hread (a : Nat) (ha : a ≠ storeAddress table i (6 * table.groups)) :=
    (writeGroup_read hwf table i group bytes ha).trans (storeRead_storeWriteAll hwf (storeAddress table i (6 * group)) bytes a)
  have hlength : bytes.length = 6 := by simp [bytes]
  refine ⟨writeEntry cmd.payload s, _, congrArg Host.Outcome.next (whenDue_inHand hin (by simp) (by simp) runWriteEntry),
    hin.answered (u := writeEntry cmd.payload s) rfl hin.mode_ne .ok [], rfl, fun k hk => ?_, ?_, ?_, fun a hout hcheck => ?_⟩
  · have hne : storeAddress table i (6 * group + k) ≠ storeAddress table i (6 * table.groups) := by
      unfold storeAddress
      omega
    have hsub : storeAddress table i (6 * group + k) - storeAddress table i (6 * group) = k := by
      unfold storeAddress
      omega
    rw [hstore, hread _ hne, if_pos (by unfold storeAddress; omega), hsub]
    simp [bytes, List.getD_eq_getElem?_getD, hk]
  · rw [hstore]
    exact writeGroup_check hwf table i group bytes
  · rw [hstore]
    exact storeStateOf_of_check (writeGroup_check hwf table i group bytes)
  · rw [hstore, hread a hcheck, hlength, if_neg hout]

/-! ## SET DRIVE-TIME (R122) -/

theorem syncLoad_eq (slot digest cont daily : Nat) (splitDone : Bool) (s : State) :
    syncLoad slot digest cont daily splitDone s =
      bindingOutputs slot (slotStage s slot) { s with dtu := loadedDtu slot digest cont daily splitDone s.dtu } := rfl

theorem find?_map_digest {f : Driver → Driver} (hf : ∀ r, (f r).digest = r.digest) (d : Nat) (l : List Driver) :
    (l.map fun r => if r.digest = d then f r else r).find? (fun r => decide (r.digest = d)) =
      (l.find? fun r => decide (r.digest = d)).map f := by
  induction l with
  | nil => rfl
  | cons x xs ih =>
    by_cases hx : x.digest = d
    · simp [hx, hf]
    · simp [hx, ih]

theorem recordOf_updRecord {f : Driver → Driver} (hf : ∀ r, (f r).digest = r.digest) (d : Nat) (t : Dtu) :
    recordOf (updRecord d f t) d = (recordOf t d).map f := find?_map_digest hf d t.drivers

/-- R122: the loaded record is in its place, and the load is logged. -/
theorem loadedDtu_eq {slot d cont daily : Nat} {splitDone : Bool} {t : Dtu} {r : Driver} (hr : recordOf t d = some r) :
    loadedDtu slot d cont daily splitDone t =
      (updRecord d (loadRecord t.params cont daily splitDone) t).logged .syncLoad (some slot) r := by
  have hfound := recordOf_updRecord (f := loadRecord t.params cont daily splitDone) (fun _ => rfl) d t
  rw [hr, Option.map_some] at hfound
  unfold loadedDtu
  dsimp only
  rw [hfound]
  exact logDriver_eq _ _ _ _

theorem recordOf_digest {t : Dtu} {d : Nat} {r : Driver} (h : recordOf t d = some r) : r.digest = d := by
  simpa using List.find?_some h

theorem slotDriver_eq_some {s : State} {slot : Nat} {r : Driver} (h : slotDriver s slot = some r) :
    boundTo s.dtu slot = some r.digest ∧ recordOf s.dtu r.digest = some r := by
  rw [slotDriver_eq_boundRecord, Dtu.boundRecord, Option.bind_eq_some_iff] at h
  obtain ⟨d, hd, hr⟩ := h
  rw [recordOf_digest hr]
  exact ⟨hd, hr⟩

theorem boundRecord_loaded {t : Dtu} {slot cont daily : Nat} {splitDone : Bool} {r : Driver}
    (hb : boundTo t slot = some r.digest) (hr : recordOf t r.digest = some r) :
    (loadedDtu slot r.digest cont daily splitDone t).boundRecord slot = some (loadRecord t.params cont daily splitDone r) := by
  have hfound := recordOf_updRecord (f := loadRecord t.params cont daily splitDone) (fun _ => rfl) r.digest t
  rw [hr, Option.map_some] at hfound
  have hbound : boundTo ((updRecord r.digest (loadRecord t.params cont daily splitDone) t).logged .syncLoad (some slot) r) slot =
      some r.digest := hb
  rw [loadedDtu_eq hr, Dtu.boundRecord, hbound, Option.bind_some]
  exact hfound

theorem setDriveTime_powered {s : State} {cmd : Command} (h : InHand s .setDriveTime cmd) :
    powered s = true ∧ noticing s = true := by
  have hmode := h.2.2.2
  simp only [CmdCode.inMode, decide_eq_true_eq] at hmode
  rcases hmode with hm | hm <;> simp [powered, noticing, hm]

/-- Settles O26: the loaded record's slot takes R114's outputs; an empty slot is refused. -/
theorem setDriveTimeLoadsTheRecord : Obligations.SetDriveTimeLoadsTheRecord := by
  unfold Obligations.SetDriveTimeLoadsTheRecord
  intro s cmd hin hrange slot cont daily p left stage load
  have hexec := congrArg (Host.Outcome.next (φ := Fault) (ρ := Refusal))
    (whenDue_inHand hin (by simp) (by simp) runSetDriveTime)
  obtain ⟨hpow, hnoticing⟩ := setDriveTime_powered hin
  refine ⟨fun hnone => ⟨_, hexec, ?_⟩, fun d hd => ?_⟩
  · unfold runSetDriveTime
    dsimp only
    rw [hnone]
    exact hin.answered_same .refusedRange []
  · obtain ⟨hbound, hrecord⟩ := slotDriver_eq_some hd
    generalize hu : ({ s with dtu := loadedDtu slot d.digest cont daily (decide ((byteAt cmd.payload 6).toNat = 1)) s.dtu } :
      State) = u
    have hpu : powered u = true := by rw [← hu]; exact hpow
    have hnu : noticing u = true := by rw [← hu]; exact hnoticing
    have hframe := bindingOutputs_frame hpu slot (slotStage s slot)
    have hdriver : slotDriver u slot = some (load d) := by
      rw [slotDriver_eq_boundRecord, ← hu]
      exact boundRecord_loaded hbound hrecord
    refine ⟨bindingOutputs slot (slotStage s slot) u, _, hexec, ?_, bindingOutputs_stands hpu hnu slot _, ?_⟩
    · unfold runSetDriveTime
      dsimp only
      rw [hd]
      dsimp only
      rw [if_pos hrange, syncLoad_eq, hu]
      refine hin.answered (by rw [hframe.mu, ← hu]; rfl) ?_ .ok []
      rw [hframe.mode, ← hu]
      exact hin.mode_ne
    · have hbase : boundBase slot u = _ := rfl
      have hentry : slotEntry u slot = { value := (left : Int), status := .valid } := by
        unfold slotEntry
        rw [hdriver]
      have hsynced : (if slot = 1 then slotUnsynced u else u.dtu.unsynced) = if slot = 1 then false else s.dtu.unsynced := by
        split
        · next h1 =>
          rw [h1] at hdriver
          unfold slotUnsynced
          rw [hdriver]
          rfl
        · rw [← hu, loadedDtu_eq hrecord]
          rfl
      rw [boundBase, hentry, hsynced, ← hu, loadedDtu_eq hrecord] at hframe
      rw [← hu, loadedDtu_eq hrecord]
      exact hframe

end Sys2Proof.Machine
end

section
/-! PROOFS. FORCE OUTPUT and CLEAR STATUS (section 10.4), and the reports of the lamps' load states. -/

namespace Sys2Proof.Machine

/-! ## Forced lamps and chime (R91, R102, R183) -/

theorem forceLamp_forced (n : Nat) (f : Option Bool) (s : State) :
    LampsForced s (forceLamp n f s) fun m r => if m = n then f else r.forced := by
  refine ⟨by simp [forceLamp, driveLamps, updLamp], fun m r hr => ?_⟩
  have hlamp : (updLamp n (fun r => { r with forced := f }) s).run.tu.lamps[m]? =
      some { r with forced := if m = n then f else r.forced } := by
    unfold updLamp
    dsimp only
    rw [updAt_getElem?, hr]
    split <;> rfl
  refine ⟨lampOutput s m { r with forced := if m = n then f else r.forced }, ?_, lampOutput_iff (forceLamp n f s) m _⟩
  unfold forceLamp driveLamps
  dsimp only
  rw [mapFrom_getElem?, hlamp, Option.map_some, Nat.zero_add]
  rfl

theorem forceLamp_replied {s : State} {cmd : Command} (hin : InHand s .forceOutput cmd) {a : ForceAction}
    (ha : forceActionOf cmd.payload = some a) (f : Option Bool) :
    ∃ u t, Host.Outcome.next (φ := Fault) (ρ := Refusal) (whenDue (forceDue s a)
        (fun c t => answer .ok [] (forceLamp (forceTarget c) f t)) s) = .next t ∧
      Replied u t cmd [0#8] none ∧ u = { s with run.tu.lamps := u.run.tu.lamps } ∧
      LampsForced s u fun m r => if m = (byteAt cmd.payload 2).toNat then f else r.forced :=
  ⟨forceLamp (forceTarget cmd) f s, _, congrArg Host.Outcome.next (whenDue_force hin ha _),
    hin.answered (u := forceLamp (forceTarget cmd) f s) rfl hin.mode_ne .ok [], rfl, forceLamp_forced _ f s⟩

theorem runChimePattern_forced {s : State} {cmd : Command} (hin : InHand s .forceOutput cmd) {p : Pattern}
    (hp : patternOf (byteAt cmd.payload 2).toNat = some p) (hrep : p ≠ .rep) :
    Replied (forceChime p s) (runChimePattern cmd s) cmd [0#8] none := by
  have hrun : runChimePattern cmd s = answer .ok [] (forceChime p s) := by
    unfold runChimePattern forceTarget
    rw [hp]
    cases p with
    | rep => exact absurd rfl hrep
    | check => rfl
    | single => rfl
    | triple => rfl
  rw [hrun]
  exact hin.answered (u := forceChime p s) rfl hin.mode_ne .ok []

/-- Settles O27: each forcing as one update of its lamp or of the pattern playing, then the answer. -/
theorem forcedLampsAndChime : Obligations.ForcedLampsAndChime := by
  unfold Obligations.ForcedLampsAndChime
  intro s cmd hin n lamp chime
  refine ⟨fun ha _ => forceLamp_replied hin ha _, fun ha _ => forceLamp_replied hin ha _,
    fun ha _ => forceLamp_replied hin ha _, fun ha => ?_⟩
  have hexec := congrArg (Host.Outcome.next (φ := Fault) (ρ := Refusal)) (whenDue_force hin ha runChimePattern)
  have hchime : ∀ p, patternOf n = some p → p ≠ .rep → chime p := fun p hp hrep =>
    ⟨_, hexec, runChimePattern_forced hin hp hrep⟩
  refine ⟨fun h => hchime .check (by rw [h]; rfl) nofun, fun h => hchime .single (by rw [h]; rfl) nofun,
    fun h => hchime .triple (by rw [h]; rfl) nofun, fun h => ⟨_, hexec, ?_⟩⟩
  have hrun : runChimePattern cmd s = answer .refusedRange [] s := by
    unfold runChimePattern forceTarget
    rw [show (byteAt cmd.payload 2).toNat = 4 from h]
    rfl
  rw [hrun]
  exact hin.answered_same .refusedRange []

/-! ## Forced gauges (R57, R58) -/

/-- A channel that does not exist reads as one whose position is unknown. -/
theorem channelAt_known {s : State} {n : Nat} (h : (channelAt s n).known = true) :
    s.run.gu.channels[n]? = some (channelAt s n) := by
  rcases Nat.lt_or_ge n s.run.gu.channels.length with hn | hn
  · rw [channelAt, List.getD_eq_getElem?_getD, List.getElem?_eq_getElem hn]
    rfl
  · rw [channelAt_of_length_le hn] at h
    cases h

theorem canForce_iff (s : State) (n position : Nat) : canForce (gaugeAt s n) position (channelAt s n) = true ↔
    ∃ g c, gaugeAt s n = some g ∧ s.run.gu.channels[n]? = some c ∧ c.known = true ∧ position ≤ g.span ∧
      (c.state = .track ∨ c.state = .sourceless ∨ c.state = .frozen ∨ c.state = .forced) := by
  constructor
  · intro h
    unfold canForce at h
    split at h
    · cases h
    next g hg =>
    simp only [Bool.and_eq_true, decide_eq_true_eq] at h
    obtain ⟨⟨hknown, hspan⟩, hstate⟩ := h
    exact ⟨g, _, hg, channelAt_known hknown, hknown, hspan, hstate⟩
  · rintro ⟨g, c, hg, hc, hknown, hspan, hstate⟩
    have hat : channelAt s n = c := by rw [channelAt, List.getD_eq_getElem?_getD, hc]; rfl
    simp only [canForce, hg, hat, hknown, Bool.true_and, Bool.and_eq_true, decide_eq_true_eq]
    exact ⟨hspan, hstate⟩

theorem releaseChannel_eq (supply : Bool) (c : Channel) : releaseChannel supply c =
    if c.state = .forced ∧ supply = true then
      { c with state := .frozen, resume := some .track, openA := 0, openB := 0, forced := none
               filt := 16 * c.pos, target := c.pos }
    else if c.state = .forced then
      { c with state := .track, resume := none, forced := none, filt := 16 * c.pos, target := c.pos }
    else c := by
  unfold releaseChannel
  by_cases hstate : c.state = .forced
  · cases supply <;> simp [hstate, enterMoving, Resume.state]
  · simp [hstate]

/-- Settles O28: what may be forced, and the two updates of a channel. -/
theorem forcedGauges : Obligations.ForcedGauges := by
  unfold Obligations.ForcedGauges
  intro s cmd hin n position supply
  refine ⟨fun ha => ?_, fun ha => ?_⟩
  · have hexec := congrArg (Host.Outcome.next (φ := Fault) (ρ := Refusal)) (whenDue_force hin ha runGaugePosition)
    intro mayForce
    refine ⟨fun h => ⟨_, hexec, ?_⟩, fun h => ⟨_, hexec, ?_⟩⟩
    · rw [show runGaugePosition cmd s = answer .ok [] (reportGauges (updChannel n (forceChannel position) s)) from
        if_pos ((canForce_iff s n position).2 h)]
      exact hin.answered (u := reportGauges (updChannel n (forceChannel position) s)) rfl hin.mode_ne .ok []
    · rw [show runGaugePosition cmd s = answer .refusedRange [] s from
        if_neg fun hf => h ((canForce_iff s n position).1 hf)]
      exact hin.answered_same .refusedRange []
  · refine ⟨_, congrArg Host.Outcome.next (whenDue_force hin ha runGaugeRelease), ?_⟩
    have hrelease := funext (releaseChannel_eq supply)
    intro channels
    have hupdate : updChannel n (releaseChannel supply) s = { s with run.gu.channels := channels } := by
      rw [hrelease]
      rfl
    have hanswered := hin.answered (u := updChannel n (releaseChannel supply) s) rfl hin.mode_ne .ok []
    rw [hupdate] at hanswered
    unfold runGaugeRelease
    rw [show updChannel (forceTarget cmd) (releaseChannel (supplyFault s)) s = { s with run.gu.channels := channels }
      from hupdate]
    exact hanswered

/-! ## The reports of the lamps' load states (R90) -/

theorem WarningsOnly.withLampReports {s t : State} (h : WarningsOnly s t) (v : Bool) (opened shorted : BitVec 32) :
    WarningsOnly { s with run.flags.lampFault := v, run.mc.openLamps := opened, run.mc.shortLamps := shorted }
      { t with run.flags.lampFault := v, run.mc.openLamps := opened, run.mc.shortLamps := shorted } := by
  refine ⟨?_, h.2⟩
  conv_lhs => rw [h.1]

/-- What R90 reports of the lamps as they stand: the two sets, and F5. -/
def lampsReported (s : State) : State :=
  { s with run.flags.lampFault := s.run.tu.lamps.any fun r => decide (r.load ≠ .ok)
           run.mc.openLamps := lampsLoaded s .opened
           run.mc.shortLamps := lampsLoaded s .shorted }

theorem reportLamps_frame (s : State) : WarningsOnly (lampsReported s) (reportLamps s) :=
  (flagChange_frame .lampFault (s.run.tu.lamps.any fun r => decide (r.load ≠ .ok))
    { s with run.mc.openLamps := lampsLoaded s .opened, run.mc.shortLamps := lampsLoaded s .shorted }).trans
      (noticeIfOn_frame .status _)

theorem reportLamps_sameLoads (s : State) : SameLoads s (reportLamps s) := by
  have hflag := SameLoads.flagChange .lampFault (s.run.tu.lamps.any fun r => decide (r.load ≠ .ok))
    { s with run.mc.openLamps := lampsLoaded s .opened, run.mc.shortLamps := lampsLoaded s .shorted }
  exact hflag.trans (.of_lamps (noticeIfOn_still _ _).lamps)

theorem lampsWhere_congr {s t : State} {p q : LampRec → Bool} (h : ∀ n, p (lampRec s n) = q (lampRec t n)) :
    lampsWhere s p = lampsWhere t q := by
  unfold lampsWhere
  simp only [h]

theorem lampsWhere_none {s : State} {p : LampRec → Bool} (h : ∀ n, p (lampRec s n) = false) : lampsWhere s p = 0#32 := by
  unfold lampsWhere
  simp only [h]
  rfl

/-! ## CLEAR STATUS (R178) -/

/-- A lamp whose SHORT latch is taken back. -/
def unshorted (r : LampRec) : LampRec := if r.load = .shorted then { r with load := .ok } else r

theorem unshorted_load (r : LampRec) : (unshorted r).load = if r.load = .shorted then .ok else r.load := by
  unfold unshorted
  split <;> rfl

theorem unshorted_kept (r : LampRec) : (unshorted r).openCount = r.openCount ∧ (unshorted r).forced = r.forced := by
  unfold unshorted
  split <;> exact ⟨rfl, rfl⟩

/-- The lamps with every SHORT latch taken back, and the outputs that follow. -/
def shortsCleared (s : State) : State := driveLamps { s with run.tu.lamps := s.run.tu.lamps.map unshorted }

theorem clearShorts_eq (s : State) : clearShorts s =
    if s.run.tu.lamps.any fun r => decide (r.load = .shorted) then reportLamps (shortsCleared s) else s := rfl

theorem shortsCleared_sameLoads (s : State) :
    SameLoads { s with run.tu.lamps := s.run.tu.lamps.map unshorted } (shortsCleared s) := sameLoads_warn.drive _

theorem shortsCleared_frame (s : State) : WarningsOnly s (shortsCleared s) := ⟨rfl, rfl⟩

theorem shortsCleared_load (s : State) (n : Nat) : (lampRec (shortsCleared s) n).load = (unshorted (lampRec s n)).load := by
  unfold lampRec
  rw [List.getD_eq_getElem?_getD, List.getD_eq_getElem?_getD, shortsCleared, driveLamps]
  dsimp only
  rw [mapFrom_getElem?, List.getElem?_map]
  cases s.run.tu.lamps[n]? with
  | none => rfl
  | some r => rfl

theorem shortsCleared_opened (s : State) : lampsLoaded (shortsCleared s) .opened = lampsLoaded s .opened := by
  refine lampsWhere_congr fun n => ?_
  rw [shortsCleared_load, unshorted_load]
  cases (lampRec s n).load <;> rfl

theorem shortsCleared_shorted (s : State) : lampsLoaded (shortsCleared s) .shorted = 0#32 := by
  refine lampsWhere_none fun n => ?_
  rw [shortsCleared_load, unshorted_load]
  cases (lampRec s n).load <;> rfl

theorem shortsCleared_faulty (s : State) : ((shortsCleared s).run.tu.lamps.any fun r => decide (r.load ≠ .ok)) =
    s.run.tu.lamps.any fun r => decide (r.load = .opened) := by
  rw [(shortsCleared_sameLoads s).any_load fun l => decide (l ≠ .ok)]
  dsimp only
  rw [List.any_map]
  refine congrArg s.run.tu.lamps.any (funext fun r => ?_)
  rw [Function.comp_apply, unshorted_load]
  cases r.load <;> rfl

theorem lampsLoaded_sameLoads {s t : State} (h : SameLoads s t) (l : Load) : lampsLoaded t l = lampsLoaded s l := by
  refine lampsWhere_congr fun n => ?_
  unfold lampRec
  rw [List.getD_eq_getElem?_getD, List.getD_eq_getElem?_getD]
  cases ht : t.run.tu.lamps[n]? with
  | none =>
    rw [List.getElem?_eq_none (by rw [← h.length]; exact List.getElem?_eq_none_iff.1 ht)]
  | some r =>
    obtain ⟨r', hr', hload, -⟩ := h.getElem? ht
    rw [hr', Option.getD_some, Option.getD_some, hload]

/-- The items of CLEAR STATUS that are not lamps, cleared. -/
def statusCleared (s : State) : State :=
  { s with run.flags.relayOverflow := false, run.flags.addressConflict := false
           run.mu.lastLinkError := .none, run.mu.transmitAbandoned := false }

/-- The state on which CLEAR STATUS looks at the lamps. -/
def flagsCleared (s : State) : State :=
  flagChange .addressConflict false (flagChange .relayOverflow false
    { s with run.mu.lastLinkError := .none, run.mu.transmitAbandoned := false })

theorem flagsCleared_frame (s : State) : WarningsOnly (statusCleared s) (flagsCleared s) :=
  (flagChange_frame .relayOverflow false
    { s with run.mu.lastLinkError := .none, run.mu.transmitAbandoned := false }).flagChange .addressConflict false

theorem flagsCleared_sameLoads (s : State) : SameLoads s (flagsCleared s) :=
  (SameLoads.flagChange .relayOverflow false
    { s with run.mu.lastLinkError := .none, run.mu.transmitAbandoned := false }).trans (.flagChange _ _ _)

theorem clearStatus_eq (s : State) : clearStatus s = clearShorts (flagsCleared s) := rfl

theorem SameLoads.cleared {s u : State} (h : SameLoads s u) (hnone : ∀ r ∈ s.run.tu.lamps, r.load ≠ .shorted)
    {n : Nat} {r r' : LampRec} (hr : s.run.tu.lamps[n]? = some r) (hr' : u.run.tu.lamps[n]? = some r') :
    r'.load = (if r.load = .shorted then .ok else r.load) ∧ r'.openCount = r.openCount ∧ r'.forced = r.forced := by
  obtain ⟨a, ha, hload, hcount, hforced, -⟩ := h.getElem? hr'
  obtain rfl : r = a := by rw [hr] at ha; exact Option.some.inj ha
  rw [if_neg (hnone r (List.mem_of_getElem? hr))]
  exact ⟨hload, hcount, hforced⟩

theorem SameLoads.unshorted {s t u : State} (h : SameLoads s t)
    (hu : SameLoads { t with run.tu.lamps := t.run.tu.lamps.map Machine.unshorted } u)
    {n : Nat} {r r' : LampRec} (hr : s.run.tu.lamps[n]? = some r) (hr' : u.run.tu.lamps[n]? = some r') :
    r'.load = (if r.load = .shorted then .ok else r.load) ∧ r'.openCount = r.openCount ∧ r'.forced = r.forced := by
  obtain ⟨a, ha, hload, hcount, hforced, -⟩ := hu.getElem? hr'
  simp only [List.getElem?_map, Option.map_eq_some_iff] at ha
  obtain ⟨b, hb, rfl⟩ := ha
  obtain ⟨c, hc, hbload, hbcount, hbforced, -⟩ := h.getElem? hb
  obtain rfl : r = c := by rw [hr] at hc; exact Option.some.inj hc
  obtain ⟨hkcount, hkforced⟩ := unshorted_kept b
  rw [hload, hcount, hforced, unshorted_load, hkcount, hkforced, hbload, hbcount, hbforced]
  exact ⟨rfl, rfl, rfl⟩

theorem clearStatus_cleared (s : State) : Cleared s (clearStatus s) := by
  have hframe := flagsCleared_frame s
  have hsame := flagsCleared_sameLoads s
  have hany : ((flagsCleared s).run.tu.lamps.any fun r => decide (r.load = .shorted)) =
      s.run.tu.lamps.any fun r => decide (r.load = .shorted) := hsame.any_load fun l => decide (l = .shorted)
  rw [clearStatus_eq, clearShorts_eq, hany]
  by_cases hshort : ∃ r ∈ s.run.tu.lamps, r.load = .shorted
  · rw [if_pos (List.any_eq_true.2 (by simpa using hshort))]
    have hloads := (shortsCleared_sameLoads (flagsCleared s)).trans (reportLamps_sameLoads _)
    refine ⟨?_, ?_, fun n r r' hr hr' => hsame.unshorted hloads hr hr'⟩
    · dsimp only
      rw [if_pos hshort]
      have hreport := reportLamps_frame (shortsCleared (flagsCleared s))
      rw [lampsReported, shortsCleared_faulty, shortsCleared_opened, shortsCleared_shorted, lampsLoaded_sameLoads hsame,
        hsame.any_load fun l => decide (l = .opened)] at hreport
      exact ((hframe.trans (shortsCleared_frame _)).withLampReports _ _ _).trans hreport
    · rw [hloads.length]
      simp [hsame.length]
  · rw [if_neg fun h => hshort (by simpa using List.any_eq_true.1 h)]
    refine ⟨?_, hsame.length, fun n r r' hr hr' => hsame.cleared (fun r hr h => hshort ⟨r, hr, h⟩) hr hr'⟩
    dsimp only
    rw [if_neg hshort]
    exact hframe

theorem Cleared.mu {s u : State} (h : Cleared s u) : u.run.mu.cmd = s.run.mu.cmd ∧ u.mode = s.mode := by
  obtain ⟨hframe, -⟩ := h
  dsimp only at hframe
  split at hframe <;> exact ⟨by rw [hframe.mu], hframe.mode⟩

/-- Settles O23: the two flags and the SHORT latches, one after the other. -/
theorem clearStatusClearsItsItems : Obligations.ClearStatusClearsItsItems := by
  unfold Obligations.ClearStatusClearsItsItems
  intro s cmd hin
  have hcleared := clearStatus_cleared s
  obtain ⟨hcmd, hmode⟩ := hcleared.mu
  exact ⟨clearStatus s, _, congrArg Host.Outcome.next (whenDue_inHand hin (by simp) (by simp) fun _ => runClearStatus),
    hin.answered hcmd (hmode ▸ hin.mode_ne) .ok [], hcleared⟩

end Sys2Proof.Machine
end

section
/-! PROOFS. Acknowledgement of an Alert List entry (R95, R96), and the debounced inputs (R134, R135). -/

namespace Sys2Proof.Machine

/-! ## The Alert List and the evaluations -/

theorem setAlerts_eq (l : List Alert) (s : State) :
    setAlerts l s = { s with run.tu.alerts := l, run.tu.chime := (setAlerts l s).run.tu.chime } := by
  unfold setAlerts withdrawIfNone
  split <;> rfl

theorem setAlerts_condRec (l : List Alert) (s : State) (j : Nat) : condRec (setAlerts l s) j = condRec s j := by
  rw [condRec, setAlerts_cu, ← condRec]

theorem setAlerts_condAt (l : List Alert) (s : State) (j : Nat) : condAt (setAlerts l s) j = condAt s j := by
  rw [setAlerts_eq]
  rfl

theorem setAlerts_sourceTruth (l : List Alert) (s : State) (c : Condition) (m : Bool) :
    sourceTruth (setAlerts l s) c m = sourceTruth s c m := by
  rw [setAlerts_eq]
  rfl

theorem setAlerts_qualifierBlocks (l : List Alert) (s : State) (c : Condition) :
    qualifierBlocks (setAlerts l s) c = qualifierBlocks s c := by
  rw [setAlerts_eq]
  rfl

/-- The Alert List matters to a move only where an ACTIVE condition ends. -/
theorem condMove_setAlerts (l : List Alert) (s : State) (c : Condition) (j : Nat) (truth : Bool) (r : CondRec) :
    condMove (setAlerts l s) c j truth r = condMove s c j truth r ∨
      (r.state = .active ∧ (condMove s c j truth r).state ≠ .active) := by
  unfold condMove
  cases hr : r.state with
  | active =>
    dsimp only
    split
    · exact .inl rfl
    · split
      · refine .inr ⟨rfl, ?_⟩
        dsimp only [latchChoice]
        split <;> simp
      · exact .inl rfl
  | inactive => exact .inl rfl
  | pendingOn => exact .inl rfl
  | pendingOff => exact .inl rfl
  | latched => exact .inl rfl
  | suspended => exact .inl rfl

/-- The Alert List matters to an evaluation only where an ACTIVE condition ends. -/
theorem evalRec_setAlerts (l : List Alert) (s : State) (c : Condition) (j : Nat) (r : CondRec) :
    evalRec (setAlerts l s) c j r = evalRec s c j r ∨ (r.state = .active ∧ (evalRec s c j r).state ≠ .active) := by
  have hmove (truth m : Bool) (hm : CondRec) (hstate : hm = if r.state = .suspended then
      ({ state := .inactive, remembered := m, timer := none } : CondRec) else { r with remembered := m }) :
      condMove (setAlerts l s) c j truth hm = condMove s c j truth hm ∨
        (r.state = .active ∧ (condMove s c j truth hm).state ≠ .active) := by
    refine (condMove_setAlerts l s c j truth hm).imp_right fun ⟨hactive, hends⟩ => ⟨?_, hends⟩
    rw [hstate] at hactive
    split at hactive
    · cases hactive
    · exact hactive
  unfold evalRec
  simp only [setAlerts_sourceTruth, setAlerts_qualifierBlocks]
  split
  · exact .inl rfl
  · split
    · exact hmove _ _ _ rfl
    · split
      · exact .inl rfl
      · exact hmove _ _ _ rfl
      · exact hmove _ _ _ rfl

/-! ## Acknowledgement (R96) -/

theorem cascade_nil (fuel : Nat) (s : State) : cascade fuel [] s = s := by cases fuel <;> rfl

theorem runTasks_nil (s : State) : runTasks [] s = s := cascade_nil _ s

/-- A task that causes none is the whole event. -/
theorem runTasks_single {t : Task} {s : State} (h : (takeTask t s).2 = []) : runTasks [t] s = (takeTask t s).1 := by
  have hcascade : runTasks [t] s = cascade (Config.cascadeBound - 1) ((takeTask t s).2 ++ []) (takeTask t s).1 := rfl
  rw [hcascade, h, List.nil_append, cascade_nil]

/-- A task that causes one more, which causes none. -/
theorem runTasks_pair {t u : Task} {s : State} (h : (takeTask t s).2 = [u]) (h' : (takeTask u (takeTask t s).1).2 = []) :
    runTasks [t] s = (takeTask u (takeTask t s).1).1 := by
  have hcascade : runTasks [t] s = cascade (Config.cascadeBound - 1) ((takeTask t s).2 ++ []) (takeTask t s).1 := rfl
  have hnext : cascade (Config.cascadeBound - 1) [u] (takeTask t s).1 =
      cascade (Config.cascadeBound - 2) ((takeTask u (takeTask t s).1).2 ++ []) (takeTask u (takeTask t s).1).1 := rfl
  rw [hcascade, h, List.append_nil, hnext, h', List.nil_append, cascade_nil]

theorem evaluateFrom_eq {s : State} {j : Nat} {c : Condition} (hc : condAt s j = some c) (he : s.run.cu.evaluating = true)
    (base : CondRec → CondRec) : evaluateFrom s j base =
      (putCondRec s j (evalRec s c j (base (condRec s j))),
        if (condRec s j).state = (evalRec s c j (base (condRec s j))).state then []
        else [.changed j (condRec s j).state (evalRec s c j (base (condRec s j))).state]) := by
  unfold evaluateFrom
  rw [hc]
  exact if_pos he

theorem evaluateFrom_idle {s : State} {j : Nat} (h : condAt s j = none ∨ s.run.cu.evaluating = false) (base : CondRec → CondRec) :
    evaluateFrom s j base = (s, []) := by
  unfold evaluateFrom
  split
  · rfl
  · next hc =>
    rcases h with h | h
    · rw [hc] at h
      cases h
    · rw [h]
      rfl

/-- The Alert List after the release and R96's step 3. -/
def settledAlerts (j : Nat) (s : State) : List Alert := dropSettled j (runTasks [.release j] (setAlerts (markAcked j s.run.tu.alerts) s))

theorem acknowledge_alerts (j : Nat) (s : State) : (acknowledge (some j) s).run.tu.alerts = settledAlerts j s := by
  unfold acknowledge
  simp only [telltaleIfChanged_alerts, driveLamps_alerts, refreshBlink_alerts, setAlerts_alerts]
  rfl

theorem acknowledge_cu (j : Nat) (s : State) :
    (acknowledge (some j) s).run.cu = (runTasks [.release j] (setAlerts (markAcked j s.run.tu.alerts) s)).run.cu := by
  have hlamps (t : State) : (driveLamps (refreshBlink t)).run.cu = t.run.cu := rfl
  unfold acknowledge
  dsimp only
  rw [telltaleIfChanged_cu, hlamps, setAlerts_cu]

theorem markAcked_filter (j : Nat) (l : List Alert) :
    ((markAcked j l).filter fun a => decide (a.cond ≠ j) || !a.acked) = (markAcked j l).filter fun a => decide (a.cond ≠ j) := by
  refine List.filter_congr fun a ha => ?_
  obtain ⟨b, -, rfl⟩ := List.mem_map.1 ha
  split
  · next h => simp [h]
  · next h => simp [h]

theorem alertLeave_markAcked (j : Nat) (l : List Alert) :
    alertLeave j (markAcked j l) = (markAcked j l).filter fun a => decide (a.cond ≠ j) := by
  unfold alertLeave
  rw [← List.filterMap_eq_filter]
  refine List.filterMap_congr fun a ha => ?_
  obtain ⟨b, -, rfl⟩ := List.mem_map.1 ha
  by_cases hb : b.cond = j
  · simp [hb, Option.guard]
  · simp [hb, Option.guard]

theorem evalRec_release {s : State} {c : Condition} {j : Nat} {r : CondRec} (l : List Alert) (hr : r.state ≠ .latched)
    (heval : evalRec s c j r = r) : evalRec (setAlerts l s) c j (unlatch r) = r := by
  have hunlatch : unlatch r = r := if_neg hr
  rw [hunlatch]
  rcases evalRec_setAlerts l s c j r with h | ⟨hactive, hends⟩
  · exact h.trans heval
  · rw [heval] at hends
    exact absurd hactive hends

theorem putCondRec_self (s : State) (j : Nat) : putCondRec s j (condRec s j) = s := by
  have hrecs : updAt s.run.cu.recs j (fun _ => condRec s j) = s.run.cu.recs := by
    refine List.ext_getElem? fun n => ?_
    rw [updAt_getElem?]
    split
    · next h =>
      subst h
      rw [condRec, List.getD_eq_getElem?_getD]
      cases s.run.cu.recs[n]? <;> rfl
    · rfl
  unfold putCondRec
  rw [hrecs]

/-- The release of a condition that is not LATCHED and does not move changes nothing. -/
theorem release_still {s : State} {j : Nat} {l : List Alert}
    (h : ∀ c, condAt s j = some c → (condRec s j).state ≠ .latched ∧ evalRec s c j (condRec s j) = condRec s j) :
    runTasks [.release j] (setAlerts l s) = setAlerts l s := by
  have htaken : takeTask (.release j) (setAlerts l s) = (setAlerts l s, []) := by
    unfold takeTask
    dsimp only
    cases hc : condAt s j with
    | none => exact evaluateFrom_idle (.inl ((setAlerts_condAt l s j).trans hc)) _
    | some c =>
      cases he : s.run.cu.evaluating with
      | false => exact evaluateFrom_idle (.inr (by rw [setAlerts_cu]; exact he)) _
      | true =>
        obtain ⟨hr, heval⟩ := h c hc
        rw [evaluateFrom_eq ((setAlerts_condAt l s j).trans hc) (by rw [setAlerts_cu]; exact he), setAlerts_condRec,
          evalRec_release l hr heval, if_pos rfl]
        have hself := putCondRec_self (setAlerts l s) j
        rw [setAlerts_condRec] at hself
        rw [hself]
  rw [runTasks_single (by rw [htaken]), htaken]

theorem settledAlerts_still {s : State} {j : Nat}
    (h : ∀ c, condAt s j = some c → (condRec s j).state ≠ .latched ∧ evalRec s c j (condRec s j) = condRec s j) :
    settledAlerts j s = if (condRec s j).state = .active ∨ (condRec s j).state = .pendingOff then markAcked j s.run.tu.alerts
      else (markAcked j s.run.tu.alerts).filter fun a => decide (a.cond ≠ j) := by
  unfold settledAlerts
  rw [release_still h]
  unfold dropSettled
  rw [setAlerts_condRec, setAlerts_alerts, markAcked_filter]

theorem condRec_latched_lt {s : State} {j : Nat} (h : (condRec s j).state = .latched) : j < s.run.cu.recs.length := by
  by_contra hj
  rw [condRec, List.getD_eq_getElem?_getD, List.getElem?_eq_none (not_lt.1 hj)] at h
  cases h

theorem watchers_none {s : State} {p : Condition → Bool} (h : ∀ k c, condAt s k = some c → p c = false) : watchers s p = [] := by
  refine List.filterMap_eq_nil_iff.2 fun k _ => ?_
  split
  · next c hc => rw [if_neg (by rw [h k c hc]; simp)]
  · rfl

/-- The change of a LATCHED condition to INACTIVE that evicts nothing and that no condition waits for. -/
theorem takeTask_unlatched {s : State} {j : Nat} {c : Condition} (hc : condAt s j = some c)
    (hqual : ∀ k c', condAt s k = some c' → c'.qualifier ≠ some j) :
    takeTask (.changed j .latched .inactive) s = ((telltaleChange j .latched .inactive s).1, []) := by
  obtain ⟨-, hevicted⟩ := telltaleChange_alerts hc .latched .inactive
  have hnone : (telltaleChange j .latched .inactive s).2 = none := hevicted
  have hconds (k : Nat) : condAt (telltaleChange j .latched .inactive s).1 k = condAt s k := by
    rw [condAt, (telltaleChange_frame ..).tables, ← condAt]
  have hwatch : watchers (telltaleChange j .latched .inactive s).1 (fun c => decide (c.qualifier = some j)) = [] :=
    watchers_none fun k c' hc' => decide_eq_false (hqual k c' ((hconds k).symm.trans hc'))
  unfold takeTask releaseEvicted
  dsimp only
  rw [hnone]
  dsimp only
  rw [hwatch]
  rfl

/-- R71: a LATCHED condition that nothing holds is released to INACTIVE, and its entry goes. -/
theorem settled_latched {s : State} {j : Nat} {c : Condition} (hc : condAt s j = some c) (hl : (condRec s j).state = .latched)
    (he : s.run.cu.evaluating = true) (hends : (evalRec s c j { condRec s j with state := .inactive }).state = .inactive)
    (hqual : ∀ k c', condAt s k = some c' → c'.qualifier ≠ some j) :
    (condRec (acknowledge (some j) s) j).state = .inactive ∧
      (acknowledge (some j) s).run.tu.alerts = (markAcked j s.run.tu.alerts).filter fun a => decide (a.cond ≠ j) := by
  generalize hu : setAlerts (markAcked j s.run.tu.alerts) s = u
  have hcu : u.run.cu = s.run.cu := by rw [← hu, setAlerts_cu]
  have hcond (k : Nat) : condAt u k = condAt s k := by rw [← hu, setAlerts_condAt]
  have hrec : condRec u j = condRec s j := by rw [← hu, setAlerts_condRec]
  have hunlatched : unlatch (condRec u j) = { condRec s j with state := .inactive } := by
    rw [hrec]
    exact if_pos hl
  have heval : (evalRec u c j (unlatch (condRec u j))).state = .inactive := by
    rw [hunlatched, ← hu]
    rcases evalRec_setAlerts (markAcked j s.run.tu.alerts) s c j { condRec s j with state := .inactive } with h | ⟨h, -⟩
    · rw [h]
      exact hends
    · cases h
  generalize hr : evalRec u c j (unlatch (condRec u j)) = r at heval
  have hfirst : takeTask (.release j) u = (putCondRec u j r, [.changed j .latched .inactive]) := by
    have hstep := evaluateFrom_eq ((hcond j).trans hc) (by rw [hcu]; exact he) unlatch
    rw [hr, heval, if_neg (by rw [hrec, hl]; simp), hrec, hl] at hstep
    exact hstep
  have hcput (k : Nat) : condAt (putCondRec u j r) k = condAt s k := hcond k
  have hsecond := takeTask_unlatched (s := putCondRec u j r) ((hcput j).trans hc)
    fun k c' hc' => hqual k c' ((hcput k).symm.trans hc')
  have hrun : runTasks [.release j] u = (telltaleChange j .latched .inactive (putCondRec u j r)).1 := by
    rw [runTasks_pair (u := .changed j .latched .inactive) (by rw [hfirst]) (by rw [hfirst, hsecond]), hfirst, hsecond]
  have hstate : (condRec (runTasks [.release j] u) j).state = .inactive := by
    rw [hrun, condRec, telltaleChange_cu, ← condRec, condRec_put,
      if_pos ⟨rfl, by rw [hcu]; exact condRec_latched_lt hl⟩]
    exact heval
  refine ⟨?_, ?_⟩
  · rw [condRec, acknowledge_cu, hu, ← condRec]
    exact hstate
  · rw [acknowledge_alerts, settledAlerts, hu, dropSettled, hstate, if_neg (by simp), hrun]
    obtain ⟨halerts, -⟩ := telltaleChange_alerts ((hcput j).trans hc) .latched .inactive
    have hleave : (alertChange (putCondRec u j r) c j .latched .inactive).1 = alertLeave j u.run.tu.alerts := rfl
    rw [halerts, hleave, ← hu, setAlerts_alerts, alertLeave_markAcked, List.filter_filter]
    refine List.filter_congr fun a _ => ?_
    cases decide (a.cond ≠ j) <;> simp

theorem acknowledge_acknowledged (j : Nat) (s : State) : Acknowledged s j (acknowledge (some j) s) := by
  refine ⟨acknowledge_frame _ _, fun h => ?_, fun c hc hl he hends hqual => settled_latched hc hl he hends hqual⟩
  rw [acknowledge_alerts, settledAlerts_still h]
  rfl

/-! ## The newest unacknowledged entry (R95) -/

theorem lastWhere_none {α : Type} {p : α → Bool} {l : List α} (h : ∀ b ∈ l, p b = false) (i : Nat) : lastWhere p l i = none := by
  induction l generalizing i with
  | nil => rfl
  | cons x xs ih =>
    rw [lastWhere, ih (fun b hb => h b (List.mem_cons_of_mem _ hb)), h x List.mem_cons_self]
    rfl

theorem lastWhere_append {α : Type} {p : α → Bool} {older newer : List α} {a : α} (ha : p a = true)
    (hnewer : ∀ b ∈ newer, p b = false) (i : Nat) : lastWhere p (older ++ a :: newer) i = some (i + older.length, a) := by
  induction older generalizing i with
  | nil =>
    rw [List.nil_append, lastWhere, lastWhere_none hnewer, ha]
    rfl
  | cons x xs ih =>
    rw [List.cons_append, lastWhere, ih, List.length_cons]
    simp only [Option.some.injEq, Prod.mk.injEq, and_true]
    omega

theorem ackNewest_some {s : State} {older newer : List Alert} {a : Alert} (hl : s.run.tu.alerts = older ++ a :: newer)
    (ha : a.acked = false) (hnewer : ∀ b ∈ newer, b.acked = true) : ackNewest s = some a.cond := by
  unfold ackNewest newestUnacked
  rw [hl, lastWhere_append (by simp [ha]) fun b hb => by simp [hnewer b hb]]
  rfl

theorem ackNewest_none {s : State} (h : ∀ a ∈ s.run.tu.alerts, a.acked = true) : ackNewest s = none := by
  unfold ackNewest newestUnacked
  rw [lastWhere_none fun b hb => by simp [h b hb]]
  rfl

end Sys2Proof.Machine
end

section
/-! PROOFS. The debounced inputs and the forced exit from SERVICE (R132, R134, R135, R167). -/

namespace Sys2Proof.Machine

/-! ## What a placed REPLY leaves -/

/-- What the warnings path and a placed REPLY leave as it was. -/
structure Held (s t : State) : Prop where
  mode : t.mode = s.mode
  service : t.run.flags.service = s.run.flags.service
  mc : t.run.mc = s.run.mc
  gu : t.run.gu = s.run.gu
  tables : t.run.tables = s.run.tables
  signals : t.run.signals = s.run.signals
  dtu : t.dtu = s.dtu
  store : t.store = s.store
  iu : t.run.iu = s.run.iu
  loads : SameLoads s t

theorem Held.refl (s : State) : Held s s := ⟨rfl, rfl, rfl, rfl, rfl, rfl, rfl, rfl, rfl, .of_lamps rfl⟩

theorem Held.trans {s t u : State} (h : Held s t) (h' : Held t u) : Held s u where
  mode := h'.mode.trans h.mode
  service := h'.service.trans h.service
  mc := h'.mc.trans h.mc
  gu := h'.gu.trans h.gu
  tables := h'.tables.trans h.tables
  signals := h'.signals.trans h.signals
  dtu := h'.dtu.trans h.dtu
  store := h'.store.trans h.store
  iu := h'.iu.trans h.iu
  loads := h.loads.trans h'.loads

theorem WarningsOnly.held {s t : State} (h : WarningsOnly s t) (hloads : SameLoads s t) : Held s t where
  mode := h.mode
  service := by rw [h.flags]
  mc := h.mc
  gu := h.gu
  tables := h.tables
  signals := h.signals
  dtu := h.dtu
  store := h.store
  iu := h.iu
  loads := hloads

theorem noticeIfOn_held (k : NoticeType) (s : State) : Held s (noticeIfOn k s) :=
  (noticeIfOn_frame k s).held (.of_lamps (noticeIfOn_still k s).lamps)

theorem replyLeft_held (o : Origin) (s : State) : Held s (replyLeft o s) := by
  rw [replyLeft_mu]
  exact ⟨rfl, rfl, rfl, rfl, rfl, rfl, rfl, rfl, rfl, .of_lamps rfl⟩

theorem flagChange_held {f : FlagId} (hf : f ≠ .service ∧ f ≠ .driverUnsynced) (v : Bool) (s : State) : Held s (flagChange f v s) := by
  have hput : Held s (putFlag s f v) := by
    cases f with
    | service => exact absurd rfl hf.1
    | driverUnsynced => exact absurd rfl hf.2
    | _ => exact ⟨rfl, rfl, rfl, rfl, rfl, rfl, rfl, rfl, rfl, .of_lamps rfl⟩
  have hframe := flagChange_frame f v s
  exact { mode := hframe.mode.trans hput.mode, service := (by rw [hframe.flags]; exact hput.service)
          mc := hframe.mc.trans hput.mc, gu := hframe.gu.trans hput.gu, tables := hframe.tables.trans hput.tables
          signals := hframe.signals.trans hput.signals, dtu := hframe.dtu.trans hput.dtu
          store := hframe.store.trans hput.store, iu := hframe.iu.trans hput.iu, loads := .flagChange f v s }

theorem placeVtq_held (e : QEntry) (replaces : Bool) (s : State) : Held s (placeVtq e replaces s) := by
  rcases placeVtq_cases e replaces s with h | ⟨q, h⟩ | h
  · rw [h]
    exact replyLeft_held _ s
  · rw [h]
    exact ⟨rfl, rfl, rfl, rfl, rfl, rfl, rfl, rfl, rfl, .of_lamps rfl⟩
  · rw [h]
    exact (flagChange_held (by decide) true s).trans (replyLeft_held _ _)

theorem sendResult_held (frames : Command → NoticeFrames) (s : State) : Held s (sendResult frames s) := by
  unfold sendResult
  split
  · exact .refl s
  · dsimp only
    split
    · exact .trans (t := { s with run.mu.phase := .replyQueued })
        ⟨rfl, rfl, rfl, rfl, rfl, rfl, rfl, rfl, rfl, .of_lamps rfl⟩ (placeVtq_held _ _ _)
    · exact ⟨rfl, rfl, rfl, rfl, rfl, rfl, rfl, rfl, rfl, .of_lamps rfl⟩

/-! ## The forced exit (R167) -/

/-- The forced exit up to the end of the forcings. -/
def exitReleased (s : State) : State := releaseForcings (flagChange .service false { s with mode := .run })

theorem releaseForcings_forced (s : State) : ∀ r ∈ (releaseForcings s).run.tu.lamps, r.forced = none := by
  intro r hr
  obtain ⟨n, hn⟩ := List.mem_iff_getElem?.1 hr
  obtain ⟨r', hr', -, -, hforced, -⟩ := (sameLoads_warn.drive { releaseGauges s with
    run.tu.lamps := (releaseGauges s).run.tu.lamps.map fun r => { r with forced := none } }).getElem? hn
  obtain ⟨a, -, rfl⟩ := List.mem_map.1 (List.mem_of_getElem? hr')
  exact hforced

theorem releaseChannel_not_forced (supply : Bool) (c : Channel) : (releaseChannel supply c).state ≠ .forced := by
  rw [releaseChannel_eq]
  split
  · simp
  · next hc =>
    split
    · simp
    · assumption

theorem releaseForcings_channels (s : State) : ∀ c ∈ (releaseForcings s).run.gu.channels, c.state ≠ .forced := by
  have hchannels : (releaseForcings s).run.gu.channels = s.run.gu.channels.map (releaseChannel (supplyFault s)) :=
    mapFrom_const _ _ _
  rw [hchannels]
  intro c hc
  obtain ⟨a, -, rfl⟩ := List.mem_map.1 hc
  exact releaseChannel_not_forced _ a

theorem requestRepeat_held (s : State) : Held s (requestRepeat s) := by
  have hrequest : Held s (chimeRequest .rep s) := by
    obtain ⟨c, -, h⟩ := chimeRequest_step .rep s
    rw [h]
    exact ⟨rfl, rfl, rfl, rfl, rfl, rfl, rfl, rfl, rfl, .of_lamps rfl⟩
  unfold requestRepeat
  split
  · exact hrequest
  · exact .refl s

theorem abandonLeaveService_held (s : State) : Held { s with run.mc.validation := none } (abandonLeaveService s) := by
  unfold abandonLeaveService
  dsimp only
  split
  · split
    · exact sendResult_held _ _
    · exact .refl _
  · next hnone =>
    rw [Option.not_isSome_iff_eq_none] at hnone
    rw [← hnone]
    exact .refl s

theorem forcedExit_held {s : State} (h : s.mode = .service) :
    Held { exitReleased s with run.mc.validation := none } (forcedExit s) := by
  unfold forcedExit
  rw [if_pos h]
  have hrepeat := requestRepeat_held (exitReleased s)
  have hended : Held { exitReleased s with run.mc.validation := none }
      { requestRepeat (exitReleased s) with run.mc.validation := none } :=
    { hrepeat with mc := congrArg (fun m : Mc => { m with validation := none }) hrepeat.mc }
  exact (hended.trans (abandonLeaveService_held _)).trans (noticeIfOn_held _ _)

theorem exitReleased_frame (s : State) :
    { exitReleased s with run.gu := s.run.gu, run.tu := s.run.tu, run.cu := s.run.cu, run.queues := s.run.queues } =
      { s with mode := .run, run.flags.service := false } := by
  have hframe := flagChange_frame .service false { s with mode := .run }
  unfold exitReleased
  generalize flagChange .service false { s with mode := .run } = u at hframe
  rw [hframe.1]
  rfl

/-- R167: what holds after the forced exit. -/
theorem forcedExit_ends {s : State} (h : s.mode = .service) :
    (forcedExit s).mode = .run ∧ (forcedExit s).run.flags.service = false ∧ (forcedExit s).run.mc.validation = none ∧
      (∀ r ∈ (forcedExit s).run.tu.lamps, r.forced = none) ∧ (∀ c ∈ (forcedExit s).run.gu.channels, c.state ≠ .forced) ∧
      (forcedExit s).run.tables = s.run.tables ∧ (forcedExit s).run.signals = s.run.signals ∧ (forcedExit s).dtu = s.dtu ∧
      (forcedExit s).store = s.store ∧ (forcedExit s).run.iu = s.run.iu := by
  have hheld := forcedExit_held h
  have hframe := exitReleased_frame s
  refine ⟨forcedExit_mode h, ?_, by rw [hheld.mc], fun r hr => ?_, ?_, ?_, ?_, ?_, ?_, ?_⟩
  · rw [hheld.service]
    exact congrArg (·.run.flags.service) hframe
  · obtain ⟨n, hn⟩ := List.mem_iff_getElem?.1 hr
    obtain ⟨r', hr', -, -, hforced, -⟩ := hheld.loads.getElem? hn
    exact hforced.trans (releaseForcings_forced _ r' (List.mem_of_getElem? hr'))
  · rw [hheld.gu]
    exact releaseForcings_channels _
  · rw [hheld.tables]
    exact congrArg (·.run.tables) hframe
  · rw [hheld.signals]
    exact congrArg (·.run.signals) hframe
  · rw [hheld.dtu]
    exact congrArg (·.dtu) hframe
  · rw [hheld.store]
    exact congrArg (·.store) hframe
  · rw [hheld.iu]
    exact congrArg (·.run.iu) hframe

theorem forcedExit_stands {s : State} (h : s.mode = .service) : NoticeStands .status (forcedExit s) := by
  have hmode := forcedExit_mode h
  unfold forcedExit at hmode ⊢
  rw [if_pos h] at hmode ⊢
  rw [(noticeIfOn_frame _ _).mode] at hmode
  exact noticeIfOn_stands (by rw [noticing, hmode]; rfl)

/-! ## Samples of an input (R132, R134) -/

/-- An input with a new debounce record. -/
def putInput (n : Nat) (d : Debounce) (s : State) : State :=
  { s with run.iu.inputs := updAt s.run.iu.inputs n fun _ => d }

theorem updAt_updAt {α : Type} (l : List α) (n : Nat) (a b : α) :
    updAt (updAt l n fun _ => a) n (fun _ => b) = updAt l n fun _ => b := by
  refine List.ext_getElem? fun k => ?_
  simp only [updAt_getElem?]
  split
  · cases l[k]? <;> rfl
  · rfl

theorem putInput_putInput (n : Nat) (d e : Debounce) (s : State) : putInput n e (putInput n d s) = putInput n e s := by
  unfold putInput
  dsimp only
  rw [updAt_updAt]

theorem putInput_self (n : Nat) (s : State) : putInput n (debounceAt s n) s = s := by
  have hinputs : updAt s.run.iu.inputs n (fun _ => debounceAt s n) = s.run.iu.inputs := by
    refine List.ext_getElem? fun k => ?_
    rw [updAt_getElem?]
    split
    · next h =>
      subst h
      rw [debounceAt, List.getD_eq_getElem?_getD]
      cases s.run.iu.inputs[k]? <;> rfl
    · rfl
  unfold putInput
  rw [hinputs]

theorem debounceAt_putInput {s : State} {n : Nat} (h : n < s.run.iu.inputs.length) (d : Debounce) :
    debounceAt (putInput n d s) n = d := (debounceAt_put s n n d).trans (if_pos ⟨rfl, h⟩)

theorem inputSample_eq {s : State} {n : Nat} {low long : Bool} {role : Role} (hs : s.run.iu.sampling = true)
    (hc : inputAt s n = some (.switch low long role)) (level : Bool) :
    inputSample n s level =
      if (debounceSample (debounceNumber long) (debounceAt s n) (level != low)).2 then
        inputEdge n role (debounceSample (debounceNumber long) (debounceAt s n) (level != low)).1.active
          (putInput n (debounceSample (debounceNumber long) (debounceAt s n) (level != low)).1 s)
      else putInput n (debounceSample (debounceNumber long) (debounceAt s n) (level != low)).1 s := by
  unfold inputSample
  rw [if_pos hs, hc]
  rfl

theorem debounceSample_agreeing (number : Nat) (d : Debounce) :
    debounceSample number d d.active = ({ d with count := 0 }, false) := if_pos rfl

theorem debounceSample_contrary {number : Nat} {d : Debounce} (h : d.count + 1 < number) :
    debounceSample number d (!d.active) = ({ d with count := d.count + 1 }, false) := by
  unfold debounceSample
  rw [if_neg (by simp), if_neg (by omega)]

theorem debounceSample_completing {number : Nat} {d : Debounce} (h : number ≤ d.count + 1) :
    debounceSample number d (!d.active) = ({ active := !d.active, count := 0 }, true) := by
  unfold debounceSample
  rw [if_neg (by simp), if_pos h]

section Samples

variable {s : State} {n : Nat} {low long : Bool} {role : Role} (hs : s.run.iu.sampling = true)
  (hc : inputAt s n = some (.switch low long role)) (hn : n < s.run.iu.inputs.length)
include hs hc

theorem inputSamples_agreeing : inputSamples n [(debounceAt s n).active != low] s =
    putInput n { debounceAt s n with count := 0 } s := by
  have hlevel : (((debounceAt s n).active != low) != low) = (debounceAt s n).active := by
    cases (debounceAt s n).active <;> cases low <;> rfl
  rw [inputSamples, List.foldl_cons, List.foldl_nil, inputSample_eq hs hc, hlevel, debounceSample_agreeing]
  rfl

include hn

theorem inputSamples_contrary {k : Nat} (hk : (debounceAt s n).count + k < debounceNumber long) :
    inputSamples n (List.replicate k ((debounceAt s n).active == low)) s =
      putInput n { debounceAt s n with count := (debounceAt s n).count + k } s := by
  induction k with
  | zero => exact (putInput_self n s).symm
  | succ k ih =>
    have hlevel : ((((debounceAt s n).active == low)) != low) = !(debounceAt s n).active := by
      cases (debounceAt s n).active <;> cases low <;> rfl
    have hbefore := ih (by omega)
    unfold inputSamples at hbefore ⊢
    rw [List.replicate_succ', List.foldl_append, hbefore, List.foldl_cons, List.foldl_nil,
      inputSample_eq (s := putInput n _ s) hs hc, debounceAt_putInput hn, hlevel]
    have hsample := debounceSample_contrary (number := debounceNumber long)
      (d := { debounceAt s n with count := (debounceAt s n).count + k }) (by dsimp only; omega)
    dsimp only at hsample
    rw [hsample]
    exact putInput_putInput ..

/-- The sample that completes the debounce number raises the edge. -/
theorem inputSamples_completing (hcount : (debounceAt s n).count < debounceNumber long) :
    inputSamples n (List.replicate (debounceNumber long - (debounceAt s n).count) ((debounceAt s n).active == low)) s =
      inputEdge n role (!(debounceAt s n).active) (putInput n { active := !(debounceAt s n).active, count := 0 } s) := by
  have hlevel : ((((debounceAt s n).active == low)) != low) = !(debounceAt s n).active := by
    cases (debounceAt s n).active <;> cases low <;> rfl
  obtain ⟨k, hk⟩ : ∃ k, debounceNumber long - (debounceAt s n).count = k + 1 :=
    ⟨debounceNumber long - (debounceAt s n).count - 1, by omega⟩
  have hbefore := inputSamples_contrary hs hc hn (k := k) (by omega)
  rw [hk]
  unfold inputSamples at hbefore ⊢
  rw [List.replicate_succ', List.foldl_append, hbefore, List.foldl_cons, List.foldl_nil,
    inputSample_eq (s := putInput n _ s) hs hc, debounceAt_putInput hn, hlevel]
  have hsample := debounceSample_completing (number := debounceNumber long)
    (d := { debounceAt s n with count := (debounceAt s n).count + k }) (by dsimp only; omega)
  dsimp only at hsample
  rw [hsample]
  dsimp only
  rw [if_pos rfl, putInput_putInput]

end Samples

/-! ## The edge (R135) -/

theorem inputEdge_frame {n : Nat} {role : Role} {active : Bool} {s : State}
    (h : role ≠ .parkBrake ∨ active = true ∨ s.mode ≠ .service) : WarningsOnly s (inputEdge n role active s) := by
  have hconds := conditionsOnInput_frame n s
  unfold inputEdge
  dsimp only
  cases role with
  | general => exact hconds
  | ackButton =>
    dsimp only
    split
    · exact hconds.trans (acknowledge_frame _ _)
    · exact hconds
  | parkBrake =>
    dsimp only
    split
    · exact hconds
    · next hactive =>
      rw [forcedExit_of_ne]
      · exact hconds
      · rw [hconds.mode]
        rcases h with h | h | h
        · exact absurd rfl h
        · exact absurd h hactive
        · exact h

/-- A press that no condition watches. -/
theorem inputEdge_press {n : Nat} {s : State} (h : ∀ k c, condAt s k = some c → c.source ≠ .input n) :
    inputEdge n .ackButton true s = acknowledge (ackNewest s) s := by
  have hconds : conditionsOnInput n s = s := by
    unfold conditionsOnInput
    rw [watchers_none fun k c hc => decide_eq_false (h k c hc), runTasks_nil]
  unfold inputEdge
  dsimp only
  rw [hconds, if_pos rfl]

theorem exec_debouncedEdge {s : State} (hdue : due s = false) {n : Fin 16} (hn : n.val ≠ 0) {samples : List Bool}
    (hlen : samples.length ≤ 80) : exec (.debouncedEdge n samples) s = .next (inputSamples n.val samples s) := by
  have hwf : Instr.wellFormed (.debouncedEdge n samples) = true := by
    have hmax : samples.length ≤ maxSamples := hlen.trans (by decide)
    simp [Instr.wellFormed, hn, hmax]
  calc exec (.debouncedEdge n samples) s = execDebouncedEdge n samples s := rfl
    _ = .next (inputSamples n.val samples s) := by
      rw [execDebouncedEdge, answerIf, if_pos hwf, after_of_not_due _ hdue]

/-- Settles O33: the samples by induction on their number, then the edge by the input's role. -/
theorem inputEdgesAreDebounced : Obligations.InputEdgesAreDebounced := by
  unfold Obligations.InputEdgesAreDebounced
  intro s n low long role hdue hn hs hc hlt number d samples put hcount
  have hnumber : number = debounceNumber long := rfl
  have hnumberLe : number ≤ 80 := by
    rw [hnumber, debounceNumber]
    split <;> omega
  have hlen (k : Nat) (hk : k ≤ 80) : (samples k).length ≤ 80 := by
    rw [List.length_replicate]
    exact hk
  refine ⟨fun k hk => ?_, ?_, ?_⟩
  · rw [exec_debouncedEdge hdue hn (hlen k (by omega))]
    exact congrArg Host.Outcome.next (inputSamples_contrary hs hc hlt hk)
  · rw [exec_debouncedEdge hdue hn (by simp)]
    exact congrArg Host.Outcome.next (inputSamples_agreeing hs hc)
  · refine ⟨_, exec_debouncedEdge hdue hn (hlen _ (by omega)), ?_⟩
    rw [show inputSamples n.val (samples (number - d.count)) s = inputEdge n role (!d.active) (putInput n { active := !d.active, count := 0 } s)
      from inputSamples_completing hs hc hlt hcount]
    refine ⟨fun h => inputEdge_frame (h.imp_right fun h => h.imp_left fun h => by rw [h]; rfl), ?_, ?_⟩
    · rintro rfl hactive hwatch before
      rw [hactive]
      have hpress := inputEdge_press (n := n) (s := before) hwatch
      rw [show inputEdge n .ackButton (!false) (putInput n { active := !false, count := 0 } s) = acknowledge (ackNewest before) before
        from hpress]
      refine ⟨fun older a newer hl ha hnewer => ?_, fun hall => ?_⟩
      · rw [ackNewest_some (s := before) hl ha hnewer]
        exact acknowledge_acknowledged _ _
      · rw [ackNewest_none (s := before) hall]
        rfl
    · rintro rfl hactive hmode
      rw [hactive]
      have hframe := conditionsOnInput_frame n (putInput n { active := !true, count := 0 } s)
      have hservice : (conditionsOnInput n (putInput n { active := !true, count := 0 } s)).mode = .service :=
        hframe.mode.trans hmode
      have hedge : inputEdge n .parkBrake (!true) (putInput n { active := !true, count := 0 } s) =
          forcedExit (conditionsOnInput n (putInput n { active := !true, count := 0 } s)) := rfl
      rw [hedge]
      obtain ⟨hrun, hflag, hvalidation, hlamps, hchannels, htables, hsignals, hdtu, hstore, hiu⟩ := forcedExit_ends hservice
      refine ⟨hrun, hflag, hvalidation, hlamps, hchannels, htables.trans hframe.tables, hsignals.trans hframe.signals,
        hdtu.trans hframe.dtu, hstore.trans hframe.store, ?_, forcedExit_stands hservice⟩
      rw [debounceAt, hiu, hframe.iu, ← debounceAt]
      exact debounceAt_putInput hlt _

end Sys2Proof.Machine
end

section
/-! PROOFS. The supply monitor (R136 to R138). -/

namespace Sys2Proof.Machine

/-! ## A measurement -/

theorem WarningsOnly.withIu {s t : State} (h : WarningsOnly s t) (u : Iu) :
    WarningsOnly { s with run.iu := u } { t with run.iu := u } := by
  refine ⟨?_, h.2⟩
  conv_lhs => rw [h.1]

theorem supplyEntry_eq (centivolts : Nat) : supplyEntry centivolts =
    { value := (min 4000 centivolts : Nat), status := if 4000 < centivolts then .clamped else .valid } := by
  unfold supplyEntry
  by_cases h : 4000 < centivolts
  · rw [if_neg (by omega), if_pos h, Nat.min_eq_left (by omega)]
    rfl
  · rw [if_pos (by omega), if_neg h, Nat.min_eq_right (by omega)]

/-- The monitor's counts after a measurement, by the flags as they stand. -/
def supplyJudged (centivolts : Nat) (s : State) : Iu :=
  { judgeOver (min 4000 centivolts) s.run.flags.overVoltage
      (judgeUnder s.run.iu.code (min 4000 centivolts) s.run.flags.underVoltage s.run.iu) with timer := Config.supplyPeriod }

theorem measureSupply_frame (centivolts : Nat) (s : State) :
    WarningsOnly { putSignal s 160 (supplyEntry centivolts) with run.iu := supplyJudged centivolts s }
      (measureSupply centivolts s) := by
  have hwritten : WarningsOnly (putSignal s 160 (supplyEntry centivolts)) (writeInternal 160 (supplyEntry centivolts) s) :=
    conditionsOnSignal_frame 160 (putSignal s 160 (supplyEntry centivolts))
  have hcounts : supplyJudged centivolts (writeInternal 160 (supplyEntry centivolts) s) = supplyJudged centivolts s := by
    unfold supplyJudged
    rw [hwritten.flags, hwritten.iu]
    rfl
  have hmeasured : measureSupply centivolts s = { writeInternal 160 (supplyEntry centivolts) s with
      run.iu := supplyJudged centivolts (writeInternal 160 (supplyEntry centivolts) s) } := rfl
  rw [hmeasured, hcounts]
  exact hwritten.withIu _

/-- Settles O34: the internal signal's write leaves the flags and the counts that are judged. -/
theorem supplyMeasurementIsJudged : Obligations.SupplyMeasurementIsJudged := by
  unfold Obligations.SupplyMeasurementIsJudged
  intro s centivolts hdue hmode
  have hpow : powered s = true := by simp [powered, hmode]
  refine ⟨measureSupply centivolts s, ?_, ?_⟩
  · calc exec (.supplyMeasurement centivolts) s = execSupplyMeasurement centivolts s := rfl
      _ = .next (measureSupply centivolts s) := by
        rw [execSupplyMeasurement, after_of_not_due _ hdue, if_pos hpow]
  · have hframe := measureSupply_frame centivolts s
    have hcounts : supplyJudged centivolts s = { s.run.iu with
        timer := 10
        low := if s.run.flags.underVoltage then s.run.iu.low
          else if min 4000 centivolts < 1600 + 25 * min s.run.iu.code 24 then min 10 (s.run.iu.low + 1) else 0
        lowClear := if s.run.flags.underVoltage then
            (if 1600 + 25 * min s.run.iu.code 24 + 50 ≤ min 4000 centivolts then min 10 (s.run.iu.lowClear + 1) else 0)
          else s.run.iu.lowClear
        high := if s.run.flags.overVoltage then s.run.iu.high
          else if 3200 ≤ min 4000 centivolts then min 10 (s.run.iu.high + 1) else 0
        highClear := if s.run.flags.overVoltage then
            (if min 4000 centivolts < 3150 then min 10 (s.run.iu.highClear + 1) else 0)
          else s.run.iu.highClear } := by
      unfold supplyJudged judgeOver judgeUnder
      cases s.run.flags.underVoltage <;> cases s.run.flags.overVoltage <;> rfl
    rw [hcounts, supplyEntry_eq] at hframe
    exact hframe

/-! ## The two flags -/

/-- The supply's flags, counts and channels, set afresh. -/
def withSupply (flags : Flags) (iu : Iu) (channels : List Channel) (s : State) : State :=
  { s with run.flags := flags, run.iu := iu, run.gu.channels := channels }

theorem WarningsOnly.withSupply {s t : State} (h : WarningsOnly s t) (flags : Flags) (iu : Iu) (channels : List Channel) :
    WarningsOnly (withSupply flags iu channels s) (withSupply flags iu channels t) := by
  refine ⟨?_, h.2⟩
  conv_lhs => rw [h.1]
  rfl

theorem freezeGauges_eq (s : State) :
    freezeGauges s = withSupply s.run.flags s.run.iu (s.run.gu.channels.map freezeChannel) s := by
  have hmap : mapFrom (fun _ => freezeChannel) 0 s.run.gu.channels = s.run.gu.channels.map freezeChannel := mapFrom_const _ _ _
  rw [← hmap]
  rfl

theorem resumeGauges_eq (s : State) : resumeGauges s = withSupply s.run.flags s.run.iu
    (if supplyFault s then s.run.gu.channels else s.run.gu.channels.map resumeChannel) s := by
  have hmap : mapFrom (fun _ => resumeChannel) 0 s.run.gu.channels = s.run.gu.channels.map resumeChannel := mapFrom_const _ _ _
  rw [← hmap]
  unfold resumeGauges
  split <;> rfl

theorem abandonChime_frame (s : State) : WarningsOnly s (abandonChime s) := ⟨rfl, rfl⟩

theorem chimeResume_frame (s : State) : WarningsOnly s (chimeResume s) := by
  unfold chimeResume
  split
  · exact ⟨rfl, rfl⟩
  · exact .refl s

/-- Every moving channel frozen. -/
def frozen (s : State) : List Channel := s.run.gu.channels.map freezeChannel

/-- Every FROZEN channel in its resume state. -/
def resumed (s : State) : List Channel := s.run.gu.channels.map resumeChannel

/-- The channels freeze after the flag change that makes them. -/
theorem freezeGauges_frame {s t : State} (h : WarningsOnly s t) :
    WarningsOnly (withSupply s.run.flags s.run.iu (frozen s) s) (freezeGauges t) := by
  rw [freezeGauges_eq, h.flags, h.iu, h.gu]
  exact h.withSupply _ _ _

theorem resumeGauges_frame {s t : State} (h : WarningsOnly s t) :
    WarningsOnly (withSupply s.run.flags s.run.iu (if supplyFault s then s.run.gu.channels else resumed s) s) (resumeGauges t) := by
  have hsupply : supplyFault t = supplyFault s := by rw [supplyFault, h.flags, ← supplyFault]
  rw [resumeGauges_eq, h.flags, h.iu, h.gu, hsupply]
  exact h.withSupply _ _ _

theorem setUnder_frame (s : State) :
    WarningsOnly (withSupply { s.run.flags with underVoltage := true } { s.run.iu with low := 0, lowClear := 0 } (frozen s) s)
      (setUnder s) :=
  (freezeGauges_frame (flagChange_frame .underVoltage true { s with run.iu.low := 0, run.iu.lowClear := 0 })).trans
    (abandonChime_frame _)

theorem setOver_frame (s : State) :
    WarningsOnly (withSupply { s.run.flags with overVoltage := true } { s.run.iu with high := 0, highClear := 0 } (frozen s) s)
      (setOver s) :=
  (freezeGauges_frame (flagChange_frame .overVoltage true { s with run.iu.high := 0, run.iu.highClear := 0 })).trans
    (driveLamps_frame _)

theorem clearUnder_frame (s : State) :
    WarningsOnly (withSupply { s.run.flags with underVoltage := false } { s.run.iu with low := 0, lowClear := 0 }
      (if s.run.flags.overVoltage then s.run.gu.channels else resumed s) s) (clearUnder s) :=
  (resumeGauges_frame (flagChange_frame .underVoltage false { s with run.iu.low := 0, run.iu.lowClear := 0 })).trans
    (chimeResume_frame _)

theorem clearOver_frame (s : State) :
    WarningsOnly (withSupply { s.run.flags with overVoltage := false } { s.run.iu with high := 0, highClear := 0 }
      (if s.run.flags.underVoltage then s.run.gu.channels else resumed s) s) (clearOver s) := by
  have hframe := (resumeGauges_frame (flagChange_frame .overVoltage false
    { s with run.iu.high := 0, run.iu.highClear := 0 })).trans (driveLamps_frame _)
  have hsupply : supplyFault (putFlag { s with run.iu.high := 0, run.iu.highClear := 0 } .overVoltage false) =
      s.run.flags.underVoltage := Bool.or_false _
  rw [hsupply] at hframe
  exact hframe

theorem setUnder_silent (s : State) : (setUnder s).run.tu.chime.playing = none := by
  unfold setUnder abandonChime Chime.abandon
  dsimp only
  split
  · rfl
  · assumption

theorem flagChange_stands {f : FlagId} {v : Bool} {s : State} (hchange : getFlag s f ≠ v) (hn : noticing s = true) :
    NoticeStands .status (flagChange f v s) := by
  unfold flagChange
  rw [if_neg hchange]
  refine noticeIfOn_stands ?_
  have hframe := conditionsOnFlag_frame f.number (putFlag s f v)
  have hmode : (conditionsOnFlag f.number (putFlag s f v)).mode = s.mode := hframe.mode.trans (putFlag_mode ..)
  split
  · rw [noticing_congr ((noticeIfOn_frame _ _).mode.trans hmode)]
    exact hn
  · rw [noticing_congr hmode]
    exact hn

theorem setUnder_stands {s : State} (hf : s.run.flags.underVoltage = false) (hn : noticing s = true) :
    NoticeStands .status (setUnder s) := by
  have hafter (t : State) (h : NoticeStands .status t) : NoticeStands .status (abandonChime (freezeGauges t)) := h
  refine hafter _ (flagChange_stands (fun h => ?_) hn)
  have hset : s.run.flags.underVoltage = true := h
  rw [hf] at hset
  cases hset

theorem driven_lit (s : State) : ∀ m r, (driveLamps s).run.tu.lamps[m]? = some r → (r.output = true ↔ LampLit (driveLamps s) m r) := by
  intro m r hr
  rw [Lit.driveLamps s m r hr]
  exact lampOutput_iff _ _ _

theorem driven_dark {s : State} (h : s.run.flags.overVoltage = true) : ∀ r ∈ (driveLamps s).run.tu.lamps, r.output = false := by
  intro r hr
  obtain ⟨m, hm⟩ := List.mem_iff_getElem?.1 hr
  rw [← Bool.not_eq_true, driven_lit s m r hm]
  rintro ⟨-, -, hover, -⟩
  rw [show (driveLamps s).run.flags.overVoltage = s.run.flags.overVoltage from rfl, h] at hover
  cases hover

/-- The supply's steps when no other set is due. -/
theorem underSetStep_set {s : State} (hf : s.run.flags.underVoltage = false) (hlow : 10 ≤ s.run.iu.low) :
    underSetStep s = setUnder s := if_pos (by simp [underSetDue, hf, hlow])

theorem overSetStep_set {s : State} (hf : s.run.flags.overVoltage = false) (hhigh : 10 ≤ s.run.iu.high) :
    overSetStep s = setOver s := if_pos (by simp [overSetDue, hf, hhigh])

theorem underSetStep_still {s : State} (h : s.run.flags.underVoltage = true ∨ s.run.iu.low < 10) : underSetStep s = s :=
  if_neg (by rcases h with h | h <;> simp [underSetDue, h])

theorem overSetStep_still {s : State} (h : s.run.flags.overVoltage = true ∨ s.run.iu.high < 10) : overSetStep s = s :=
  if_neg (by rcases h with h | h <;> simp [overSetDue, h])

theorem underClearStep_clear {s : State} (hf : (overSetStep s).run.flags.underVoltage = true)
    (hclear : 10 ≤ (overSetStep s).run.iu.lowClear) : underClearStep s = clearUnder (overSetStep s) :=
  if_pos (by simp [underClearDue, hf, hclear])

theorem overClearStep_clear {s : State} (hf : (underSetStep s).run.flags.overVoltage = true)
    (hclear : 10 ≤ (underSetStep s).run.iu.highClear) : overClearStep s = clearOver (underSetStep s) :=
  if_pos (by simp [overClearDue, hf, hclear])

/-- A flag cleared after a due set of the other one leaves the channels frozen. -/
theorem clearUnder_afterSet (s : State) : WarningsOnly
    (withSupply { s.run.flags with underVoltage := false, overVoltage := true }
      { s.run.iu with low := 0, lowClear := 0, high := 0, highClear := 0 } (frozen s) s) (clearUnder (setOver s)) := by
  have hset := setOver_frame s
  have hclear := clearUnder_frame (setOver s)
  rw [hset.flags, hset.iu, hset.gu] at hclear
  exact (hset.withSupply _ _ _).trans hclear

theorem clearOver_afterSet (s : State) : WarningsOnly
    (withSupply { s.run.flags with underVoltage := true, overVoltage := false }
      { s.run.iu with low := 0, lowClear := 0, high := 0, highClear := 0 } (frozen s) s) (clearOver (setUnder s)) := by
  have hset := setUnder_frame s
  have hclear := clearOver_frame (setUnder s)
  rw [hset.flags, hset.iu, hset.gu] at hclear
  exact (hset.withSupply _ _ _).trans hclear

/-- Settles O35: each flag's change with the channels after it; a due set of the other flag first. -/
theorem supplyFlagsSetAndClear : Obligations.SupplyFlagsSetAndClear := by
  unfold Obligations.SupplyFlagsSetAndClear
  intro s f9 f10 u freeze resume frozenChannels resumedChannels dark
  refine ⟨fun hf hlow => ⟨_, congrArg Host.Outcome.next (underSetStep_set hf hlow), ?_⟩,
    fun hf hhigh => ⟨_, congrArg Host.Outcome.next (overSetStep_set hf hhigh), ?_⟩, fun hf hclear hnot => ?_,
    fun hf hclear hnot => ?_, fun hf hclear hother hhigh => ?_, fun hf hclear hother hlow => ?_⟩
  · exact ⟨setUnder_frame s, setUnder_silent s, setUnder_stands hf⟩
  · have hover : (freezeGauges (flagChange .overVoltage true { s with run.iu.high := 0, run.iu.highClear := 0 })).run.flags.overVoltage =
        true := by rw [(freezeGauges_frame (flagChange_frame .overVoltage true _)).flags]; rfl
    exact ⟨setOver_frame s, driven_lit _, driven_dark hover⟩
  · have hstep := underClearStep_clear (s := s)
    rw [overSetStep_still hnot] at hstep
    exact ⟨_, congrArg Host.Outcome.next (hstep hf hclear), clearUnder_frame s⟩
  · have hstep := overClearStep_clear (s := s)
    rw [underSetStep_still hnot] at hstep
    exact ⟨_, congrArg Host.Outcome.next (hstep hf hclear), clearOver_frame s, driven_lit _⟩
  · have hstep := underClearStep_clear (s := s)
    rw [overSetStep_set hother hhigh, (setOver_frame s).flags, (setOver_frame s).iu] at hstep
    exact ⟨_, congrArg Host.Outcome.next (hstep hf hclear), clearUnder_afterSet s⟩
  · have hstep := overClearStep_clear (s := s)
    rw [underSetStep_set hother hlow, (setUnder_frame s).flags, (setUnder_frame s).iu] at hstep
    exact ⟨_, congrArg Host.Outcome.next (hstep hf hclear), clearOver_afterSet s⟩

end Sys2Proof.Machine
end

section
/-! PROOFS. What a signal's update event leaves alone (R24), and an expired route (R9, R10, R34). -/

namespace Sys2Proof.Machine

/-! ## The entries up to 160 -/

/-- The entries up to 160 are as they were. -/
structure SameFrames (s t : State) : Prop where
  length : t.run.signals.length = s.run.signals.length
  entry : ∀ k, k ≤ 160 → signalAt t k = signalAt s k

theorem SameFrames.refl (s : State) : SameFrames s s := ⟨rfl, fun _ _ => rfl⟩

theorem SameFrames.trans {s t u : State} (h : SameFrames s t) (h' : SameFrames t u) : SameFrames s u :=
  ⟨h'.length.trans h.length, fun k hk => (h'.entry k hk).trans (h.entry k hk)⟩

theorem SameFrames.of_signals {s t : State} (h : t.run.signals = s.run.signals) : SameFrames s t :=
  ⟨by rw [h], fun k _ => by rw [signalAt, h, ← signalAt]⟩

theorem WarningsOnly.sameFrames {s t : State} (h : WarningsOnly s t) : SameFrames s t := .of_signals h.signals

theorem flagChange_sameFrames (f : FlagId) (v : Bool) (s : State) : SameFrames s (flagChange f v s) :=
  .of_signals ((flagChange_frame f v s).signals.trans (putFlag_signals ..))

theorem putSignal_sameFrames {s : State} {k : Nat} (hk : 160 < k) (e : SigEntry) : SameFrames s (putSignal s k e) :=
  ⟨updAt_length .., fun i hi => signalAt_putSignal s k i e (by omega)⟩

theorem writeSlotSignal_sameFrames {slot : Nat} (h : 0 < slot) (s : State) : SameFrames s (writeSlotSignal slot s) := by
  unfold writeSlotSignal
  split
  · exact (putSignal_sameFrames (by omega) _).trans (conditionsOnSignal_frame _ _).sameFrames
  · exact .refl s

theorem bindingOutputs_sameFrames {slot : Nat} (h : 0 < slot) (before : Stage) (s : State) :
    SameFrames s (bindingOutputs slot before s) := by
  unfold bindingOutputs
  refine .trans ?_ (noticeIfOn_frame _ _).sameFrames
  have hstage := (writeSlotSignal_sameFrames h s).trans (stageChange_frame slot before _).sameFrames
  split
  · exact hstage.trans (flagChange_sameFrames _ _ _)
  · exact hstage

theorem putBindings_sameFrames (t : Dtu) (s : State) : SameFrames s (putBindings t s) := by
  have hput : SameFrames s { s with dtu := t } := .of_signals rfl
  have hfirst : SameFrames s (if t.slot1 = s.dtu.slot1 then { s with dtu := t }
      else bindingOutputs 1 (slotStage s 1) { s with dtu := t }) := by
    split
    · exact hput
    · exact hput.trans (bindingOutputs_sameFrames (by omega) _ _)
  unfold putBindings
  dsimp only
  split
  · exact hfirst
  · exact hfirst.trans (bindingOutputs_sameFrames (by omega) _ _)

theorem cardEvent_sameFrames (slot i : Nat) (s : State) : SameFrames s (cardEvent slot i s) := by
  unfold cardEvent
  split
  · exact .refl s
  · split
    · unfold judgeCard
      split
      · exact .refl s
      · exact putBindings_sameFrames _ s
      · split
        · exact putBindings_sameFrames _ s
        · exact .refl s
    · exact .refl s

theorem speedEvent_sameFrames (i : Nat) (s : State) : SameFrames s (speedEvent i s) := by
  unfold speedEvent
  split
  · split
    · unfold judgeSpeeds
      split
      · split
        · exact .of_signals rfl
        · exact .refl s
      · exact .trans (t := { s with run.mismatch := none }) (.of_signals rfl) (flagChange_sameFrames _ _ _)
    · exact .refl s
  · exact .refl s

theorem speedEvent_driveOnly (i : Nat) (s : State) : DriveOnly s (speedEvent i s) := by
  unfold speedEvent
  split
  · split
    · unfold judgeSpeeds
      split
      · split
        · exact rfl
        · exact .refl s
      · exact mismatchCleared_driveOnly s
    · exact .refl s
  · exact .refl s

/-! ## A signal's update event, up to the road speed's (R24) -/

/-- A signal's update event without the road-speed interlock. -/
def unitEvents (i : Nat) (s : State) : State := speedEvent i (cardEvent 2 i (cardEvent 1 i (conditionsOnSignal i s)))

theorem signalUpdate_eq (i : Nat) (s : State) : signalUpdate i s = roadSpeedEvent i (unitEvents i s) := rfl

theorem unitEvents_driveOnly (i : Nat) (s : State) : DriveOnly s (unitEvents i s) :=
  (((conditionsOnSignal_frame i s).driveOnly.trans (cardEvent_driveOnly 1 i _)).trans (cardEvent_driveOnly 2 i _)).trans
    (speedEvent_driveOnly i _)

theorem unitEvents_sameFrames (i : Nat) (s : State) : SameFrames s (unitEvents i s) :=
  (((conditionsOnSignal_frame i s).sameFrames.trans (cardEvent_sameFrames 1 i _)).trans (cardEvent_sameFrames 2 i _)).trans
    (speedEvent_sameFrames i _)

theorem signalAt_putSignal_self {s : State} {i : Nat} (h : i < s.run.signals.length) (e : SigEntry) :
    signalAt (putSignal s i e) i = e := by
  rw [signalAt, putSignal, updAt_getD, if_pos ⟨rfl, h⟩]

/-- The road-speed interlock takes no unusable value. -/
theorem roadSpeedEvent_unusable {i : Nat} {s : State} (h : usableAt s i = none) : roadSpeedEvent i s = s := by
  unfold roadSpeedEvent
  rw [h]
  split <;> rfl

theorem writeSignal_unusable {i : Nat} {e : SigEntry} {s : State} (hi : i ≤ 160) (hlt : i < s.run.signals.length)
    (he : e.status.usable = false) : writeSignal i e s = unitEvents i (putSignal s i e) := by
  have hentry : signalAt (unitEvents i (putSignal s i e)) i = e :=
    ((unitEvents_sameFrames i _).entry i hi).trans (signalAt_putSignal_self hlt e)
  refine roadSpeedEvent_unusable (s := unitEvents i (putSignal s i e)) ?_
  rw [usableAt_eq_none_iff, hentry]
  exact he

/-! ## The signals of an expired route (R34) -/

/-- What an expiry of a route with signal `k` makes of its entry. -/
def staleAt (s : State) (k : Nat) : SigEntry :=
  match descAt s k with
  | some d => staleEntry d (signalAt s k)
  | none => signalAt s k

theorem descAt_of_driveOnly {s t : State} (h : DriveOnly s t) (k : Nat) : descAt t k = descAt s k := by
  rw [descAt, h.tables, ← descAt]

theorem markStale_driveOnly {s : State} {i : Nat} (hi : i ≤ 160) (hlt : i < s.run.signals.length) :
    DriveOnly s (markStale s i) := by
  unfold markStale
  split
  · rw [writeSignal_unusable hi hlt rfl]
    exact .trans (t := putSignal s i _) rfl (unitEvents_driveOnly i _)
  · exact .refl s

theorem markStale_length (s : State) {i : Nat} (hi : i ≤ 160) (hlt : i < s.run.signals.length) :
    (markStale s i).run.signals.length = s.run.signals.length := by
  unfold markStale
  split
  · rw [writeSignal_unusable hi hlt rfl, (unitEvents_sameFrames i _).length]
    exact updAt_length ..
  · rfl

theorem markStale_entry {s : State} {i k : Nat} (hi : i ≤ 160) (hlt : i < s.run.signals.length) (hk : k ≤ 160) :
    signalAt (markStale s i) k = if k = i then staleAt s k else signalAt s k := by
  unfold markStale
  cases hd : descAt s i with
  | none =>
    dsimp only
    split
    · next h =>
      subst h
      rw [staleAt, hd]
    · rfl
  | some d =>
    dsimp only
    rw [writeSignal_unusable hi hlt rfl, (unitEvents_sameFrames i _).entry k hk]
    split
    · next h =>
      subst h
      rw [signalAt_putSignal_self hlt, staleAt, hd]
    · next h => exact signalAt_putSignal _ _ _ _ h

/-- The signals of a route, each marked in its turn. -/
theorem markStales {s : State} {first count : Nat} (hlen : s.run.signals.length = 163) (hrange : first + count ≤ 160) :
    DriveOnly s (((List.range count).map (first + ·)).foldl markStale s) ∧
      (((List.range count).map (first + ·)).foldl markStale s).run.signals.length = 163 ∧
      ∀ k, k ≤ 160 → signalAt (((List.range count).map (first + ·)).foldl markStale s) k =
        if first ≤ k ∧ k < first + count then staleAt s k else signalAt s k := by
  induction count with
  | zero => exact ⟨.refl s, hlen, fun k _ => by rw [if_neg (by omega)]; rfl⟩
  | succ n ih =>
    obtain ⟨hdrive, hlength, hentry⟩ := ih (by omega)
    rw [List.range_succ, List.map_append, List.map_singleton, List.foldl_append, List.foldl_cons, List.foldl_nil]
    generalize ((List.range n).map (first + ·)).foldl markStale s = u at hdrive hlength hentry
    have hi : first + n ≤ 160 := by omega
    have hlt : first + n < u.run.signals.length := by omega
    refine ⟨hdrive.trans (markStale_driveOnly hi hlt), (markStale_length u hi hlt).trans hlength, fun k hk => ?_⟩
    rw [markStale_entry hi hlt hk]
    by_cases hkn : k = first + n
    · have hheld : signalAt u k = signalAt s k := by rw [hentry k hk, if_neg (by omega)]
      rw [if_pos hkn, if_pos (by omega), staleAt, staleAt, descAt_of_driveOnly hdrive, hheld]
    · rw [if_neg hkn, hentry k hk]
      by_cases hin : first ≤ k ∧ k < first + n
      · rw [if_pos hin, if_pos (by omega)]
      · rw [if_neg hin, if_neg (by omega)]

/-! ## F1 to F3, and the route -/

/-- F1 to F3 re-evaluated change those flags and the warnings path. -/
theorem superviseRoutes_frame (s : State) : ∃ display gateway tacho, WarningsOnly
    { s with run.flags := { s.run.flags with displayLost := display, gatewayLost := gateway, tachoLost := tacho } }
    (superviseRoutes s) :=
  ⟨_, _, _, ((flagChange_frame .displayLost _ s).flagChange .gatewayLost _).flagChange .tachoLost _⟩

theorem routeAt_updRoute (n m : Nat) (f : LiveRoute → LiveRoute) (s : State) :
    routeAt (updRoute n f s) m = if m = n then (routeAt s m).map f else routeAt s m := by
  unfold routeAt entryAt updRoute
  dsimp only
  rw [List.getD_eq_getElem?_getD, updAt_getElem?, List.getD_eq_getElem?_getD]
  split
  · cases s.run.tables.routes[m]? with
    | none => rfl
    | some e => cases e <;> rfl
  · rfl

theorem anyStale_of_route {s : State} {n : Nat} {r : LiveRoute} (hr : routeAt s n = some r) (hstale : r.fresh = .stale) :
    anyStale s r.cfg.supervision = true :=
  List.any_eq_true.2 ⟨_, List.mem_of_getElem? (routeAt_getElem? hr), by simp [Entry.get?, hstale]⟩

theorem exec_routeFreshnessExpiry {s : State} {n : Fin 96} {r : LiveRoute} (hdue : due s = false)
    (hr : routeAt s n.val = some r) (htimer : r.timer.isSome = true) :
    exec (.routeFreshnessExpiry n) s = .next (expireRoute n.val r s) := by
  calc exec (.routeFreshnessExpiry n) s = execRouteFreshnessExpiry n s := rfl
    _ = .next (expireRoute n.val r s) := by
      rw [execRouteFreshnessExpiry, after_of_not_due _ hdue, hr]
      dsimp only
      rw [if_pos htimer]

/-- Settles O36: the range's signals in their turn, then F1 to F3. -/
theorem expiredRoutesGoStale : Obligations.ExpiredRoutesGoStale := by
  unfold Obligations.ExpiredRoutesGoStale
  intro s n r hdue hr htimer hlen hrange
  refine ⟨_, exec_routeFreshnessExpiry hdue hr htimer, ?_⟩
  have hsigs := markStales (s := updRoute n.val expiredRoute s) (first := r.cfg.first) (count := r.cfg.count) hlen hrange
  have hexpire : expireRoute n.val r s =
      superviseRoutes (((List.range r.cfg.count).map (r.cfg.first + ·)).foldl markStale (updRoute n.val expiredRoute s)) := rfl
  rw [hexpire]
  generalize ((List.range r.cfg.count).map (r.cfg.first + ·)).foldl markStale (updRoute n.val expiredRoute s) = u at hsigs
  obtain ⟨hdrive, -, hentry⟩ := hsigs
  obtain ⟨display, gateway, tacho, hframe⟩ := superviseRoutes_frame u
  have hflags := superviseRoutes_supervised u
  have hroute (m : Nat) : routeAt (superviseRoutes u) m =
      if m = n.val then some { r with fresh := .stale, timer := none } else routeAt s m := by
    have htables : (superviseRoutes u).run.tables = (updRoute n.val expiredRoute s).run.tables :=
      hframe.tables.trans hdrive.tables
    rw [routeAt, htables, ← routeAt, routeAt_updRoute]
    split
    · next h =>
      rw [h, hr]
      rfl
    · rfl
  refine ⟨hroute, fun k hk => ?_, hflags.display, hflags.gateway, hflags.tacho, fun hgateway => ?_, ?_⟩
  · have hheld : signalAt (superviseRoutes u) k = signalAt u k := hframe.sameFrames.entry k hk
    have hdesc : descAt (updRoute n.val expiredRoute s) k = descAt s k := rfl
    rw [hheld, hentry k hk, staleAt, hdesc]
    dsimp only
    cases descAt s k with
    | none => simp only [ite_self]; rfl
    | some d => rfl
  · rw [hflags.gateway]
    have hstale := anyStale_of_route ((hroute n.val).trans (if_pos rfl)) rfl
    rwa [hgateway] at hstale
  · exact ⟨hframe.mode.trans hdrive.mode, hframe.store.trans hdrive.store, hframe.nodeAddress.trans hdrive.nodeAddress,
      hframe.din0.trans hdrive.din0, hframe.iu.trans hdrive.iu, hframe.gu.trans hdrive.gu, hframe.vli.trans hdrive.vli,
      hframe.dli.trans hdrive.dli, hframe.vtq.trans hdrive.vtq, hframe.drq.trans hdrive.drq⟩

end Sys2Proof.Machine
end

section
/-! PROOFS. The blink timebase, the lamp check's end and load supervision (R85, R87 to R90). -/

namespace Sys2Proof.Machine

/-! ## The blink timebase (R85) -/

theorem exec_blinkTimebaseAdvance {s : State} (hdue : due s = false) (hmode : s.mode ≠ .standby) :
    exec .blinkTimebaseAdvance s = .next (advanceBlink s) := by
  have hpow : powered s = true := by simp [powered, hmode]
  calc exec .blinkTimebaseAdvance s = execBlinkTimebaseAdvance s := rfl
    _ = .next (advanceBlink s) := by rw [execBlinkTimebaseAdvance, after_of_not_due _ hdue, if_pos hpow]

theorem exec_lampCheckEnd {s : State} (hdue : due s = false) (hcheck : s.run.tu.lampCheck.isSome = true) :
    exec .lampCheckEnd s = .next (endLampCheck s) := by
  calc exec .lampCheckEnd s = execLampCheckEnd s := rfl
    _ = .next (endLampCheck s) := by rw [execLampCheckEnd, after_of_not_due _ hdue, if_pos hcheck]

/-- Driven outputs, one lamp at a time. -/
theorem driveLamps_getElem? {s : State} {n : Nat} {r : LampRec} (h : s.run.tu.lamps[n]? = some r) :
    (driveLamps s).run.tu.lamps[n]? = some { r with output := lampOutput s n r } := by
  unfold driveLamps
  dsimp only
  rw [mapFrom_getElem?, h, Option.map_some, Nat.zero_add]

theorem phaseAt_eq (s : State) (count n : Nat) (r : LampRec) : phaseAt s count n r =
    { r with lit := match lampAt s n with | some l => patternLit l count | none => r.lit } := by
  unfold phaseAt
  cases lampAt s n <;> rfl

theorem advanceBlink_getElem? {s : State} {n : Nat} {r : LampRec} (h : s.run.tu.lamps[n]? = some r) :
    ∃ on : Bool, let r' := { phaseAt s ((s.run.tu.blink + 1) % 64) n r with output := on }
      (advanceBlink s).run.tu.lamps[n]? = some r' ∧ (on = true ↔ LampLit (advanceBlink s) n r') := by
  have hphase : (mapFrom (phaseAt s ((s.run.tu.blink + 1) % 64)) 0 s.run.tu.lamps)[n]? =
      some (phaseAt s ((s.run.tu.blink + 1) % 64) n r) := by
    rw [mapFrom_getElem?, h, Option.map_some, Nat.zero_add]
  have hdriven := driveLamps_getElem? (s := { s with run.tu.blink := (s.run.tu.blink + 1) % 64
                                                     run.tu.blinkTimer := Config.blinkMicros
                                                     run.tu.lamps := mapFrom (phaseAt s ((s.run.tu.blink + 1) % 64)) 0 s.run.tu.lamps })
    hphase
  exact ⟨_, hdriven, driven_lit _ n _ hdriven⟩

/-- The timebase steps in an eighth of a period. -/
def Period.eighth : Period → Nat
  | .ms250 => 1
  | .ms500 => 2
  | .ms1000 => 4
  | .ms2000 => 8

theorem patternLit_iff (l : Lamp) (count : Nat) : patternLit l count = true ↔
    count % (8 * l.period.eighth) < l.onTime * l.period.eighth ∨
      (l.pulses = 2 ∧ 2 * l.onTime * l.period.eighth ≤ count % (8 * l.period.eighth) ∧
        count % (8 * l.period.eighth) < 3 * l.onTime * l.period.eighth) := by
  have hsteps : l.period.steps = 8 * l.period.eighth := by cases l.period <;> rfl
  have heighth : 8 * l.period.eighth / 8 = l.period.eighth := by omega
  unfold patternLit
  dsimp only
  rw [hsteps, heighth, ← Nat.mul_assoc, ← Nat.mul_assoc]
  simp only [Bool.or_eq_true, Bool.and_eq_true, decide_eq_true_eq, and_assoc]

/-! ## The end of the lamp check (R87) -/

/-- The lamp check ended and reported. -/
def checkEnded (s : State) : State := { s with run.tu.lampCheck := none, run.mc.lampCheckEnded := true }

theorem lampOutput_startupEnds {s : State} (h : s.mode = .startup) (n : Nat) (r : LampRec) :
    lampOutput { s with mode := .run, phase := .none } n r = lampOutput s n r := by
  unfold lampOutput lampAt
  simp [h]

theorem startupCheck_starts {s : State} (h : s.mode = .startup ∧ s.phase = .gaugesAndLamps ∧ s.run.mc.gaugesStarted = true ∧
    s.run.mc.lampCheckEnded = true) : startupCheck s = noticeIfOn .status { s with mode := .run, phase := .none } := if_pos h

theorem startupEnded_stands (s : State) : NoticeStands .status (noticeIfOn .status { s with mode := .run, phase := .none }) :=
  noticeIfOn_stands rfl

/-- Settles O39: the pattern phases, and the two reports that end STARTUP. -/
theorem blinkAndLampCheckEnd : Obligations.BlinkAndLampCheckEnd := by
  unfold Obligations.BlinkAndLampCheckEnd
  intro s hdue
  refine ⟨fun hmode => ?_, fun hcheck => ?_⟩
  · intro count
    refine ⟨_, exec_blinkTimebaseAdvance hdue hmode, rfl, by simp [advanceBlink, driveLamps], fun n r hr => ?_⟩
    obtain ⟨on, hat, hlit⟩ := advanceBlink_getElem? hr
    rw [phaseAt_eq] at hat hlit
    refine ⟨_, on, hat, hlit, fun hnone => by rw [hnone], fun l hl => ?_⟩
    rw [hl]
    dsimp only
    rw [patternLit_iff]
    cases l.period <;> rfl
  · intro ended starts
    refine ⟨_, exec_lampCheckEnd hdue hcheck, ?_⟩
    have hended : endLampCheck s = startupCheck (driveLamps (checkEnded s)) := rfl
    rw [hended]
    by_cases hstarts : starts
    · obtain ⟨hmode, hphase, hgauges⟩ := hstarts
      rw [startupCheck_starts (s := driveLamps (checkEnded s)) ⟨hmode, hphase, hgauges, rfl⟩]
      have hnotice := noticeIfOn_still .status { driveLamps (checkEnded s) with mode := .run, phase := .none }
      have hframe : WarningsOnly { ended with mode := .run, phase := .none }
          { driveLamps (checkEnded s) with mode := .run, phase := .none } := ⟨rfl, rfl⟩
      refine ⟨fun _ => ⟨hframe.trans (noticeIfOn_frame _ _), startupEnded_stands _⟩,
        fun h => absurd ⟨hmode, hphase, hgauges⟩ h, fun n r hr => ?_⟩
      rw [hnotice.lamps] at hr
      rw [Lit.driveLamps (checkEnded s) n r hr, ← lampOutput_iff, hnotice.lampOutput,
        lampOutput_startupEnds (s := driveLamps (checkEnded s)) hmode]
    · have hsame : startupCheck (driveLamps (checkEnded s)) = driveLamps (checkEnded s) :=
        if_neg fun ⟨hmode, hphase, hgauges, _⟩ => hstarts ⟨hmode, hphase, hgauges⟩
      rw [hsame]
      exact ⟨fun h => absurd h hstarts, fun _ => driveLamps_frame _, driven_lit _⟩

/-! ## What a report of the load states leaves (R90) -/

/-- The reports of faulty lamps and F5 follow the lamps. -/
def LampsFollowed (t : State) : Prop :=
  t.run.flags.lampFault = (t.run.tu.lamps.any fun r => decide (r.load ≠ .ok)) ∧
    ∀ m, m < 32 →
      t.run.mc.openLamps.getLsbD m = decide ((lampRec t m).load = .opened) ∧
        t.run.mc.shortLamps.getLsbD m = decide ((lampRec t m).load = .shorted)

/-- Beyond the lamps' reports, F5 and the load timer only the warnings path differs. -/
def LampRest (s t : State) : Prop := WarningsOnly
  { s with run.flags.lampFault := t.run.flags.lampFault
           run.tu.loadTimer := t.run.tu.loadTimer
           run.mc := { s.run.mc with openLamps := t.run.mc.openLamps
                                     shortLamps := t.run.mc.shortLamps } } t

theorem lampsWhere_bit (s : State) (p : LampRec → Bool) {m : Nat} (hm : m < 32) :
    (lampsWhere s p).getLsbD m = p (lampRec s m) := by
  have hbits : lampsWhere s p = BitVec.ofNat 32 (bitsOf (fun n => p (lampRec s n)) 32) := rfl
  rw [hbits, BitVec.getLsbD_ofNat, bitsOf_testBit]
  simp [hm]

theorem lampsLoaded_bit (s : State) (l : Load) {m : Nat} (hm : m < 32) :
    (lampsLoaded s l).getLsbD m = decide ((lampRec s m).load = l) := lampsWhere_bit s (fun r => decide (r.load = l)) hm

theorem SameLoads.lampRec {s t : State} (h : SameLoads s t) (m : Nat) :
    (lampRec t m).load = (lampRec s m).load ∧ (lampRec t m).openCount = (lampRec s m).openCount := by
  unfold Machine.lampRec
  rw [List.getD_eq_getElem?_getD, List.getD_eq_getElem?_getD]
  cases ht : t.run.tu.lamps[m]? with
  | none =>
    rw [List.getElem?_eq_none (by rw [← h.length]; exact List.getElem?_eq_none_iff.1 ht)]
    exact ⟨rfl, rfl⟩
  | some r =>
    obtain ⟨r', hr', hload, hcount, -⟩ := h.getElem? ht
    rw [hr']
    exact ⟨hload, hcount⟩

theorem reportLamps_followed (s : State) : LampsFollowed (reportLamps s) := by
  have hframe := reportLamps_frame s
  have hsame := reportLamps_sameLoads s
  refine ⟨?_, fun m hm => ⟨?_, ?_⟩⟩
  · rw [hframe.flags, hsame.any_load fun l => decide (l ≠ .ok)]
    rfl
  · have hopen : (lampsReported s).run.mc.openLamps = lampsLoaded s .opened := rfl
    rw [hframe.mc, (hsame.lampRec m).1, hopen, lampsLoaded_bit s .opened hm]
  · have hshort : (lampsReported s).run.mc.shortLamps = lampsLoaded s .shorted := rfl
    rw [hframe.mc, (hsame.lampRec m).1, hshort, lampsLoaded_bit s .shorted hm]

theorem reportLamps_rest (s : State) (l : List LampRec) (k : Nat) :
    LampRest s (reportLamps { s with run.tu.lamps := l, run.tu.loadTimer := k }) := by
  have hframe := reportLamps_frame { s with run.tu.lamps := l, run.tu.loadTimer := k }
  unfold LampRest
  rw [hframe.flags, hframe.loadTimer, hframe.mc]
  exact .trans ⟨rfl, rfl⟩ hframe

theorem reportLamps_stands {s : State} (h : noticing s = true) : NoticeStands .status (reportLamps s) := by
  refine noticeIfOn_stands ?_
  rw [noticing_congr (s := s)]
  · exact h
  · exact (flagChange_frame _ _ _).mode.trans (putFlag_mode ..)

theorem updLamp_rec {s : State} (f : LampRec → LampRec) (n m : Nat) :
    lampRec (updLamp n f s) m = if m = n ∧ m < s.run.tu.lamps.length then f (lampRec s m) else lampRec s m :=
  updAt_getD _ _ _ _ _

theorem driveLamps_load (s : State) (m : Nat) :
    (lampRec (driveLamps s) m).load = (lampRec s m).load ∧ (lampRec (driveLamps s) m).openCount = (lampRec s m).openCount :=
  (sameLoads_warn.drive s).lampRec m

/-! ## A shorted lamp stays dark -/

/-- Every shorted lamp is dark. -/
def ShortsDark (s : State) : Prop := ∀ r ∈ s.run.tu.lamps, r.load = .shorted → r.output = false

theorem ShortsDark.of_lamps {s t : State} (h : t.run.tu.lamps = s.run.tu.lamps) : Preserves ShortsDark s t := by
  intro hs
  rwa [ShortsDark, h]

theorem ShortsDark.driven (s : State) : ShortsDark (driveLamps s) := by
  intro r hr hload
  obtain ⟨n, hn⟩ := List.mem_iff_getElem?.1 hr
  rw [Lit.driveLamps s n r hn, ← Bool.not_eq_true, lampOutput_iff]
  exact fun hlit => hlit.2.1 hload

theorem lampChange_kept (s : State) (j : Nat) (now : CondState) (n : Nat) (r : LampRec) :
    (lampChange s j now n r).load = r.load ∧ (lampChange s j now n r).output = r.output := by
  unfold lampChange
  split
  · split <;> exact ⟨rfl, rfl⟩
  · exact ⟨rfl, rfl⟩

theorem shortsDark_warn : Warn (Preserves ShortsDark) :=
  .of_free (fun _ => id) (fun h h' hs => h' (h hs)) (fun _ _ => .of_lamps rfl) (fun _ _ _ => .of_lamps rfl)
    (fun s j now hs r hr hload => by
      obtain ⟨n, a, ha, rfl⟩ := mem_mapFrom hr
      obtain ⟨hkept, hout⟩ := lampChange_kept s j now n a
      rw [hout]
      exact hs a ha (hkept ▸ hload))
    (fun s hs r hr hload => by
      obtain ⟨a, ha, rfl⟩ := List.mem_map.1 hr
      exact hs a ha hload)
    (fun s _ => .driven s) fun _ _ _ => .of_lamps rfl

theorem reportLamps_dark {s : State} (hs : ShortsDark s) : ShortsDark (reportLamps s) := by
  unfold reportLamps
  dsimp only
  refine shortsDark_warn.noticeIfOn _ _ ?_
  rcases shortsDark_warn.flagDelivered .lampFault (s.run.tu.lamps.any fun r => decide (r.load ≠ .ok))
    { s with run.mc.openLamps := lampsLoaded s .opened, run.mc.shortLamps := lampsLoaded s .shorted } with h | h
  · rw [h]
    exact hs
  · exact h (ShortsDark.of_lamps (s := s) (by rw [putFlag_tu]) hs)

/-! ## Load supervision (R88, R89) -/

theorem lampRec_eq {s : State} {m : Nat} (h : m < s.run.tu.lamps.length) : s.run.tu.lamps[m]? = some (lampRec s m) := by
  rw [lampRec, List.getD_eq_getElem?_getD, List.getElem?_eq_getElem h]
  rfl

/-- The lamps after a load check. -/
def loadsChecked (current : BitVec 32) (s : State) : State :=
  { s with run.tu.lamps := mapFrom (checkLoad current) 0 s.run.tu.lamps, run.tu.loadTimer := Config.loadPeriod }

theorem loadCheck_eq (current : BitVec 32) (s : State) : loadCheck current s =
    if (loadsChecked current s).run.tu.lamps.map LampRec.load = s.run.tu.lamps.map LampRec.load then loadsChecked current s
    else reportLamps (loadsChecked current s) := rfl

theorem loadsChecked_rec (current : BitVec 32) {s : State} {m : Nat} (h : m < s.run.tu.lamps.length) :
    lampRec (loadsChecked current s) m = checkLoad current m (lampRec s m) := by
  rw [lampRec, loadsChecked]
  dsimp only
  rw [List.getD_eq_getElem?_getD, mapFrom_getElem?, lampRec_eq h, Option.map_some, Nat.zero_add]
  rfl

theorem checkLoad_eq (current : BitVec 32) (m : Nat) (r : LampRec) :
    ((checkLoad current m r).load, (checkLoad current m r).openCount) =
      if r.output = false then (r.load, r.openCount)
      else if current.getLsbD m then (if r.load = .opened then .ok else r.load, 0)
      else (r.load, min 3 (r.openCount + 1)) := by
  unfold checkLoad
  cases r.output with
  | false => rfl
  | true =>
    cases current.getLsbD m with
    | true => rfl
    | false => rfl

/-- The load states are as they were exactly when each lamp's is. -/
theorem map_load_eq_iff {s t : State} (hs : s.run.tu.lamps.length = 32) (ht : t.run.tu.lamps.length = 32) :
    t.run.tu.lamps.map LampRec.load = s.run.tu.lamps.map LampRec.load ↔
      ∀ m, m < 32 → (lampRec t m).load = (lampRec s m).load := by
  constructor
  · intro h m hm
    have hat := congrArg (fun l => l[m]?) h
    simp only [List.getElem?_map, lampRec_eq (s := t) (m := m) (by omega), lampRec_eq (s := s) (m := m) (by omega)] at hat
    exact Option.some_inj.1 hat
  · intro h
    refine List.ext_getElem? fun m => ?_
    rcases Nat.lt_or_ge m 32 with hm | hm
    · rw [List.getElem?_map, List.getElem?_map, lampRec_eq (s := t) (by omega), lampRec_eq (s := s) (by omega)]
      exact congrArg some (h m hm)
    · rw [List.getElem?_eq_none (by simpa [ht] using hm), List.getElem?_eq_none (by simpa [hs] using hm)]

theorem exec_loadCheck {s : State} (hdue : due s = false) (hmode : s.mode ≠ .standby) (current : BitVec 32) :
    exec (.loadCheck current) s = .next (loadCheck current s) := by
  have hpow : powered s = true := by simp [powered, hmode]
  calc exec (.loadCheck current) s = execLoadCheck current s := rfl
    _ = .next (loadCheck current s) := by rw [execLoadCheck, after_of_not_due _ hdue, if_pos hpow]

theorem exec_lampOvercurrent {s : State} (hdue : due s = false) {n : Fin 32} (hon : (lampRec s n.val).output = true) :
    exec (.lampOvercurrent n) s = .next (shortLamp n.val s) := by
  calc exec (.lampOvercurrent n) s = execLampOvercurrent n s := rfl
    _ = .next (shortLamp n.val s) := by rw [execLampOvercurrent, after_of_not_due _ hdue, if_pos hon]

/-- Settles O40: each check and latch is an update of the lamps, then a report. -/
theorem lampLoadsAreSupervised : Obligations.LampLoadsAreSupervised := by
  unfold Obligations.LampLoadsAreSupervised
  intro s hlen reported rest loads others
  refine ⟨fun current hdue hmode => ?_,
    fun n hdue hon => ⟨_, exec_lampOvercurrent hdue hon, ?_⟩, fun n hok hcount => ?_⟩
  · intro check
    refine ⟨_, exec_loadCheck hdue hmode current, ?_⟩
    have hlength : (loadsChecked current s).run.tu.lamps.length = 32 := (mapFrom_length ..).trans hlen
    have hchecked (m : Nat) (hm : m < 32) : ((lampRec (loadsChecked current s) m).load,
        (lampRec (loadsChecked current s) m).openCount) = check m (lampRec s m) := by
      rw [loadsChecked_rec current (by omega)]
      exact checkLoad_eq current m _
    rw [loadCheck_eq]
    have hiff := map_load_eq_iff (s := s) (t := loadsChecked current s) hlen hlength
    split
    · next hsame =>
      exact ⟨⟨rfl, rfl⟩, rfl, hchecked, fun ⟨m, hm, hne⟩ => absurd (hiff.1 hsame m hm) hne, fun _ => rfl⟩
    · next hdiffer =>
      have hloads := reportLamps_sameLoads (loadsChecked current s)
      refine ⟨reportLamps_rest s _ _, (reportLamps_frame _).loadTimer, fun m hm => ?_, fun _ => reportLamps_followed _,
        fun hall => absurd (hiff.2 fun m hm => ?_) hdiffer⟩
      · rw [(hloads.lampRec m).1, (hloads.lampRec m).2]
        exact hchecked m hm
      · rw [← (hloads.lampRec m).1]
        exact hall m hm
  · generalize hv : driveLamps (updLamp n.val (fun r => { r with load := .shorted, openCount := 0 }) s) = v
    have hshort : shortLamp n.val s = reportLamps v := by rw [← hv]; rfl
    have hrec (m : Nat) (hm : m < 32) : ((lampRec v m).load, (lampRec v m).openCount) = others n.val (.shorted, 0) m (lampRec s m) := by
      rw [← hv, (driveLamps_load _ m).1, (driveLamps_load _ m).2, updLamp_rec]
      by_cases hmn : m = n.val
      · rw [if_pos ⟨hmn, by omega⟩]
        exact (if_pos hmn).symm
      · rw [if_neg fun h => hmn h.1]
        exact (if_neg hmn).symm
    have hloads := reportLamps_sameLoads v
    have hmode : v.mode = s.mode := by rw [← hv]; rfl
    rw [hshort]
    refine ⟨by rw [← hv]; exact reportLamps_rest s _ s.run.tu.loadTimer, ?_, reportLamps_followed v, fun m hm => ?_, ?_,
      fun hn => reportLamps_stands (by rw [noticing_congr hmode]; exact hn)⟩
    · rw [(reportLamps_frame v).loadTimer, ← hv]
      rfl
    · rw [(hloads.lampRec m).1, (hloads.lampRec m).2]
      exact hrec m hm
    · have hlength : (reportLamps v).run.tu.lamps.length = 32 := by
        rw [hloads.length, ← hv]
        simp [driveLamps, updLamp, hlen]
      have hdark := reportLamps_dark (s := v) (by rw [← hv]; exact .driven _)
      refine hdark _ (List.mem_of_getElem? (lampRec_eq (by omega))) ?_
      rw [(hloads.lampRec n.val).1]
      exact (congrArg Prod.fst (hrec n.val (by omega))).trans (by simp [others])
  · have hdue : lampOpenStep n.val s = openLamp n.val s := if_pos (by simp [lampOpenDue, hok, hcount])
    generalize hv : updLamp n.val (fun r => { r with load := .opened }) s = v
    have hopen : openLamp n.val s = reportLamps v := by rw [← hv]; rfl
    have hloads := reportLamps_sameLoads v
    have hmode : v.mode = s.mode := by rw [← hv]; rfl
    refine ⟨openLamp n.val s, congrArg Host.Outcome.next hdue, ?_⟩
    rw [hopen]
    refine ⟨by rw [← hv]; exact reportLamps_rest s _ s.run.tu.loadTimer, ?_, reportLamps_followed v, fun m hm => ?_,
      fun hn => reportLamps_stands (by rw [noticing_congr hmode]; exact hn)⟩
    · rw [(reportLamps_frame v).loadTimer, ← hv]
      rfl
    · rw [(hloads.lampRec m).1, (hloads.lampRec m).2, ← hv, updLamp_rec]
      by_cases hmn : m = n.val
      · rw [if_pos ⟨hmn, by omega⟩]
        refine Eq.trans ?_ (if_pos hmn).symm
        rw [hmn]
      · rw [if_neg fun h => hmn h.1]
        exact (if_neg hmn).symm

end Sys2Proof.Machine
end

section
/-! PROOFS. The gauge update, the end of a homing and a coil's fault (R42 to R57, R164, R170). -/

namespace Sys2Proof.Machine

/-! ## The gauges' reports (R51, R164, R170) -/

theorem standbyCheck_of_mode {s : State} (h : s.mode ≠ .shutdown) : standbyCheck s = s := if_neg fun hs => h hs.1

theorem startupCheck_of_mode {s : State} (h : s.mode ≠ .startup) : startupCheck s = s := if_neg fun hs => h hs.1

/-- What the Mode Controller does on the gauges' reports. -/
theorem gaugesMoved_reported (s : State) : GaugesReported (reportGauges s) (gaugesMoved s) := by
  have hmoved : gaugesMoved s = standbyCheck (startupCheck (reportGauges s)) := rfl
  rw [hmoved]
  generalize reportGauges s = u
  unfold GaugesReported
  intro starts rests
  refine ⟨fun hstarts => ?_, fun hrests => ?_, fun hstarts hrests => ?_⟩
  · have hframe := noticeIfOn_frame .status { u with mode := .run, phase := .none }
    rw [startupCheck_starts hstarts, standbyCheck_of_mode (by rw [hframe.mode]; simp)]
    exact ⟨hframe, startupEnded_stands u⟩
  · obtain ⟨hmode, hrest, hduq⟩ := hrests
    rw [startupCheck_of_mode (by rw [hmode]; simp)]
    exact if_pos ⟨hmode, hrest, hduq⟩
  · rw [show startupCheck u = u from if_neg hstarts]
    exact if_neg hrests

/-! ## One channel at a gauge update (R42) -/

theorem coilsOpen_iff (c : Channel) : coilsOpen c = true ↔
    c.state.energised = true ∧ c.state ≠ .frozen ∧ (3 ≤ c.openA ∨ 3 ≤ c.openB) := by
  simp only [coilsOpen, supervised, Bool.and_eq_true, decide_eq_true_eq, and_assoc]

theorem coilCheck_energised {c : Channel} (h : supervised c = true) (sense : CoilSense × CoilSense) :
    coilCheck sense c = { c with openA := coilCount sense.1 c.openA, openB := coilCount sense.2 c.openB } := if_pos h

theorem coilCheck_idle {c : Channel} (h : supervised c = false) (sense : CoilSense × CoilSense) : coilCheck sense c = c :=
  if_neg (by simp [h])

theorem exec_gaugeUpdate {s : State} (hdue : due s = false) (hmode : s.mode ≠ .standby)
    {sense : List (CoilSense × CoilSense)} (hlen : sense.length = 6) :
    exec (.gaugeUpdate sense) s = .next (updateGauges sense s) := by
  have hpow : powered s = true := by simp [powered, hmode]
  have hwf : Instr.wellFormed (.gaugeUpdate sense) = true := by simp [Instr.wellFormed, hlen]
  calc exec (.gaugeUpdate sense) s = execGaugeUpdate sense s := rfl
    _ = .next (updateGauges sense s) := by
      rw [execGaugeUpdate, answerIf, if_pos hwf, after_of_not_due _ hdue, if_pos hpow]

/-- Settles O37: supervision by the channel's state, then the movement of that state. -/
theorem gaugeUpdateMovesChannels : Obligations.GaugeUpdateMovesChannels := by
  unfold Obligations.GaugeUpdateMovesChannels
  intro s sense hdue hmode hlen count checked goTo follow source moved
  have hchecked (n : Nat) (c : Channel) : coilCheck (sense.getD n (.undriven, .undriven)) c = checked n c := by
    obtain ⟨state, known, pos, filt, target, resume, homing, forced, openA, openB, fault⟩ := c
    cases state with
    | unhomed => exact coilCheck_idle rfl _
    | frozen => exact coilCheck_idle rfl _
    | fault => exact coilCheck_idle rfl _
    | atRest => exact coilCheck_idle rfl _
    | _ => exact coilCheck_energised rfl _
  have hmoved (g : Gauge) (c : Channel) : moveChannel s g c = moved g c := by
    have htrack : trackMove s g c =
        match source g, g.policy with
        | some v, _ => follow g (curveTarget g.curve v) { c with state := .track }
        | none, .hold => follow g c.target { c with state := .sourceless }
        | none, .park p => follow g p { c with state := .sourceless } := by
      have hvalue : gaugeValue s g = source g := rfl
      unfold trackMove policyTarget
      rw [hvalue]
      generalize source g = value
      cases value with
      | some v => rfl
      | none => cases g.policy <;> rfl
    obtain ⟨state, known, pos, filt, target, resume, homing, forced, openA, openB, fault⟩ := c
    cases state with
    | track => exact htrack
    | sourceless => exact htrack
    | forced => cases forced <;> rfl
    | _ => rfl
  refine ⟨mapFrom (updateChannel s sense) 0 s.run.gu.channels, updateGauges sense s, mapFrom_length .., exec_gaugeUpdate hdue hmode hlen,
    gaugesMoved_reported (mapChannels (updateChannel s sense) { s with run.gu.timer := Config.gaugePeriod }), fun n c hc => ?_⟩
  rw [mapFrom_getElem?, hc, Option.map_some, Nat.zero_add]
  refine congrArg some ?_
  unfold updateChannel
  cases gaugeAt s n with
  | none => rfl
  | some g =>
    dsimp only
    rw [hchecked]
    split
    · next hopen => exact (if_pos ((coilsOpen_iff _).1 hopen)).symm
    · next hclosed =>
      rw [hmoved]
      exact (if_neg fun h => hclosed ((coilsOpen_iff _).2 h)).symm

/-! ## The end of a homing, and a coil's fault (R49, R55) -/

theorem homingStep_completes {s : State} {n : Nat} {c : Channel} {g : Gauge} (hc : s.run.gu.channels[n]? = some c)
    (hg : gaugeAt s n = some g) (hstate : c.state = .homing) (hleft : c.homing = 0) :
    homingStep n s = completeHoming n g s := by
  have hdue : homingDue s n = true := by simp [homingDue, channelAt_of_getElem? hc, hstate, hleft]
  unfold homingStep
  rw [hg]
  exact if_pos hdue

theorem homedChannel_eq (startup supply : Bool) (g : Gauge) (c : Channel) : homedChannel startup supply g c =
    if supply = true then
      { c with known := true, pos := 0, filt := 0, target := 0, state := .frozen, openA := 0, openB := 0
               resume := some (if startup = true ∧ g.sweep = true then .sweepUp else .track) }
    else { c with known := true, pos := 0, filt := 0, target := 0, resume := none
                  state := (if startup = true ∧ g.sweep = true then Resume.sweepUp else Resume.track).state } := by
  unfold homedChannel enterMoving
  simp only [Bool.and_eq_true]

theorem openCoils_eq {c : Channel} (h : 3 ≤ c.openA ∨ 3 ≤ c.openB) :
    openCoils c = if 3 ≤ c.openA ∧ 3 ≤ c.openB then .ab else if 3 ≤ c.openA then .a else .b := by
  unfold openCoils
  split
  · rfl
  · split
    · rfl
    · next ha => exact if_pos (h.resolve_left ha)

/-- The faults that the Mode Controller is told, after the flag. -/
def faultsReported (s : State) : State :=
  { evaluateF6 s with run.mc.gaugeFaults := s.run.gu.channels.map faultOf }

theorem faultsReported_frame (s : State) : WarningsOnly
    { s with run.flags.gaugeFault := s.run.gu.channels.any fun c => decide (c.state = .fault)
             run.mc.gaugeFaults := s.run.gu.channels.map faultOf } (faultsReported s) := by
  have hflag := flagChange_frame .gaugeFault (s.run.gu.channels.any fun c => decide (c.state = .fault)) s
  refine ⟨?_, hflag.2⟩
  unfold faultsReported evaluateF6
  conv_lhs => rw [hflag.1]
  rfl

theorem enterFault_eq (n : Nat) (s : State) :
    enterFault n s = noticeIfOn .status (faultsReported (updChannel n faultChannel s)) := by
  have hchannels (t : State) : (evaluateF6 t).run.gu.channels = t.run.gu.channels := flagChange_channels _ _ t
  unfold enterFault faultsReported
  dsimp only
  rw [hchannels]

theorem any_fault_of_faulted {s : State} {n : Nat} {c : Channel} (hc : s.run.gu.channels[n]? = some c) :
    ((updChannel n faultChannel s).run.gu.channels.any fun c => decide (c.state = .fault)) = true := by
  refine List.any_eq_true.2 ⟨faultChannel c, List.mem_of_getElem? (i := n) ?_, rfl⟩
  unfold updChannel
  dsimp only
  rw [updAt_getElem?, if_pos rfl, hc]
  rfl

/-- R55: the fault of a channel, up to the gauges' reports. -/
theorem enterFault_frame {s : State} {n : Nat} {c : Channel} (hc : s.run.gu.channels[n]? = some c) : WarningsOnly
    { updChannel n faultChannel s with
      run.flags.gaugeFault := true
      run.mc.gaugeFaults := (updChannel n faultChannel s).run.gu.channels.map faultOf } (enterFault n s) := by
  have hframe := faultsReported_frame (updChannel n faultChannel s)
  rw [any_fault_of_faulted hc] at hframe
  rw [enterFault_eq]
  exact hframe.trans (noticeIfOn_frame _ _)

theorem WarningsOnly.reportGauges {s t : State} (h : WarningsOnly s t) : WarningsOnly (reportGauges s) (reportGauges t) := by
  refine ⟨?_, h.2⟩
  unfold Machine.reportGauges
  conv_lhs => rw [h.1]

/-- The coils that a FAULT names are those of the channel that faults. -/
theorem faulted_channels {s : State} {n : Nat} {c : Channel} (hc : s.run.gu.channels[n]? = some c) {coils : CoilFault}
    (hcoils : openCoils c = coils) : (updChannel n faultChannel s).run.gu.channels = updAt s.run.gu.channels n fun c =>
      { c with state := .fault, known := false, resume := none, forced := none, fault := coils, openA := 0, openB := 0 } := by
  refine List.ext_getElem? fun m => ?_
  unfold updChannel
  dsimp only
  rw [updAt_getElem?, updAt_getElem?]
  split
  · next h =>
    rw [h, hc, Option.map_some, Option.map_some, faultChannel, hcoils]
  · rfl

/-- Settles O38: the homing's end under the supply, the fault with F6, each followed by the gauges' reports. -/
theorem homingEndsAndCoilsFault : Obligations.HomingEndsAndCoilsFault := by
  unfold Obligations.HomingEndsAndCoilsFault
  intro s n c hc
  refine ⟨fun g hg hstate hleft => ?_, fun henergised hfrozen hopen => ?_⟩
  · intro into channels
    refine ⟨_, congrArg Host.Outcome.next (homingStep_completes hc hg hstate hleft), ?_⟩
    have hchannels : updChannel n.val (homedChannel (decide (s.mode = .startup)) (supplyFault s) g) s =
        { s with run.gu.channels := channels } := by
      rw [funext (homedChannel_eq (decide (s.mode = .startup)) (supplyFault s) g)]
      simp only [supplyFault, Bool.or_eq_true, decide_eq_true_eq]
      rfl
    have hreport := gaugesMoved_reported (updChannel n.val (homedChannel (decide (s.mode = .startup)) (supplyFault s) g) s)
    rw [hchannels] at hreport
    unfold completeHoming
    rw [hchannels]
    exact hreport
  · intro coils channels
    have hdue : coilDue s n.val = true := by
      rw [coilDue, channelAt_of_getElem? hc]
      exact (coilsOpen_iff c).2 ⟨henergised, hfrozen, hopen⟩
    refine ⟨reportGauges (enterFault n.val s), _, congrArg Host.Outcome.next (if_pos hdue), gaugesMoved_reported _, fun hn => ?_, ?_⟩
    · have hafter (t : State) (h : NoticeStands .status t) : NoticeStands .status (reportGauges t) := h
      refine hafter _ ?_
      rw [enterFault_eq]
      refine noticeIfOn_stands ?_
      rw [noticing_congr (s := s)]
      · exact hn
      · exact (faultsReported_frame _).mode
    · have hframe := (enterFault_frame hc).reportGauges
      have hfaulted := faulted_channels hc (openCoils_eq hopen)
      have hbase : reportGauges { updChannel n.val faultChannel s with
          run.flags.gaugeFault := true
          run.mc.gaugeFaults := (updChannel n.val faultChannel s).run.gu.channels.map faultOf } =
          { s with
            run.flags.gaugeFault := true
            run.gu.channels := (updChannel n.val faultChannel s).run.gu.channels
            run.mc := { s.run.mc with
              gaugesStarted := (updChannel n.val faultChannel s).run.gu.channels.all channelStarted
              gaugesAtRest := (updChannel n.val faultChannel s).run.gu.channels.all channelAtRest
              gaugeFaults := (updChannel n.val faultChannel s).run.gu.channels.map faultOf } } := rfl
      rw [hbase, hfaulted] at hframe
      exact hframe

end Sys2Proof.Machine
end

section
/-! PROOFS. The chime and the escalation of an entry (R97 to R101), and one evaluation of a condition with the Alert
List that its change leaves (R65 to R72, R93, R94). -/

namespace Sys2Proof.Machine

/-! ## The chime's clockwork (R98 to R100) -/

theorem exec_chimePatternEnd {s : State} (hdue : due s = false) {p : Playing} (hp : s.run.tu.chime.playing = some p)
    (hrep : p.pattern ≠ .rep) : exec .chimePatternEnd s = .next (endPattern s) := by
  have hending : endingPattern s = true := by simp [endingPattern, hp, hrep]
  calc exec .chimePatternEnd s = execChimePatternEnd s := rfl
    _ = .next (endPattern s) := by rw [execChimePatternEnd, after_of_not_due _ hdue, if_pos hending]

theorem exec_repeatCycle {s : State} (hdue : due s = false) {p : Playing} (hp : s.run.tu.chime.playing = some p)
    (hrep : p.pattern = .rep) : exec .repeatCycle s = .next (restartRepeat s) := by
  have hplaying : repeatPlaying s = true := by simp [repeatPlaying, hp, hrep]
  calc exec .repeatCycle s = execRepeatCycle s := rfl
    _ = .next (restartRepeat s) := by rw [execRepeatCycle, after_of_not_due _ hdue, if_pos hplaying]

theorem chimeOrder_cons {q x : Pattern} {rest : List Pattern} (h : ChimeOrder (q :: rest)) :
    x ∈ rest ↔ x ∈ q :: rest ∧ x ≠ q := by
  obtain ⟨hq, -⟩ := List.pairwise_cons.1 h
  refine ⟨fun hx => ⟨List.mem_cons_of_mem _ hx, ?_⟩, fun ⟨hx, hne⟩ => (List.mem_cons.1 hx).resolve_left hne⟩
  rintro rfl
  exact absurd (hq x hx) (lt_irrefl _)

/-! ## A request (R99, R101) -/

/-- What becomes of the chime when a pattern is asked for in `s`. -/
def Asked (s : State) (chime : Chime) (p : Pattern) : Prop :=
  let sounds := (s.mode = .startup ∨ s.mode = .run) ∧ s.run.flags.underVoltage = false
  (sounds → (∀ cur, s.run.tu.chime.playing = some cur → cur.pattern.rank < p.rank) →
      chime = { s.run.tu.chime with playing := some { pattern := p, at_ := 0 } }) ∧
    (∀ cur, sounds → s.run.tu.chime.playing = some cur → p.rank ≤ cur.pattern.rank →
      chime.playing = some cur ∧ p ∈ chime.queue ∧ ∀ q, q ≠ p → (q ∈ chime.queue ↔ q ∈ s.run.tu.chime.queue)) ∧
    (s.mode = .startup ∨ s.mode = .run → s.run.flags.underVoltage = true →
      chime.playing = s.run.tu.chime.playing ∧ p ∈ chime.queue) ∧
    (s.mode = .service ∨ s.mode = .shutdown → chime = s.run.tu.chime)

theorem chimeRequest_sounding {p : Pattern} {s : State} (hmode : s.mode = .startup ∨ s.mode = .run)
    (hf : s.run.flags.underVoltage = false) : (chimeRequest p s).run.tu.chime = s.run.tu.chime.request p := by
  unfold chimeRequest
  rw [if_pos hmode, hf]
  rfl

theorem chimeRequest_under {p : Pattern} {s : State} (hmode : s.mode = .startup ∨ s.mode = .run)
    (hf : s.run.flags.underVoltage = true) :
    (chimeRequest p s).run.tu.chime = { s.run.tu.chime with queue := queuePattern p s.run.tu.chime.queue } := by
  unfold chimeRequest
  rw [if_pos hmode, hf]
  rfl

theorem chimeRequest_off {p : Pattern} {s : State} (h : s.mode = .service ∨ s.mode = .shutdown) : chimeRequest p s = s :=
  if_neg (by rcases h with h | h <;> simp [h])

theorem chimeRequest_asked (p : Pattern) (s : State) : Asked s (chimeRequest p s).run.tu.chime p := by
  refine ⟨fun ⟨hmode, hf⟩ hlower => ?_, fun cur ⟨hmode, hf⟩ hcur hrank => ?_, fun hmode hf => ?_, fun hmode => ?_⟩
  · rw [chimeRequest_sounding hmode hf, Chime.request]
    cases hplaying : s.run.tu.chime.playing with
    | none => rfl
    | some cur => exact if_pos (hlower cur hplaying)
  · rw [chimeRequest_sounding hmode hf, Chime.request, hcur]
    dsimp only
    rw [if_neg (by omega)]
    refine ⟨rfl, (mem_queuePattern _ _ _).2 (.inl rfl), fun q hq => ?_⟩
    rw [mem_queuePattern]
    simp [hq]
  · rw [chimeRequest_under hmode hf]
    exact ⟨rfl, (mem_queuePattern _ _ _).2 (.inl rfl)⟩
  · rw [chimeRequest_off hmode]

theorem chimeRequest_eq (p : Pattern) (s : State) :
    chimeRequest p s = { s with run.tu.chime := (chimeRequest p s).run.tu.chime } := by
  obtain ⟨c, -, h⟩ := chimeRequest_step p s
  rw [h]

/-- A request beside a changed Alert List. -/
theorem chimeRequest_beside (p : Pattern) (l : List Alert) (s : State) :
    chimeRequest p { s with run.tu.alerts := l } =
        { s with run.tu.chime := (chimeRequest p { s with run.tu.alerts := l }).run.tu.chime, run.tu.alerts := l } ∧
      Asked s (chimeRequest p { s with run.tu.alerts := l }).run.tu.chime p :=
  ⟨chimeRequest_eq p { s with run.tu.alerts := l }, chimeRequest_asked p { s with run.tu.alerts := l }⟩

/-! ## Escalation (R97) -/

/-- The one entry of a condition. -/
theorem escalating_eq {s : State} {j : Nat} {a : Alert} {e : EscTimer} (hlaw : AlertLaw s.run.tu.alerts)
    (ha : a ∈ s.run.tu.alerts) (hj : a.cond = j) (htimer : a.timer = some e) (hrunning : e.running = true) :
    escalating s j = some a := by
  have hself : (decide (a.cond = j) && match a.timer with | some t => t.running | none => false) = true := by
    simp [hj, htimer, hrunning]
  unfold escalating
  cases hfind : s.run.tu.alerts.find? (fun a => decide (a.cond = j) && match a.timer with
      | some t => t.running
      | none => false) with
  | none => exact absurd hself (List.find?_eq_none.1 hfind a ha)
  | some b =>
    have hb := List.find?_some hfind
    simp only [Bool.and_eq_true, decide_eq_true_eq] at hb
    rw [List.inj_on_of_nodup_map hlaw.2 (List.mem_of_find?_eq_some hfind) ha (hb.1.trans hj.symm)]

theorem exec_escalationExpiry {s : State} (hdue : due s = false) {j : Fin 64} {a : Alert} (ha : escalating s j.val = some a) :
    exec (.escalationExpiry j) s = .next (escalate j.val a s) := by
  calc exec (.escalationExpiry j) s = execEscalationExpiry j s := rfl
    _ = .next (escalate j.val a s) := by rw [execEscalationExpiry, after_of_not_due _ hdue, ha]

theorem anyLevel2_iff (l : List Alert) : anyLevel2 l = true ↔ ∃ x ∈ l, x.level = 2 := by
  simp [anyLevel2]

/-- Settles O41: the tones row by row, the queue's head, and the two expiries of an escalation. -/
theorem chimeAndEscalation : Obligations.ChimeAndEscalation := by
  unfold Obligations.ChimeAndEscalation
  refine ⟨fun s => ⟨fun h => by rw [chimeOutput, h], fun p hp => ?_⟩, fun s hdue => ?_⟩
  · have hout : chimeOutput s = p.pattern.tone p.at_ := by rw [chimeOutput, hp]
    rw [hout]
    refine ⟨fun h => ?_, fun h => ?_, fun h => ?_⟩
    · rw [h]
      exact decide_eq_true_iff
    · rw [h]
      exact decide_eq_true_iff
    · rcases h with h | h
      · rw [h]
        exact decide_eq_true_iff
      · rw [h]
        exact decide_eq_true_iff
  · intro chime
    refine ⟨fun p hp => ⟨fun hrep => ⟨fun hq => ?_, fun hq horder => ?_⟩, fun hrep => ?_⟩, fun j a e c hlaw ha hj htimer hrunning hc => ?_⟩
    · rw [exec_chimePatternEnd hdue hp hrep, endPattern, Chime.next, hq]
    · cases hqueue : chime.queue with
      | nil => exact absurd hqueue hq
      | cons q rest =>
        rw [hqueue] at horder
        obtain ⟨hhighest, hrest⟩ := List.pairwise_cons.1 horder
        refine ⟨q, rest, List.mem_cons_self, fun x hx hne => hhighest x ((List.mem_cons.1 hx).resolve_left hne), hrest,
          fun x => chimeOrder_cons horder, ?_⟩
        rw [exec_chimePatternEnd hdue hp hrep, endPattern, Chime.next, show s.run.tu.chime.queue = q :: rest from hqueue]
    · rw [exec_repeatCycle hdue hp hrep]
      rfl
    · refine ⟨_, exec_escalationExpiry hdue (escalating_eq hlaw ha hj htimer hrunning), ?_⟩
      have hescalation : escalationOf s j.val = c.escalation := by rw [escalationOf, hc]; rfl
      intro entries asks
      refine ⟨fun hlevel => ?_, fun hlevel => ?_⟩
      · have hfirst : escalate j.val a s = chimeRequest .triple { s with
            run.tu.alerts := entries fun x =>
              { x with level := 1, timer := some { left := 1000 * c.escalation, running := true } } } := by
          unfold escalate
          rw [if_pos hlevel, hescalation]
          rfl
        obtain ⟨heq, hasked⟩ := chimeRequest_beside .triple (entries fun x =>
          { x with level := 1, timer := some { left := 1000 * c.escalation, running := true } }) s
        rw [← hfirst] at heq hasked
        exact ⟨heq, hasked⟩
      · have hsecond : escalate j.val a s =
            if anyLevel2 s.run.tu.alerts then { s with run.tu.alerts := entries fun x => { x with level := 2, timer := none } }
            else chimeRequest .rep { s with run.tu.alerts := entries fun x => { x with level := 2, timer := none } } := by
          unfold escalate
          rw [if_neg hlevel]
          rfl
        by_cases hany : ∃ x ∈ s.run.tu.alerts, x.level = 2
        · rw [if_pos ((anyLevel2_iff _).2 hany)] at hsecond
          obtain ⟨x, hx, hx2⟩ := hany
          rw [hsecond]
          exact ⟨rfl, fun _ => rfl, fun h => absurd hx2 (h x hx)⟩
        · rw [if_neg fun h => hany ((anyLevel2_iff _).1 h)] at hsecond
          obtain ⟨heq, hasked⟩ := chimeRequest_beside .rep (entries fun x => { x with level := 2, timer := none }) s
          rw [← hsecond] at heq hasked
          exact ⟨heq, fun h => absurd h hany, fun _ => hasked⟩

/-! ## One evaluation (R63 to R72) -/

/-- R65: the truth that the policy makes of an unknown one; `none` is held open. -/
def resolvedTruth (c : Condition) (truth : Option Bool) : Option Bool :=
  match truth with
  | some t => some t
  | none =>
      match c.policy with
      | .hold => none
      | .forceTrue => some true
      | .forceFalse => some false

/-- Step 3 of R66 with a resolved truth, or one held open. -/
def condResolved (s : State) (c : Condition) (j : Nat) (truth : Option Bool) (r : CondRec) : CondRec :=
  match truth with
  | some t => condMove s c j t r
  | none => condHold r

/-- One evaluation with its sources read: whether the qualifier blocks, the resolved truth, and the truth remembered. -/
def evalResolved (s : State) (c : Condition) (j : Nat) (blocked : Bool) (truth : Option Bool) (m : Bool) (r : CondRec) : CondRec :=
  if blocked then condSuspend { r with remembered := m }
  else
    condResolved s c j truth (if r.state = .suspended then { state := .inactive, remembered := m, timer := none }
      else { r with remembered := m })

theorem evalRec_eq (s : State) (c : Condition) (j : Nat) (r : CondRec) : evalRec s c j r =
    evalResolved s c j (qualifierBlocks s c) (resolvedTruth c (sourceTruth s c r.remembered))
      (remember c (sourceTruth s c r.remembered) r.remembered) r := by
  unfold evalRec evalResolved
  dsimp only
  cases qualifierBlocks s c with
  | true => rfl
  | false =>
    cases sourceTruth s c r.remembered with
    | some t => rfl
    | none =>
      unfold resolvedTruth
      dsimp only
      cases c.policy <;> rfl

/-- R63: the truth remembered reads the source as it was read. -/
theorem sourceTruth_remember (s : State) (c : Condition) (m : Bool) :
    sourceTruth s c (remember c (sourceTruth s c m) m) = sourceTruth s c m := by
  unfold remember
  cases hsource : c.source with
  | above i =>
    simp only [sourceTruth_above hsource]
    cases usableAt s i with
    | none => rfl
    | some v => simp only [Option.map_some, Option.getD_some]; split_ifs <;> rfl
  | below i =>
    simp only [sourceTruth_below hsource]
    cases usableAt s i with
    | none => rfl
    | some v => simp only [Option.map_some, Option.getD_some]; split_ifs <;> rfl
  | unusable i => rfl
  | input n => rfl
  | flag n => rfl
  | stage slot atLeast => rfl

theorem remember_remember (c : Condition) (truth : Option Bool) (m : Bool) :
    remember c truth (remember c truth m) = remember c truth m := by
  unfold remember
  cases c.source <;> cases truth <;> rfl

/-- The latch choice is one of its two outcomes. -/
theorem latchChoice_cases (s : State) (c : Condition) (j : Nat) :
    latchChoice s c j = .latched ∨ latchChoice s c j = .inactive := by
  unfold latchChoice
  split
  · exact .inl rfl
  · exact .inr rfl

/-- A record that a move has left is left by it again. -/
theorem condMove_condMove (s : State) (c : Condition) (j : Nat) (truth : Bool) (r : CondRec) (h : r.state ≠ .suspended) :
    condMove s c j truth (condMove s c j truth r) = condMove s c j truth r := by
  obtain ⟨state, remembered, timer⟩ := r
  cases truth with
  | true =>
    cases state with
    | suspended => exact absurd rfl h
    | inactive =>
      by_cases hdelay : c.onDelay = 0
      · simp [condMove, hdelay]
      · simp [condMove, hdelay]
    | pendingOn => rfl
    | active => rfl
    | pendingOff => rfl
    | latched => rfl
  | false =>
    cases state with
    | suspended => exact absurd rfl h
    | active =>
      by_cases hdelay : c.offDelay = 0
      · rcases latchChoice_cases s c j with hl | hl
        · simp [condMove, hdelay, hl]
        · simp [condMove, hdelay, hl]
      · simp [condMove, hdelay]
    | inactive => rfl
    | pendingOn => rfl
    | pendingOff => rfl
    | latched => rfl

theorem condMove_not_suspended (s : State) (c : Condition) (j : Nat) (truth : Bool) (r : CondRec) (h : r.state ≠ .suspended) :
    (condMove s c j truth r).state ≠ .suspended := by
  unfold condMove
  cases hr : r.state with
  | suspended => exact absurd hr h
  | active =>
    dsimp only
    split
    · simp [hr]
    · split
      · rcases latchChoice_cases s c j with hl | hl <;> simp [hl]
      · simp
  | inactive =>
    dsimp only
    split
    · split <;> simp
    · simp [hr]
  | pendingOn => dsimp only; split <;> simp [hr]
  | pendingOff => dsimp only; split <;> simp [hr]
  | latched => dsimp only; split <;> simp [hr]

theorem condHold_condHold (r : CondRec) : condHold (condHold r) = condHold r := by
  obtain ⟨state, remembered, timer⟩ := r
  cases state <;> rfl

theorem condHold_not_suspended {r : CondRec} (h : r.state ≠ .suspended) : (condHold r).state ≠ .suspended := by
  unfold condHold
  cases hr : r.state with
  | suspended => exact absurd hr h
  | pendingOn => simp
  | pendingOff => simp
  | inactive => simp [hr]
  | active => simp [hr]
  | latched => simp [hr]

/-- R66: a second evaluation with the same sources changes nothing. -/
theorem evalResolved_again (s : State) (c : Condition) (j : Nat) (blocked : Bool) (truth : Option Bool) (m : Bool) (r : CondRec) :
    evalResolved s c j blocked truth m (evalResolved s c j blocked truth m r) = evalResolved s c j blocked truth m r := by
  cases blocked with
  | true =>
    obtain ⟨state, remembered, timer⟩ := r
    cases state <;> rfl
  | false =>
    have hfirst : ∃ r', r'.state ≠ .suspended ∧ r'.remembered = m ∧
        evalResolved s c j false truth m r = condResolved s c j truth r' := by
      refine ⟨if r.state = .suspended then { state := .inactive, remembered := m, timer := none }
        else { r with remembered := m }, ?_, ?_, rfl⟩
      · split
        · simp
        · assumption
      · split <;> rfl
    have hsecond (e : CondRec) (hs : e.state ≠ .suspended) (hm : e.remembered = m) :
        evalResolved s c j false truth m e = condResolved s c j truth e := by
      have hsame : ({ e with remembered := m } : CondRec) = e := by rw [← hm]
      unfold evalResolved
      rw [if_neg hs, hsame]
      rfl
    obtain ⟨r', hstate, hremembered, hr'⟩ := hfirst
    rw [hr']
    cases truth with
    | some t =>
      rw [condResolved, hsecond _ (condMove_not_suspended s c j t r' hstate) (by rw [condMove_remembered]; exact hremembered)]
      exact condMove_condMove s c j t r' hstate
    | none =>
      rw [condResolved, hsecond _ (condHold_not_suspended hstate) (by rw [condHold_remembered]; exact hremembered)]
      exact condHold_condHold r'

theorem evalRec_again (s : State) (c : Condition) (j : Nat) (r : CondRec) :
    evalRec s c j (evalRec s c j r) = evalRec s c j r := by
  have hagain := evalRec_eq s c j (evalRec s c j r)
  rw [evalRec_remembered, sourceTruth_remember, remember_remember] at hagain
  rw [hagain, evalRec_eq s c j r]
  exact evalResolved_again ..

theorem qualifierBlocks_iff (s : State) (c : Condition) :
    qualifierBlocks s c = true ↔ ∃ q, c.qualifier = some q ∧ (condRec s q).state ≠ .active := by
  unfold qualifierBlocks
  cases c.qualifier with
  | none => simp
  | some q => simp

theorem resolvedTruth_some {c : Condition} {truth : Option Bool} {b : Bool}
    (h : truth = some b ∨ (truth = none ∧ c.policy = if b then .forceTrue else .forceFalse)) :
    resolvedTruth c truth = some b := by
  rcases h with rfl | ⟨rfl, hp⟩
  · rfl
  · unfold resolvedTruth
    rw [hp]
    cases b <;> rfl

theorem resolvedTruth_open {c : Condition} {truth : Option Bool} (h : truth = none ∧ c.policy = .hold) :
    resolvedTruth c truth = none := by
  obtain ⟨rfl, hp⟩ := h
  unfold resolvedTruth
  rw [hp]

/-! ## The Alert List after a change (R93, R94) -/

theorem dropFirst_split {α : Type} {p : α → Bool} {ahead behind : List α} {x : α} (hx : p x = true)
    (hahead : ∀ a ∈ ahead, p a = false) :
    (ahead ++ x :: behind).find? p = some x ∧ dropFirst p (ahead ++ x :: behind) = ahead ++ behind := by
  induction ahead with
  | nil => simp [dropFirst, hx]
  | cons a ahead ih =>
    obtain ⟨hfind, hdrop⟩ := ih fun b hb => hahead b (List.mem_cons_of_mem _ hb)
    have ha := hahead a List.mem_cons_self
    rw [List.cons_append, List.find?_cons, ha, dropFirst, ha]
    exact ⟨hfind, congrArg (a :: ·) hdrop⟩

section Entering

variable {c : Condition} {j : Nat} {paused : Bool} {l : List Alert}

/-- R93, case 1: the condition's own entry moves to the tail. -/
theorem alertEnter_own {ahead behind : List Alert} {x : Alert} (hl : l = ahead ++ x :: behind) (hx : x.cond = j)
    (hothers : ∀ a ∈ ahead ++ behind, a.cond ≠ j) :
    alertEnter c j paused l = (ahead ++ behind ++ [newAlert c j paused], none) := by
  have hany : l.any (fun a => decide (a.cond = j)) = true :=
    List.any_eq_true.2 ⟨x, by rw [hl]; simp, by simpa using hx⟩
  have hkept : l.filter (fun a => decide (a.cond ≠ j)) = ahead ++ behind := by
    rw [hl, List.filter_append, List.filter_cons_of_neg (by simp [hx]), ← List.filter_append]
    exact List.filter_eq_self.2 fun a ha => by simpa using hothers a ha
  unfold alertEnter
  dsimp only
  rw [if_pos hany, hkept]

theorem alertEnter_room (hnew : ∀ a ∈ l, a.cond ≠ j) (hroom : l.length < 16) :
    alertEnter c j paused l = (l ++ [newAlert c j paused], none) := by
  unfold alertEnter
  dsimp only
  rw [if_neg (by simpa using hnew)]
  exact if_pos hroom

/-- R93, case 3: the oldest acknowledged entry is evicted. -/
theorem alertEnter_acked {ahead behind : List Alert} {x : Alert} (hnew : ∀ a ∈ l, a.cond ≠ j) (hfull : 16 ≤ l.length)
    (hl : l = ahead ++ x :: behind) (hx : x.acked = true) (hahead : ∀ a ∈ ahead, a.acked = false) :
    alertEnter c j paused l = (ahead ++ behind ++ [newAlert c j paused], some x.cond) := by
  obtain ⟨hfind, hdrop⟩ := dropFirst_split (p := Alert.acked) (behind := behind) hx hahead
  rw [← hl] at hfind hdrop
  unfold alertEnter
  dsimp only
  rw [if_neg (by simpa using hnew), if_neg (by simpa [Config.alertCapacity] using hfull), hfind, hdrop]

theorem alertEnter_unacked (hnew : ∀ a ∈ l, a.cond ≠ j) (hfull : 16 ≤ l.length) (hnone : ∀ a ∈ l, a.acked = false) :
    alertEnter c j paused l =
      if c.severity = .alarm then
        match l.find? (fun a => decide (a.severity = .warn)) with
        | some old => (dropFirst (fun a => decide (a.severity = .warn)) l ++ [newAlert c j paused], some old.cond)
        | none => (l, none)
      else (l, none) := by
  have hfind : l.find? Alert.acked = none := List.find?_eq_none.2 fun a ha => by simp [hnone a ha]
  unfold alertEnter
  dsimp only
  rw [if_neg (by simpa using hnew), if_neg (by simpa [Config.alertCapacity] using hfull), hfind] <;> rfl

/-- R93, case 4: for an ALARM the oldest WARN entry is evicted. -/
theorem alertEnter_warn {ahead behind : List Alert} {x : Alert} (hnew : ∀ a ∈ l, a.cond ≠ j) (hfull : 16 ≤ l.length)
    (hnone : ∀ a ∈ l, a.acked = false) (hc : c.severity = .alarm) (hl : l = ahead ++ x :: behind) (hx : x.severity = .warn)
    (hahead : ∀ a ∈ ahead, a.severity ≠ .warn) :
    alertEnter c j paused l = (ahead ++ behind ++ [newAlert c j paused], some x.cond) := by
  obtain ⟨hfind, hdrop⟩ := dropFirst_split (p := fun a : Alert => decide (a.severity = .warn)) (behind := behind)
    (decide_eq_true hx) fun a ha => decide_eq_false (hahead a ha)
  rw [← hl] at hfind hdrop
  rw [alertEnter_unacked hnew hfull hnone, if_pos hc, hfind, hdrop]

/-- R93, case 5: there is no entry. -/
theorem alertEnter_dropped (hnew : ∀ a ∈ l, a.cond ≠ j) (hfull : 16 ≤ l.length) (hnone : ∀ a ∈ l, a.acked = false)
    (h : c.severity ≠ .alarm ∨ ∀ a ∈ l, a.severity ≠ .warn) : alertEnter c j paused l = (l, none) := by
  rw [alertEnter_unacked hnew hfull hnone]
  split
  · next hc =>
    have hfind : l.find? (fun a => decide (a.severity = .warn)) = none :=
      List.find?_eq_none.2 fun a ha => by simpa using h.resolve_left (not_not_intro hc) a ha
    rw [hfind]
  · rfl

end Entering

theorem alertChange_activation {s : State} {c : Condition} {j : Nat} {old now : CondState} (hnow : now = .active)
    (hold : old ≠ .pendingOff) : alertChange s c j old now =
      if c.announce then alertEnter c j (decide (s.mode = .shutdown)) s.run.tu.alerts else (s.run.tu.alerts, none) :=
  if_pos (by simp [isActivation, hnow, hold])

theorem alertChange_deactivation {s : State} {c : Condition} {j : Nat} {old now : CondState}
    (hold : old = .active ∨ old = .pendingOff ∨ old = .latched) (hnow : now = .inactive ∨ now = .suspended) :
    alertChange s c j old now = (alertLeave j s.run.tu.alerts, none) := by
  have hactivation : isActivation old now = false := by rcases hnow with rfl | rfl <;> rfl
  have hdeactivation : isDeactivation old now = true := by
    have hlights : old.lights = true := by rcases hold with rfl | rfl | rfl <;> rfl
    simp [isDeactivation, hlights, hnow]
  unfold alertChange
  dsimp only
  rw [hactivation, hdeactivation]
  rfl

/-- Settles O42: R93 and R94 case by case, then the tables of one evaluation and its repetition. -/
theorem conditionTransitions : Obligations.ConditionTransitions := by
  unfold Obligations.ConditionTransitions
  refine ⟨fun s c j old now hc => ?_, fun s c j r => ?_⟩
  · intro l e gives new
    have hentry : newAlert c j (decide (s.mode = .shutdown)) = e := by
      simp only [newAlert, escStart, ← decide_not]
      rfl
    have hgives {l' : List Alert} {evicted : Option Nat} (h : alertChange s c j old now = (l', evicted)) : gives l' evicted := by
      obtain ⟨halerts, hevicted⟩ := telltaleChange_alerts hc old now
      exact ⟨halerts.trans (by rw [h]), hevicted.trans (by rw [h])⟩
    refine ⟨fun hnow hold hannounce => ?_, fun hnow hold hannounce => ?_, fun hold hnow => ?_⟩
    · have henter {l' : List Alert} {evicted : Option Nat}
          (h : alertEnter c j (decide (s.mode = .shutdown)) l = (l', evicted)) : gives l' evicted :=
        hgives (by rw [alertChange_activation hnow hold, if_pos hannounce]; exact h)
      rw [← hentry]
      exact ⟨fun _ _ _ hl hx hothers => henter (alertEnter_own hl hx hothers),
        fun hnew hroom => henter (alertEnter_room hnew hroom),
        fun hnew hfull => ⟨fun _ _ _ hl hx hahead => henter (alertEnter_acked hnew hfull hl hx hahead),
          fun hnone => ⟨fun _ _ _ halarm hl hx hahead => henter (alertEnter_warn hnew hfull hnone halarm hl hx hahead),
            fun h => henter (alertEnter_dropped hnew hfull hnone h)⟩⟩⟩
    · exact hgives (by rw [alertChange_activation hnow hold, if_neg (by simp [hannounce])])
    · have hleave : alertLeave j l = l.filterMap fun a =>
          if a.cond ≠ j then some a
          else if a.acked = false ∧ a.severity = .alarm then some { a with level := 0, timer := none }
          else none := by
        unfold alertLeave
        refine List.filterMap_congr fun a _ => ?_
        by_cases ha : a.cond = j
        · rw [if_pos ha, if_neg (not_not_intro ha)]
        · rw [if_neg ha, if_pos ha]
      rw [← hleave]
      exact hgives (alertChange_deactivation hold hnow)
  · intro e blocked truth held open_ becomes keeps leaves off
    have heval : e = evalResolved s c j (qualifierBlocks s c) (resolvedTruth c truth) (remember c truth r.remembered) r :=
      evalRec_eq s c j r
    have hlatch : latchChoice s c j =
        if c.latch = true ∧ ∃ a ∈ s.run.tu.alerts, a.cond = j ∧ a.acked = false then .latched else .inactive := by
      unfold latchChoice
      simp only [hasUnacked_iff]
    refine ⟨fun hblocked => ?_, fun hfree => ⟨fun hheld => ?_, fun hheld => ?_, fun hopen => ?_⟩, evalRec_again s c j r⟩
    · rw [(qualifierBlocks_iff s c).2 hblocked] at heval
      simp only [becomes, keeps]
      rw [heval]
      obtain ⟨state, remembered, timer⟩ := r
      cases state <;> simp [evalResolved, condSuspend]
    all_goals
      rw [Bool.eq_false_iff.2 fun h => hfree ((qualifierBlocks_iff s c).1 h)] at heval
    · rw [resolvedTruth_some hheld] at heval
      simp only [becomes, keeps, off]
      rw [heval]
      generalize remember c truth r.remembered = m
      obtain ⟨state, remembered, timer⟩ := r
      cases state <;> simp +contextual [evalResolved, condResolved, condMove]
    · rw [resolvedTruth_some hheld] at heval
      simp only [becomes, keeps, off, leaves]
      rw [heval, ← hlatch]
      generalize remember c truth r.remembered = m
      obtain ⟨state, remembered, timer⟩ := r
      cases state <;> simp +contextual [evalResolved, condResolved, condMove]
    · rw [resolvedTruth_open hopen] at heval
      simp only [becomes, keeps, off]
      rw [heval]
      generalize remember c truth r.remembered = m
      obtain ⟨state, remembered, timer⟩ := r
      cases state <;> simp [evalResolved, condResolved, condHold]

end Sys2Proof.Machine
end

section
/-! PROOFS. What the delay, mismatch and shutdown timers do at their expiry (R67, R68, R126, R170). -/

namespace Sys2Proof.Machine

/-! ## The lamps after a condition change (R83) -/

theorem setAlerts_lamps (l : List Alert) (s : State) : (setAlerts l s).run.tu.lamps = s.run.tu.lamps := by
  rw [setAlerts_eq]

theorem chimeOf_lamps (c : Condition) (old now : CondState) (s : State) : (chimeOf c old now s).run.tu.lamps = s.run.tu.lamps := by
  unfold chimeOf
  split
  · split
    · rfl
    · rw [chimeRequest_eq]
    · rw [chimeRequest_eq]
  · rfl

/-- A lamp's view and request after a condition change are those that the change makes. -/
theorem telltaleChange_view {s : State} {j : Nat} {c : Condition} (hc : condAt s j = some c) (old now : CondState) {n : Nat}
    {r : LampRec} (hr : (telltaleChange j old now s).1.run.tu.lamps[n]? = some r) :
    ∃ a, s.run.tu.lamps[n]? = some a ∧ SameView { lampChange s j now n a with alarmBlink := r.alarmBlink } r := by
  unfold telltaleChange at hr
  rw [hc] at hr
  dsimp only at hr
  rw [(telltaleIfChanged_still _ _).lamps, driveLamps] at hr
  dsimp only at hr
  rw [mapFrom_getElem?, refreshBlink] at hr
  dsimp only at hr
  rw [List.getElem?_map, chimeOf_lamps, setAlerts_lamps] at hr
  dsimp only at hr
  rw [mapFrom_getElem?] at hr
  cases ha : s.run.tu.lamps[n]? with
  | none =>
    rw [ha] at hr
    cases hr
  | some a =>
    rw [ha] at hr
    simp only [Option.map_some, Option.some.injEq, Nat.zero_add] at hr
    subst hr
    exact ⟨a, rfl, rfl, rfl, rfl⟩

theorem viewWith_getLsbD (view : BitVec 64) {j k : Nat} (hk : k < 64) (member : Bool) :
    (viewWith view j member).getLsbD k = if k = j then member else view.getLsbD k := by
  unfold viewWith
  by_cases h : k = j
  · subst h
    cases member <;> simp [hk]
  · have hbit : (1#64 <<< j).getLsbD k = false := by
      rw [BitVec.getLsbD_shiftLeft]
      simp only [hk, decide_true, Bool.true_and, BitVec.getLsbD_one]
      rcases Nat.lt_or_ge k j with hlt | hge
      · simp [hlt]
      · simp only [Nat.not_lt.2 hge, decide_false, Bool.not_false, Bool.true_and]
        simp only [show k - j ≠ 0 by omega, decide_false, Bool.and_false]
    cases member
    · rw [if_neg (by simp), if_neg h, BitVec.getLsbD_and, BitVec.getLsbD_not, hbit]
      simp [hk]
    · rw [if_pos rfl, if_neg h]
      simp [hbit]

/-- The lamps that watch condition j show it. -/
def Shows (j : Nat) (s : State) : Prop := ∀ (n : Nat) (l : Lamp) (r : LampRec), lampAt s n = some l →
  l.mask.getLsbD j = true → s.run.tu.lamps[n]? = some r → r.requested = true ∧ r.view.getLsbD j = true

theorem requested_of_bit {view : BitVec 64} {j : Nat} (h : view.getLsbD j = true) : decide (view ≠ 0#64) = true := by
  refine decide_eq_true fun hzero => ?_
  rw [hzero] at h
  simp at h

/-- A change of condition `k` to a state that lights shows it. -/
theorem lampChange_shows {s : State} {j : Nat} (hj : j < 64) {now : CondState} (hnow : now.lights = true) {n : Nat} {l : Lamp}
    (hl : lampAt s n = some l) (hmask : l.mask.getLsbD j = true) (r : LampRec) :
    (lampChange s j now n r).requested = true ∧ (lampChange s j now n r).view.getLsbD j = true := by
  have hbit : (viewWith r.view j now.lights).getLsbD j = true := by rw [viewWith_getLsbD _ hj, if_pos rfl, hnow]
  unfold lampChange
  rw [hl]
  dsimp only
  rw [if_pos hmask]
  exact ⟨requested_of_bit hbit, hbit⟩

/-- A change of another condition leaves what shows condition j. -/
theorem lampChange_other {s : State} {j k : Nat} (hj : j < 64) (hk : k ≠ j) (now : CondState) (n : Nat) {r : LampRec}
    (hr : r.requested = true ∧ r.view.getLsbD j = true) :
    (lampChange s k now n r).requested = true ∧ (lampChange s k now n r).view.getLsbD j = true := by
  unfold lampChange
  split
  · split
    · have hbit : (viewWith r.view k now.lights).getLsbD j = true := by
        rw [viewWith_getLsbD _ hj, if_neg fun h => hk h.symm]
        exact hr.2
      exact ⟨requested_of_bit hbit, hbit⟩
    · exact hr
  · exact hr

/-! ## A condition that the cascade does not come back to -/

/-- The task is about condition j. -/
def Task.of : Task → Nat
  | .evaluate j => j
  | .release j => j
  | .changed j _ _ => j

/-- Condition j, without a qualifier, stands at `r`, which is not LATCHED; its lamps show it when `r` lights them. -/
structure Settled (j : Nat) (c : Condition) (r : CondRec) (s : State) : Prop where
  descriptor : condAt s j = some c
  record : condRec s j = r
  shows : r.state.lights = true → Shows j s

section Settles

variable {j : Nat} {c : Condition} {r : CondRec} (hj : j < 64) (hfree : c.qualifier = none) (hr : r.state ≠ .latched)

theorem Settled.evaluated {s : State} (hs : Settled j c r s) {k : Nat} (hk : k ≠ j) (base : CondRec → CondRec) :
    Settled j c r (evaluateFrom s k base).1 ∧ ∀ t ∈ (evaluateFrom s k base).2, t.of ≠ j := by
  unfold evaluateFrom
  split
  · exact ⟨hs, nofun⟩
  · split
    · refine ⟨⟨hs.descriptor, (condRec_put_ne hk _).trans hs.record, hs.shows⟩, fun t ht => ?_⟩
      dsimp only at ht
      split at ht
      · cases ht
      · rw [List.mem_singleton] at ht
        rw [ht]
        exact hk
    · exact ⟨hs, nofun⟩

include hj in
theorem Settled.changed {s : State} (hs : Settled j c r s) {k : Nat} (hk : k ≠ j) (old now : CondState) :
    Settled j c r (telltaleChange k old now s).1 := by
  have htables := (telltaleChange_frame k old now s).tables
  refine ⟨by rw [condAt, htables, ← condAt]; exact hs.descriptor, by rw [condRec, telltaleChange_cu, ← condRec]; exact hs.record,
    fun hlights n l rec hl hmask hrec => ?_⟩
  rw [lampAt, htables, ← lampAt] at hl
  cases hc : condAt s k with
  | none =>
    have hsame : (telltaleChange k old now s).1 = s := by unfold telltaleChange; rw [hc]
    rw [hsame] at hrec
    exact hs.shows hlights n l rec hl hmask hrec
  | some d =>
    obtain ⟨a, ha, hview, hrequested, -⟩ := telltaleChange_view hc old now hrec
    obtain ⟨hreq, hbit⟩ := lampChange_other (s := s) hj hk now n (hs.shows hlights n l a hl hmask ha)
    exact ⟨hrequested.trans hreq, hview ▸ hbit⟩

include hr in
theorem Settled.evicted {s : State} (hs : Settled j c r s) (evicted : Option Nat) :
    Settled j c r (releaseEvicted evicted s).1 ∧ ∀ t ∈ (releaseEvicted evicted s).2, t.of ≠ j := by
  unfold releaseEvicted
  split
  · next k =>
    split
    · next hlatched =>
      refine hs.evaluated (fun hkj => ?_) unlatch
      rw [hkj, hs.record] at hlatched
      exact hr hlatched
    · exact ⟨hs, nofun⟩
  · exact ⟨hs, nofun⟩

include hfree in
theorem Settled.watchers_of {s : State} (hs : Settled j c r s) (k : Nat) :
    ∀ t ∈ watchers s (fun c => decide (c.qualifier = some k)), t.of ≠ j := by
  intro t ht hof
  obtain ⟨m, hm, hsome⟩ := List.mem_filterMap.1 ht
  split at hsome
  · next d hd =>
    split at hsome
    · next hq =>
      cases hsome
      have hmj : m = j := hof
      subst hmj
      rw [hs.descriptor] at hd
      cases hd
      dsimp only at hq
      rw [hfree] at hq
      simp at hq
    · cases hsome
  · cases hsome

include hj hfree hr in
/-- What follows a change of `k`: the release it causes and the conditions qualified by it. -/
theorem Settled.taken {s : State} (hs : Settled j c r s) {t : Task} (ht : t.of ≠ j) :
    Settled j c r (takeTask t s).1 ∧ ∀ u ∈ (takeTask t s).2, u.of ≠ j := by
  cases t with
  | evaluate k => exact hs.evaluated ht id
  | release k => exact hs.evaluated ht unlatch
  | changed k old now =>
    obtain ⟨hreleased, hcaused⟩ := (hs.changed hj ht old now).evicted hr (telltaleChange k old now s).2
    refine ⟨hreleased, fun u hu => ?_⟩
    rcases List.mem_append.1 hu with h | h
    · exact hcaused u h
    · exact hreleased.watchers_of hfree k u h

include hj hfree hr in
theorem Settled.cascaded {fuel : Nat} {ts : List Task} {s : State} (hs : Settled j c r s) (hts : ∀ t ∈ ts, t.of ≠ j) :
    Settled j c r (cascade fuel ts s) := by
  induction fuel generalizing ts s with
  | zero => exact hs
  | succ n ih =>
    cases ts with
    | nil => exact hs
    | cons t ts =>
      obtain ⟨htaken, hcaused⟩ := hs.taken hj hfree hr (hts t List.mem_cons_self)
      refine ih htaken fun u hu => ?_
      rcases List.mem_append.1 hu with h | h
      · exact hcaused u h
      · exact hts u (List.mem_cons_of_mem _ h)

include hj hfree hr in
/-- R67, R68: after the change that a delay's expiry makes, the record stands and its lamps show it. -/
theorem settled_changeCondition {s : State} (hc : condAt s j = some c) (hlen : j < s.run.cu.recs.length)
    (hchange : (condRec s j).state ≠ r.state) : Settled j c r (changeCondition j r s) := by
  have hput : condRec (putCondRec s j r) j = r := (condRec_put s j r j).trans (if_pos ⟨rfl, hlen⟩)
  have hfirst : Settled j c r (telltaleChange j (condRec s j).state r.state (putCondRec s j r)).1 := by
    have htables := (telltaleChange_frame j (condRec s j).state r.state (putCondRec s j r)).tables
    refine ⟨by rw [condAt, htables]; exact hc, by rw [condRec, telltaleChange_cu, ← condRec]; exact hput,
      fun hlights n l rec hl hmask hrec => ?_⟩
    rw [lampAt, htables] at hl
    obtain ⟨a, -, hview, hrequested, -⟩ := telltaleChange_view (s := putCondRec s j r) hc _ _ hrec
    obtain ⟨hreq, hbit⟩ := lampChange_shows (s := putCondRec s j r) hj hlights hl hmask a
    exact ⟨hrequested.trans hreq, hview ▸ hbit⟩
  obtain ⟨hreleased, hcaused⟩ := hfirst.evicted hr (telltaleChange j (condRec s j).state r.state (putCondRec s j r)).2
  have hrun : changeCondition j r s = cascade (Config.cascadeBound - 1)
      ((takeTask (.changed j (condRec s j).state r.state) (putCondRec s j r)).2 ++ [])
      (takeTask (.changed j (condRec s j).state r.state) (putCondRec s j r)).1 := by
    unfold changeCondition
    dsimp only
    rw [if_neg hchange]
    rfl
  rw [hrun]
  refine Settled.cascaded hj hfree hr hreleased fun t ht => ?_
  rw [List.append_nil] at ht
  rcases List.mem_append.1 ht with h | h
  · exact hcaused t h
  · exact hreleased.watchers_of hfree j t h

end Settles

/-! ## The expiries -/

theorem exec_conditionDelayExpiry {s : State} (hdue : due s = false) {j : Fin 64} {c : Condition} {r : CondRec}
    (hc : condAt s j.val = some c) (hr : delayExpired s j.val c = some r) :
    exec (.conditionDelayExpiry j) s = .next (changeCondition j.val r s) := by
  calc exec (.conditionDelayExpiry j) s = execConditionDelayExpiry j s := rfl
    _ = .next (changeCondition j.val r s) := by
      rw [execConditionDelayExpiry, after_of_not_due _ hdue, hc]
      dsimp only
      rw [hr]

theorem condRec_of_getElem? {s : State} {j : Nat} {r : CondRec} (h : s.run.cu.recs[j]? = some r) : condRec s j = r := by
  rw [condRec, List.getD_eq_getElem?_getD, h]
  rfl

theorem delayExpired_on {s : State} {j : Nat} {c : Condition} {r : CondRec} {d : Delay} (hr : condRec s j = r)
    (hd : r.timer = some d) (hstate : r.state = .pendingOn) :
    delayExpired s j c = some { r with state := .active, timer := none } := by
  unfold delayExpired
  rw [hr]
  dsimp only
  rw [hstate, hd]

theorem delayExpired_off {s : State} {j : Nat} {c : Condition} {r : CondRec} {d : Delay} (hr : condRec s j = r)
    (hd : r.timer = some d) (hstate : r.state = .pendingOff) :
    delayExpired s j c = some { r with state := latchChoice s c j, timer := none } := by
  unfold delayExpired
  rw [hr]
  dsimp only
  rw [hstate, hd]

/-- An on-delay's expiry that evicts nothing and that no condition waits for. -/
theorem changeCondition_entered {s : State} {j : Nat} {c : Condition} {r : CondRec} (hc : condAt s j = some c)
    (hold : (condRec s j).state = .pendingOn) (hr : r.state = .active) (hannounce : c.announce = true)
    (hroom : s.run.tu.alerts.length < 16) (hnew : ∀ a ∈ s.run.tu.alerts, a.cond ≠ j)
    (hqual : ∀ k c', condAt s k = some c' → c'.qualifier ≠ some j) :
    (changeCondition j r s).run.tu.alerts = s.run.tu.alerts ++ [newAlert c j (decide (s.mode = .shutdown))] := by
  have hchange : alertChange (putCondRec s j r) c j .pendingOn .active =
      (s.run.tu.alerts ++ [newAlert c j (decide (s.mode = .shutdown))], none) := by
    rw [alertChange_activation rfl (by simp), if_pos hannounce]
    exact alertEnter_room hnew hroom
  obtain ⟨halerts, hevicted⟩ := telltaleChange_alerts (s := putCondRec s j r) hc .pendingOn .active
  rw [hchange] at halerts hevicted
  have htables := (telltaleChange_frame j .pendingOn .active (putCondRec s j r)).tables
  have hwatch : watchers (telltaleChange j .pendingOn .active (putCondRec s j r)).1 (fun c => decide (c.qualifier = some j)) = [] :=
    watchers_none fun k c' hc' => decide_eq_false (hqual k c' (by rw [condAt, htables] at hc'; exact hc'))
  have htaken : takeTask (.changed j .pendingOn .active) (putCondRec s j r) =
      ((telltaleChange j .pendingOn .active (putCondRec s j r)).1, []) := by
    unfold takeTask releaseEvicted
    dsimp only
    rw [hevicted]
    dsimp only
    rw [hwatch]
    rfl
  unfold changeCondition
  dsimp only
  rw [hold, hr, if_neg (by simp), runTasks_single (by rw [htaken]), htaken]
  exact halerts

theorem exec_speedMismatchExpiry {s : State} (hdue : due s = false) (h : s.run.mismatch.isSome = true) :
    exec .speedMismatchExpiry s = .next (flagChange .speedMismatch true { s with run.mismatch := none }) := by
  calc exec .speedMismatchExpiry s = execSpeedMismatchExpiry s := rfl
    _ = .next (flagChange .speedMismatch true { s with run.mismatch := none }) := by
      rw [execSpeedMismatchExpiry, after_of_not_due _ hdue, if_pos h]

theorem exec_shutdownTimerExpiry {s : State} (hdue : due s = false) (hmode : s.mode = .shutdown)
    (h : s.shutdownTimer.isSome = true) : exec .shutdownTimerExpiry s = .next (enterStandby s) := by
  calc exec .shutdownTimerExpiry s = execShutdownTimerExpiry s := rfl
    _ = .next (enterStandby s) := by rw [execShutdownTimerExpiry, after_of_not_due _ hdue, if_pos ⟨hmode, h⟩]

/-- Settles O43: the cascade never comes back to a condition without a qualifier that is not LATCHED. -/
theorem timersTakeEffect : Obligations.TimersTakeEffect := by
  unfold Obligations.TimersTakeEffect
  intro s hdue
  refine ⟨fun j c r d hc hr hd hfree => ?_, fun h => ⟨_, exec_speedMismatchExpiry hdue h, flagChange_frame _ _ _⟩,
    fun hmode h => exec_shutdownTimerExpiry hdue hmode h⟩
  have hrec := condRec_of_getElem? hr
  have hlen : j.val < s.run.cu.recs.length := (List.getElem?_eq_some_iff.1 hr).1
  refine ⟨fun hstate => ?_, fun hstate hannounce hroom hnew hqual => ?_, fun hstate => ?_⟩
  · have hsettled := settled_changeCondition (r := { r with state := .active, timer := none }) j.isLt hfree (by simp) hc hlen
      (by rw [hrec, hstate]; simp)
    refine ⟨_, exec_conditionDelayExpiry hdue hc (delayExpired_on hrec hd hstate), changeCondition_frame .., hsettled.record,
      fun n l rec hl => hsettled.shows rfl n l rec ?_⟩
    rw [lampAt, (changeCondition_frame ..).tables]
    exact hl
  · refine ⟨_, exec_conditionDelayExpiry hdue hc (delayExpired_on hrec hd hstate), ?_⟩
    rw [changeCondition_entered hc (by rw [hrec, hstate]) rfl hannounce hroom hnew hqual]
    simp only [newAlert, escStart, ← decide_not]
  · refine ⟨_, exec_conditionDelayExpiry hdue hc (delayExpired_off hrec hd hstate), changeCondition_frame .., fun hend => ?_⟩
    have hlatch : latchChoice s c j.val = .inactive := by
      unfold latchChoice
      refine if_neg fun ⟨hl, hu⟩ => ?_
      rcases hend with h | h
      · rw [h] at hl
        cases hl
      · rw [h] at hu
        cases hu
    rw [hlatch]
    exact (settled_changeCondition (r := { r with state := .inactive, timer := none }) j.isLt hfree (by simp) hc hlen
      (by rw [hrec, hstate]; simp)).record

end Sys2Proof.Machine
end

section
/-! PROOFS. The ignition input's samples, and what a start from STANDBY and from SHUTDOWN does (R133, R160, R170). -/

namespace Sys2Proof.Machine

/-! ## The samples of DIN0 (R133) -/

/-- Samples of this level raise the count of the ignition input. -/
def Counting (d : Din0) (b : Bool) : Prop :=
  match d.level with
  | .undecided => d.count = 0 ∨ d.last = b
  | .active => b = false
  | .inactive => b = true

/-- What the Mode Controller is told when the count is complete. -/
def ignitionRaised (l : Ignition) (b : Bool) : IgnitionEvent :=
  match l with
  | .undecided => .finding b
  | .active => .off
  | .inactive => .on

def decidedLevel (b : Bool) : Ignition := if b then .active else .inactive

theorem din0Sample_counting {d : Din0} {b : Bool} (h : Counting d b) (hcount : d.count + 1 < 80) :
    din0Sample d b = ({ d with count := d.count + 1, last := b }, none) := by
  obtain ⟨level, count, last⟩ := d
  cases level with
  | undecided =>
    have hnext : (if count ≠ 0 ∧ b = last then count + 1 else 1) = count + 1 := by
      rcases h with h | h
      · simp_all
      · simp_all
    unfold din0Sample
    dsimp only
    rw [hnext, if_pos (show count + 1 < debounceNumber true from hcount)]
  | active =>
    obtain rfl : b = false := h
    exact if_pos hcount
  | inactive =>
    obtain rfl : b = true := h
    exact if_pos hcount

theorem din0Sample_completing {d : Din0} {b : Bool} (h : Counting d b) (hcount : d.count + 1 = 80) :
    din0Sample d b = ({ level := decidedLevel b, count := 0, last := b }, some (ignitionRaised d.level b)) := by
  obtain ⟨level, count, last⟩ := d
  have hnot : ¬ count + 1 < debounceNumber true := not_lt.2 (le_of_eq hcount.symm)
  cases level with
  | undecided =>
    have hnext : (if count ≠ 0 ∧ b = last then count + 1 else 1) = count + 1 := by
      dsimp only at hcount
      rcases h with h | h
      · simp_all
      · simp_all
    unfold din0Sample
    dsimp only
    rw [hnext, if_neg hnot, decidedLevel, ignitionRaised]
  | active =>
    obtain rfl : b = false := h
    exact if_neg hnot
  | inactive =>
    obtain rfl : b = true := h
    exact if_neg hnot

theorem Counting.counted {d : Din0} {b : Bool} (h : Counting d b) (n : Nat) :
    Counting { d with count := n, last := b } b := by
  obtain ⟨level, count, last⟩ := d
  cases level with
  | undecided => exact .inr rfl
  | active => exact h
  | inactive => exact h

/-- Samples short of the eightieth only count. -/
theorem ignitionSamples_counting {s : State} {b : Bool} (h : Counting s.din0 b) {k : Nat} (hk : s.din0.count + (k + 1) < 80) :
    ignitionSamples (List.replicate (k + 1) b) s =
      { s with din0 := { s.din0 with count := s.din0.count + (k + 1), last := b } } := by
  have hone {t : State} (ht : Counting t.din0 b) (hc : t.din0.count + 1 < 80) :
      ignitionSample t b = { t with din0 := { t.din0 with count := t.din0.count + 1, last := b } } := by
    rw [ignitionSample, din0Sample_counting ht hc]
  unfold ignitionSamples
  induction k with
  | zero => exact hone h hk
  | succ k ih =>
    rw [List.replicate_succ', List.foldl_append, ih (by omega), List.foldl_cons, List.foldl_nil,
      hone (h.counted _) (by dsimp only; omega)]
    rfl

/-- The eightieth sample is the finding or the edge. -/
theorem ignitionSamples_completing {s : State} {b : Bool} (h : Counting s.din0 b) (hcount : s.din0.count < 80) :
    ignitionSamples (List.replicate (80 - s.din0.count) b) s =
      ignitionEvent (ignitionRaised s.din0.level b) { s with din0 := { level := decidedLevel b, count := 0, last := b } } := by
  have hone {t : State} (ht : Counting t.din0 b) (hc : t.din0.count + 1 = 80) :
      ignitionSample t b =
        ignitionEvent (ignitionRaised t.din0.level b) { t with din0 := { level := decidedLevel b, count := 0, last := b } } := by
    rw [ignitionSample, din0Sample_completing ht hc]
  obtain ⟨k, hk⟩ : ∃ k, 80 - s.din0.count = k + 1 := ⟨79 - s.din0.count, by omega⟩
  rw [hk]
  cases k with
  | zero => exact hone h (by omega)
  | succ k =>
    have hbefore := ignitionSamples_counting h (k := k) (by omega)
    unfold ignitionSamples at hbefore ⊢
    rw [List.replicate_succ', List.foldl_append, hbefore, List.foldl_cons, List.foldl_nil,
      hone (h.counted _) (by dsimp only; omega)]

/-- Samples short of the eightieth: the level stays and the count rises. -/
theorem ignitionSamples_short {s : State} {b : Bool} (h : Counting s.din0 b) {k : Nat} (hk : s.din0.count + k < 80) :
    ∃ last, ignitionSamples (List.replicate k b) s =
      { s with din0 := { level := s.din0.level, count := s.din0.count + k, last := last } } := by
  cases k with
  | zero => exact ⟨s.din0.last, rfl⟩
  | succ k => exact ⟨b, ignitionSamples_counting h hk⟩

/-! ## The commands of the samples -/

section
variable {s : State} {k : Nat} {b : Bool} (hdue : due s = false) (hk : k ≤ 80)
include hdue hk

theorem exec_ignitionOn (hlevel : s.din0.level = .inactive) :
    exec (.ignitionOn (List.replicate k b)) s = .next (ignitionSamples (List.replicate k b) s) := by
  have hwf : Instr.wellFormed (.ignitionOn (List.replicate k b)) = true := by
    simpa [Instr.wellFormed, maxSamples] using hk
  calc exec (.ignitionOn (List.replicate k b)) s = execIgnitionOn (List.replicate k b) s := rfl
    _ = .next (ignitionSamples (List.replicate k b) s) := by
      rw [execIgnitionOn, answerIf, if_pos hwf, after_of_not_due _ hdue, if_pos hlevel]

theorem exec_ignitionFinding (hlevel : s.din0.level = .undecided) :
    exec (.ignitionFinding (List.replicate k b)) s = .next (ignitionSamples (List.replicate k b) s) := by
  have hwf : Instr.wellFormed (.ignitionFinding (List.replicate k b)) = true := by
    simpa [Instr.wellFormed, maxSamples] using hk
  calc exec (.ignitionFinding (List.replicate k b)) s = execIgnitionFinding (List.replicate k b) s := rfl
    _ = .next (ignitionSamples (List.replicate k b) s) := by
      rw [execIgnitionFinding, answerIf, if_pos hwf, after_of_not_due _ hdue, if_pos hlevel]

theorem exec_ignitionOff (hlevel : s.din0.level = .active) :
    exec (.ignitionOff (List.replicate k b)) s = .next (ignitionSamples (List.replicate k b) s) := by
  have hwf : Instr.wellFormed (.ignitionOff (List.replicate k b)) = true := by
    simpa [Instr.wellFormed, maxSamples] using hk
  calc exec (.ignitionOff (List.replicate k b)) s = execIgnitionOff (List.replicate k b) s := rfl
    _ = .next (ignitionSamples (List.replicate k b) s) := by
      rw [execIgnitionOff, answerIf, if_pos hwf, after_of_not_due _ hdue, if_pos hlevel]

end

/-! ## From STANDBY (R160) -/

theorem condAt_initial {s : State} (h : s.run.tables.conds = List.replicate 64 .unused) (j : Nat) : condAt s j = none := by
  rw [condAt, h]
  exact Option.eq_none_iff_forall_ne_some.2 fun c hc => by
    obtain hc := entryAt_eq_some_iff.1 hc
    rw [List.getElem?_replicate] at hc
    split at hc <;> cases hc

/-- An internal write that no condition watches is the entry alone. -/
theorem writeInternal_unwatched {s : State} (h : s.run.tables.conds = List.replicate 64 .unused) (i : Nat) (e : SigEntry) :
    writeInternal i e s = putSignal s i e := by
  rw [writeInternal, conditionsOnSignal, watchers_none fun k c hc => ?_, runTasks_nil]
  rw [condAt_initial (by exact h)] at hc
  cases hc

theorem writeSlotSignals_unwatched {s : State} (hp : powered s = true)
    (h : s.run.tables.conds = List.replicate 64 .unused) : writeSlotSignals s = withSlotSignals s := by
  have hone (n : Nat) {t : State} (hp : powered t = true) (ht : t.run.tables.conds = List.replicate 64 .unused) :
      writeSlotSignal n t = putSignal t (160 + n) (slotEntry t n) := by
    rw [writeSlotSignal, if_pos hp, writeInternal_unwatched ht]
  have hentry : slotEntry (putSignal s 161 (slotEntry s 1)) 2 = slotEntry s 2 := by
    refine slotEntry_congr (putSignal_dtu s 161 _) ?_
    rw [signalAt, putSignal_signals, updAt_getD, if_neg (by omega), ← signalAt]
  rw [writeSlotSignals, hone 1 hp h, hone 2 (t := putSignal _ _ _) hp h, hentry]
  rfl

/-- R160: a notice that is placed in an empty DUQ. -/
theorem noticeIfOn_empty {s : State} (hon : noticing s = true) (hduq : s.run.queues.duq = []) (k : NoticeType) :
    noticeIfOn k s = { s with run.queues.duq := [newEntry (noticeFrames s k) (.notice k)] } := by
  rw [noticeIfOn, if_pos hon, placeNotice, Queues.placeNotice, hduq]
  rfl

/-- The entry of a slot in a run domain that has just been reset. -/
def coldEntry (s : State) (n : Nat) : SigEntry :=
  match slotDriver s n with
  | some d => { value := d.remaining, status := .valid }
  | none => { value := 0, status := .notAvailable }

/-- The STATUS notice of a run domain that has just been reset. -/
def coldNotice (unsynced : Bool) : QEntry :=
  newEntry
    (noteFrame 3 0 [1#8, if unsynced then 0x10#8 else 0#8, 0#8, 0#8, 0#8, 0#8, 0#8, 0#8],
      some (noteFrame 3 1 (List.replicate 8 0#8)))
    (.notice .status)

/-- R160: the state that an ignition start leaves. -/
def coldStarted (s : State) : State :=
  { s with
    mode := .startup, phase := .validating, shutdownTimer := none
    run := { Run.initial with
             mc.validation := some Config.validationMicros
             signals := updAt (updAt Run.initial.signals 161 fun _ => coldEntry s 1) 162 fun _ => coldEntry s 2
             queues.duq := [coldNotice s.dtu.unsynced] } }

theorem slotEntry_cold {s t : State} (n : Nat) (hdtu : t.dtu = s.dtu) (hvalue : (signalAt t (160 + n)).value = 0) :
    slotEntry t n = coldEntry s n := by
  have hdriver : slotDriver t n = slotDriver s n := by
    rw [slotDriver, slotDigest, hdtu]
    unfold driverOf
    rw [hdtu]
    rfl
  rw [slotEntry, hdriver, coldEntry]
  cases slotDriver s n with
  | none => simp [hvalue]
  | some d => rfl

/-- The flags of a run domain that has just been reset: F12 alone may be set. -/
theorem statusPart0_cold {s t : State} (hmode : t.mode = .startup) (hflags : t.run.flags = Flags.initial)
    (hdtu : t.dtu = s.dtu) (hmu : t.run.mu = Mu.initial) (hcount : t.run.mc.disabledCount = 0)
    (hfaults : t.run.mc.gaugeFaults = Mc.initial.gaugeFaults) :
    statusPart0 t = [1#8, if s.dtu.unsynced then 0x10#8 else 0#8, 0#8, 0#8, 0#8, 0#8, 0#8, 0#8] := by
  have hbytes : flagBytes t = [if s.dtu.unsynced then 0x10#8 else 0#8, 0#8] := by
    have hnumber : flagNumber t = flagNumber { State.reset with dtu.unsynced := s.dtu.unsynced } := by
      funext n
      unfold flagNumber
      rw [hflags, hdtu]
      rfl
    rw [flagBytes, hnumber]
    cases s.dtu.unsynced
    · rfl
    · rfl
  rw [statusPart0, hbytes, hmode, hmu, hcount, hfaults]
  rfl

theorem noticeIfOn_cold {s t : State} (hmode : t.mode = .startup) (hrun : ∃ signals v, t.run =
    { Run.initial with mc.validation := v, signals := signals }) (hdtu : t.dtu = s.dtu) :
    noticeIfOn .status t = { t with run.queues.duq := [coldNotice s.dtu.unsynced] } := by
  obtain ⟨signals, v, hrun⟩ := hrun
  have hstatus := statusPart0_cold (s := s) (t := t) hmode (by rw [hrun]; rfl) hdtu (by rw [hrun]; rfl) (by rw [hrun]; rfl)
    (by rw [hrun]; rfl)
  have hframes : noticeFrames t .status = (noteFrame 3 0 (statusPart0 t), some (noteFrame 3 1 (List.replicate 8 0#8))) := by
    have hlamps : lampSetBytes Mc.initial.openLamps ++ lampSetBytes Mc.initial.shortLamps = List.replicate 8 0#8 := by decide
    rw [← hlamps, noticeFrames, statusPart1, hrun]
    rfl
  have hon : noticing t = true := by rw [noticing, hmode]; rfl
  rw [noticeIfOn_empty hon (by rw [hrun]; rfl), hframes, hstatus, coldNotice]

theorem coldStart_eq (s : State) : coldStart s = coldStarted s := by
  have hentry (n : Nat) (hvalue : (signalAt (beginStartup { s with run := Run.initial }) (160 + n)).value = 0) :
      slotEntry (beginStartup { s with run := Run.initial }) n = coldEntry s n := slotEntry_cold n rfl hvalue
  have hsignals : withSlotSignals (beginStartup { s with run := Run.initial }) =
      { beginStartup { s with run := Run.initial } with
        run.signals := updAt (updAt Run.initial.signals 161 fun _ => coldEntry s 1) 162 fun _ => coldEntry s 2 } := by
    rw [withSlotSignals, hentry 1 rfl, hentry 2 rfl]
    rfl
  rw [coldStart, writeSlotSignals_unwatched rfl rfl, hsignals]
  exact noticeIfOn_cold (s := s) rfl ⟨_, _, rfl⟩ rfl

theorem ignitionOn_standby {s : State} (h : s.mode = .standby) : ignitionOn s = coldStarted s := by
  rw [ignitionOn, h]
  exact coldStart_eq s

/-- Settles O30: the samples counted, then the run domain reset, whose conditions watch nothing. -/
theorem ignitionStartsFromStandby : Obligations.IgnitionStartsFromStandby := by
  unfold Obligations.IgnitionStartsFromStandby
  intro s hdue hmode hcount level slot note notice started some80
  have hstarted (b : Bool) (hb : b = true) : ignitionOn { s with din0 := { level := decidedLevel b, count := 0, last := b } } = started := by
    subst hb
    exact ignitionOn_standby (by exact hmode)
  refine ⟨fun hlevel => ⟨?_, fun k hk => ?_⟩, fun hlevel => ⟨fun hcnt => ?_, fun hcnt => ?_⟩⟩
  · have hcounting : Counting s.din0 true := by rw [Counting, hlevel]
    rw [exec_ignitionOn hdue (by omega) hlevel, ignitionSamples_completing hcounting hcount, hlevel]
    exact congrArg Host.Outcome.next (hstarted true rfl)
  · have hcounting : Counting s.din0 true := by rw [Counting, hlevel]
    obtain ⟨last, h⟩ := ignitionSamples_short hcounting hk
    rw [exec_ignitionOn hdue (by omega) hlevel, h, hlevel]
    exact ⟨last, rfl⟩
  · have hcounting : Counting s.din0 true := by rwa [Counting, hlevel]
    rw [exec_ignitionFinding hdue (by omega) hlevel, ignitionSamples_completing hcounting hcount, hlevel]
    exact congrArg Host.Outcome.next (hstarted true rfl)
  · have hcounting : Counting s.din0 false := by rwa [Counting, hlevel]
    rw [exec_ignitionFinding hdue (by omega) hlevel, ignitionSamples_completing hcounting hcount, hlevel]
    rfl

end Sys2Proof.Machine
end

section
/-! PROOFS. A start from SHUTDOWN, and the entry into it (R76, R169, R170). -/

namespace Sys2Proof.Machine

/-! ## From SHUTDOWN (R76, R170) -/

theorem abandonCondition_recs (s : State) (j : Nat) :
    (abandonCondition s j).run.cu.recs =
      updAt s.run.cu.recs j fun _ => { state := .inactive, remembered := false, timer := none } := by
  unfold abandonCondition
  dsimp only
  split
  · rfl
  · rw [telltaleChange_cu]
    rfl

/-- Every record that the conditions of a list abandon is at its reset value. -/
theorem abandonAll_recs (l : List Nat) (s : State) (k : Nat) :
    (l.foldl abandonCondition s).run.cu.recs[k]? =
      if k ∈ l then s.run.cu.recs[k]?.map fun _ => { state := .inactive, remembered := false, timer := none }
      else s.run.cu.recs[k]? := by
  induction l generalizing s with
  | nil => simp
  | cons j l ih =>
    rw [List.foldl_cons, ih, abandonCondition_recs, updAt_getElem?]
    rcases eq_or_ne k j with rfl | hne
    · cases s.run.cu.recs[k]? <;> simp
    · simp [hne]

theorem abandonConditions_recs {s : State} (h : s.run.cu.recs.length = 64) {r : CondRec}
    (hr : r ∈ (abandonConditions s).run.cu.recs) : r = { state := .inactive, remembered := false, timer := none } := by
  obtain ⟨k, hk⟩ := List.mem_iff_getElem?.1 hr
  unfold abandonConditions at hk
  have hmem : k < 64 → k ∈ List.range 64 := List.mem_range.2
  generalize List.range 64 = conditions at hmem hk
  dsimp only at hk
  rw [abandonAll_recs] at hk
  split at hk
  · obtain ⟨_, _, rfl⟩ := Option.map_eq_some_iff.1 hk
    rfl
  · next hno =>
    have hlt : k < s.run.cu.recs.length := (List.getElem?_eq_some_iff.1 hk).1
    exact absurd (hmem (h ▸ hlt)) hno

theorem ignitionOn_shutdown {s : State} (h : s.mode = .shutdown) : ignitionOn s = warmStart s := by
  rw [ignitionOn, h]

theorem warmStopped_recs {s : State} (h : s.run.cu.recs.length = 64) {r : CondRec}
    (hr : r ∈ (warmStopped s).run.cu.recs) : r = { state := .inactive, remembered := false, timer := none } := by
  have hlength : (dropRoutes (beginStartup s)).run.cu.recs.length = 64 := by simpa [dropRoutes, beginStartup] using h
  exact abandonConditions_recs hlength (by simpa only [warmStopped, stopSampling] using hr)

theorem Still.lit {s t : State} (h : Still s t) : Preserves Lit s t := .of_same h.lamps h.lampOutput

theorem warmStart_recs {s : State} (h : s.run.cu.recs.length = 64) {r : CondRec}
    (hr : r ∈ (warmStart s).run.cu.recs) : r = { state := .inactive, remembered := false, timer := none } := by
  have hcu : (warmStart s).run.cu = (warmStopped s).run.cu := by
    rw [warmStart_eq, (noticeIfOn_still _ _).cu, driveLamps]
  rw [hcu] at hr
  exact warmStopped_recs h hr

theorem warmStart_lit (s : State) : Lit (warmStart s) := by
  rw [warmStart_eq]
  exact (noticeIfOn_still .status _).lit (Lit.driveLamps _)

theorem warmStart_stands (s : State) : NoticeStands .status (warmStart s) := by
  rw [warmStart_eq]
  refine noticeIfOn_stands ?_
  rw [noticing, (driveLamps_frame _).mode, warmStopped_mode]
  rfl

/-- Settles O31: the frame of the start; the records one by one; the lamps driven last, under the notice. -/
theorem ignitionStartsFromShutdown : Obligations.IgnitionStartsFromShutdown := by
  unfold Obligations.IgnitionStartsFromShutdown
  intro s hdue hmode hlevel hcount hrecs
  have hcounting : Counting s.din0 true := by rw [Counting, hlevel]
  let started : State := { s with din0 := { level := .active, count := 0, last := true } }
  have hstart (u : State) (hu : u.mode = .shutdown) : ignitionOn u = warmStart u := ignitionOn_shutdown hu
  have hrun : exec (.ignitionOn (List.replicate (80 - s.din0.count) true)) s =
      .next (warmStart started) := by
    rw [exec_ignitionOn hdue (by omega) hlevel, ignitionSamples_completing hcounting hcount, hlevel]
    exact congrArg Host.Outcome.next (hstart _ hmode)
  refine ⟨_, hrun, ?_, fun r hr => ?_, fun m r hr => ?_, ?_⟩
  · exact warmStart_frame started
  · exact warmStart_recs (s := started) hrecs hr
  · rw [warmStart_lit started m r hr]
    exact lampOutput_iff _ _ _
  · exact warmStart_stands started

/-! ## What SHUTDOWN holds still -/

/-- Every escalation timer is paused. -/
def AllPaused (l : List Alert) : Prop := ∀ a ∈ l, ∀ e, a.timer = some e → e.running = false

theorem allPaused_newAlert (c : Condition) (j : Nat) : AllPaused [newAlert c j true] := by
  intro a ha e he
  obtain rfl := List.mem_singleton.1 ha
  rw [newAlert] at he
  dsimp only [escStart] at he
  split at he
  · obtain rfl := Option.some_inj.1 he
    rfl
  · cases he

theorem AllPaused.of_subset {l m : List Alert} (h : AllPaused l) (hm : ∀ a ∈ m, a ∈ l) : AllPaused m :=
  fun a ha => h a (hm a ha)

theorem AllPaused.append {l m : List Alert} (h : AllPaused l) (hm : AllPaused m) : AllPaused (l ++ m) :=
  fun a ha => (List.mem_append.1 ha).elim (h a) (hm a)

/-- A list whose entries hold what they held, or a paused timer, or none. -/
theorem AllPaused.map {l : List Alert} (h : AllPaused l) {f : Alert → Alert}
    (hf : ∀ a, (f a).timer = a.timer ∨ ∀ e, (f a).timer = some e → e.running = false) : AllPaused (l.map f) := by
  intro a ha e he
  obtain ⟨b, hb, rfl⟩ := List.mem_map.1 ha
  rcases hf b with hsame | hpaused
  · exact h b hb e (hsame ▸ he)
  · exact hpaused e he

theorem allPaused_pauseAlerts (l : List Alert) : AllPaused (pauseAlerts l) := by
  intro a ha e he
  obtain ⟨b, -, rfl⟩ := List.mem_map.1 ha
  split at he
  · obtain rfl := Option.some_inj.1 he
    rfl
  · next hnone =>
    rw [hnone] at he
    cases he

theorem AllPaused.alertPause {l : List Alert} (h : AllPaused l) (j : Nat) : AllPaused (alertPause j false l) := by
  refine h.map fun a => ?_
  split
  · split
    · right
      rintro e ⟨⟩
      rfl
    · exact .inl rfl
  · exact .inl rfl

theorem AllPaused.alertEnter {l : List Alert} (h : AllPaused l) (c : Condition) (j : Nat) :
    AllPaused (alertEnter c j true l).1 := by
  have hnew := allPaused_newAlert c j
  have hdropped (p : Alert → Bool) : AllPaused (dropFirst p l ++ [newAlert c j true]) :=
    (h.of_subset fun _ => (dropFirst_sublist p l).mem).append hnew
  unfold Machine.alertEnter
  dsimp only
  split
  · exact (h.of_subset fun _ => List.mem_of_mem_filter).append hnew
  · split
    · exact h.append hnew
    · split
      · exact hdropped _
      · split
        · split
          · exact hdropped _
          · exact h
        · exact h

theorem AllPaused.alertLeave {l : List Alert} (h : AllPaused l) (j : Nat) : AllPaused (alertLeave j l) := by
  intro a ha e he
  obtain ⟨b, hb, hab⟩ := List.mem_filterMap.1 ha
  split at hab
  · split at hab
    · obtain rfl := Option.some_inj.1 hab
      cases he
    · cases hab
  · obtain rfl := Option.some_inj.1 hab
    exact h b hb e he

/-- R97, R104: in SHUTDOWN no change of the Alert List starts a timer. -/
theorem AlertStep.allPaused {s : State} {l : List Alert} (h : AlertStep s l) (hmode : s.mode = .shutdown)
    (hs : AllPaused s.run.tu.alerts) : AllPaused l := by
  cases h with
  | change old now hc =>
    unfold alertChange
    simp only [hmode, decide_true, Bool.not_true]
    split
    · split
      · exact hs.alertEnter _ _
      · exact hs
    · split
      · exact hs.alertLeave _
      · split
        · exact hs.alertPause _
        · split
          · exact hs.alertPause _
          · exact hs
  | acked j =>
    refine hs.map fun a => ?_
    split
    · exact .inr nofun
    · exact .inl rfl
  | settled j =>
    unfold dropSettled
    split
    · exact hs
    · exact hs.of_subset fun _ => List.mem_of_mem_filter
  | filtered =>
    intro a ha e he
    obtain ⟨b, hb, hab⟩ := List.mem_filterMap.1 ha
    split at hab
    · split at hab
      · obtain rfl := Option.some_inj.1 hab
        cases he
      · cases hab
    · cases hab

/-- What SHUTDOWN keeps of the warnings path: the lamps dark and unforced, the escalation paused. -/
structure Resting (s : State) : Prop where
  mode : s.mode = .shutdown
  lamps : ∀ r ∈ s.run.tu.lamps, r.output = false ∧ r.forced = none
  alerts : AllPaused s.run.tu.alerts

theorem Resting.of_same {s t : State} (hmode : t.mode = s.mode) (hlamps : t.run.tu.lamps = s.run.tu.lamps)
    (halerts : t.run.tu.alerts = s.run.tu.alerts) : Preserves Resting s t := fun h =>
  ⟨hmode.trans h.mode, hlamps ▸ h.lamps, halerts ▸ h.alerts⟩

/-- In SHUTDOWN every output is off. -/
theorem lampOutput_shutdown {s : State} (h : s.mode = .shutdown) (n : Nat) (r : LampRec) : lampOutput s n r = false := by
  rw [← Bool.not_eq_true, lampOutput_iff]
  exact fun hlit => hlit.2.2.2.1 h

theorem driveLamps_resting (s : State) : Preserves Resting s (driveLamps s) := fun h => by
  refine ⟨h.mode, fun r hr => ?_, h.alerts⟩
  obtain ⟨n, a, ha, rfl⟩ := mem_mapFrom hr
  exact ⟨lampOutput_shutdown h.mode n a, (h.lamps a ha).2⟩

theorem resting_warn : Warn (Preserves Resting) where
  refl _ := id
  trans h h' hs := h' (h hs)
  notice _ _ := .of_same rfl rfl rfl
  record _ _ _ := .of_same rfl rfl rfl
  view s j now hs := by
    refine ⟨hs.mode, fun r hr => ?_, hs.alerts⟩
    obtain ⟨n, a, ha, rfl⟩ := mem_mapFrom hr
    unfold lampChange
    split
    · split
      · exact hs.lamps a ha
      · exact hs.lamps a ha
    · exact hs.lamps a ha
  blink s hs := by
    refine ⟨hs.mode, fun r hr => ?_, hs.alerts⟩
    obtain ⟨a, ha, rfl⟩ := List.mem_map.1 hr
    exact hs.lamps a ha
  drive := driveLamps_resting
  alerts {s l} hl hs := by
    rw [setAlerts_eq]
    exact ⟨hs.mode, hs.lamps, hl.allPaused hs.mode hs.alerts⟩
  request p s := by
    rw [chimeRequest_eq]
    exact .of_same rfl rfl rfl

/-- R86, R91: the lamps, released in SHUTDOWN. -/
theorem releaseLamps_dark {s : State} (h : s.mode = .shutdown) :
    ∀ r ∈ (releaseLamps s).run.tu.lamps, r.output = false ∧ r.forced = none := by
  intro r hr
  unfold releaseLamps at hr
  obtain ⟨n, a, ha, rfl⟩ := mem_mapFrom hr
  obtain ⟨b, -, rfl⟩ := List.mem_map.1 ha
  exact ⟨lampOutput_shutdown (by exact h) n _, rfl⟩

/-- R86, R91, R104: what SHUTDOWN entry makes of the lamps and of the escalation. -/
theorem shutdownDark_resting (s : State) : Resting (shutdownDark s) := by
  rw [shutdownDark_eq]
  exact ⟨rfl, releaseLamps_dark (s := { s with mode := .shutdown, run.tu.lampCheck := none }) rfl, allPaused_pauseAlerts _⟩

theorem shutdownLeft_resting (s : State) : Resting (shutdownLeft s) := by
  obtain ⟨hmode, hlamps, halerts⟩ := shutdownDark_resting s
  rw [shutdownLeft, abandonCommand_eq]
  exact ⟨hmode, hlamps, halerts⟩

theorem enterShutdown_resting (s : State) : Resting (enterShutdown s) := by
  rw [enterShutdown_left]
  refine resting_warn.notice _ _ ?_
  rcases resting_warn.flagDelivered .service false (shutdownLeft s) with h | h
  · rw [h]
    exact shutdownLeft_resting s
  · exact h (Resting.of_same (putFlag_mode ..) (by rw [putFlag_tu]) (by rw [putFlag_tu]) (shutdownLeft_resting s))

/-- R101: the chime holds nothing. -/
theorem enterShutdown_chime (s : State) : (enterShutdown s).run.tu.chime = Chime.initial := by
  have hleft : (shutdownLeft s).run.tu.chime = Chime.initial := by
    rw [shutdownLeft, abandonCommand_eq, shutdownDark_eq]
  have hmode : (shutdownLeft s).mode = .shutdown := (shutdownLeft_resting s).mode
  have hrest : ChimeRest (shutdownLeft s) := ⟨by rw [hleft]; exact .nil, fun _ => hleft⟩
  rw [enterShutdown_left]
  exact (flagChange_chimeRest .service false _ hrest).shutdown (by rw [flagChange_mode, hmode])

theorem enterShutdown_stands (s : State) : NoticeStands .status (enterShutdown s) := placeNotice_stands _ _

/-! ## The command in progress at SHUTDOWN entry (R14, R177) -/

/-- An entry that the VLI does not finish leaves the VTQ (R153). -/
def leavesVtq (s : State) (e : QEntry) : Bool := !finishes s.run.vli.sending.isSome e

/-- The command in progress ends at SHUTDOWN entry. -/
def CommandEnds (s : State) : Prop :=
  s.run.mu.phase = .ifrPending ∨ s.run.mu.phase = .executing ∨
    (s.run.mu.phase = .replyQueued ∧ ∃ e ∈ s.run.queues.vtq, e.origin = .resultReply ∧ leavesVtq s e = true)

theorem muAbandoned_emptied {s : State} (hvtq : ∀ e ∈ s.run.queues.vtq, vehicleOrigin e.origin = true) :
    (CommandEnds s → muAbandoned (muEmptied s) = { s.run.mu with phase := .idle, cmd := none }) ∧
      (¬ CommandEnds s → muAbandoned (muEmptied s) = s.run.mu) := by
  obtain ⟨hleft, hstays⟩ := reportRemoved_cases (removed := s.run.queues.vtq.filter (leavesVtq s)) s
    fun e he => hvtq e (List.mem_of_mem_filter he)
  have hremoved : (∃ e ∈ s.run.queues.vtq.filter (leavesVtq s), e.origin = .resultReply) ↔
      ∃ e ∈ s.run.queues.vtq, e.origin = .resultReply ∧ leavesVtq s e = true := by
    simp only [List.mem_filter]
    exact exists_congr fun e => by tauto
  have hemptied : muEmptied s = (reportRemoved (s.run.queues.vtq.filter (leavesVtq s)) s).run.mu := rfl
  rw [hremoved] at hleft hstays
  by_cases hq : s.run.mu.phase = .replyQueued ∧ ∃ e ∈ s.run.queues.vtq, e.origin = .resultReply ∧ leavesVtq s e = true
  · rw [hemptied, hleft hq]
    exact ⟨fun _ => rfl, fun h => absurd (.inr (.inr hq)) h⟩
  · rw [hemptied, hstays hq, muAbandoned]
    split
    · next h => exact ⟨fun _ => rfl, fun hno => absurd (h.elim .inl fun h => .inr (.inl h)) hno⟩
    · next h => exact ⟨fun hends => absurd (hends.elim .inl fun h' => h'.elim .inr fun h'' => absurd h'' hq) h, fun _ => rfl⟩

/-! ## Ignition off (R169) -/

theorem ignitionOff_on {s : State} (h : s.mode = .startup ∨ s.mode = .run ∨ s.mode = .service) :
    ignitionOff s = enterShutdown s := by
  unfold ignitionOff
  rcases h with h | h | h <;> rw [h]

/-- Settles O32: the frame of SHUTDOWN entry, with the chime at rest; the command in progress by what leaves the
VTQ; the lamps and the escalation held still through the fall of F13. -/
theorem ignitionOffEntersShutdown : Obligations.IgnitionOffEntersShutdown := by
  unfold Obligations.IgnitionOffEntersShutdown
  intro s hdue hmode hlevel hcount hqueues
  have hcounting : Counting s.din0 false := by rw [Counting, hlevel]
  let off : State := { s with din0 := { level := .inactive, count := 0, last := false } }
  have hoff (u : State) (hu : u.mode = .startup ∨ u.mode = .run ∨ u.mode = .service) : ignitionOff u = enterShutdown u :=
    ignitionOff_on hu
  have hrun : exec (.ignitionOff (List.replicate (80 - s.din0.count) false)) s = .next (enterShutdown off) := by
    rw [exec_ignitionOff hdue (by omega) hlevel, ignitionSamples_completing hcounting hcount, hlevel]
    exact congrArg Host.Outcome.next (hoff _ hmode)
  have hframe := enterShutdown_frame off
  have hchime := enterShutdown_chime off
  obtain ⟨-, -, -, -, -, -, -, -, hvtq⟩ := hqueues
  obtain ⟨hends, hstays⟩ := muAbandoned_emptied (s := off) hvtq
  have hmu : (enterShutdown off).run.mu = muAbandoned (muEmptied off) := hframe.mu
  have hresting := enterShutdown_resting off
  refine ⟨_, hrun, ?_, ?_, hframe.2, hresting.lamps, hresting.alerts, enterShutdown_stands off⟩
  · intro onHand ends channel channels
    have hchannels : s.run.gu.channels.map shutdownChannel = channels :=
      congrArg (fun f => s.run.gu.channels.map f) (funext fun c => rfl)
    have hends' : ends ↔ CommandEnds off := by
      simp only [ends, CommandEnds, leavesVtq, Bool.not_eq_true']
      rfl
    refine ⟨?_, fun h => ?_, fun h => ?_⟩
    · have hmuParts : muAbandoned (muEmptied off) =
          { s.run.mu with phase := (enterShutdown off).run.mu.phase, cmd := (enterShutdown off).run.mu.cmd } := by
        rw [hmu]
        by_cases h : CommandEnds off
        · rw [hends h]
        · rw [hstays h]
      have hvli : (enterShutdown off).run.vli = dropTest s.run.vli := hframe.vli
      refine hframe.1.trans ?_
      rw [hchime, shutdownBase, hmuParts, hvli, ← hchannels]
      rfl
    · rw [hmu, hends (hends'.1 h)]
      exact ⟨rfl, rfl⟩
    · rw [hmu, hstays (fun h' => h (hends'.2 h'))]
  · have hvli : (enterShutdown off).run.vli = dropTest s.run.vli := hframe.vli
    rw [hvli, dropTest]
    cases htest : s.run.vli.test with
    | off => exact ⟨htest, fun _ => rfl, nofun, nofun⟩
    | waiting => exact ⟨rfl, nofun, fun _ => rfl, nofun⟩
    | running => exact ⟨rfl, nofun, nofun, fun _ => ⟨rfl, rfl, rfl, rfl⟩⟩

end Sys2Proof.Machine
end

section
/-! PROOFS. What a validation accepts: the state of an entry, and a table judged in ascending number (R161, R162). -/

namespace Sys2Proof.Machine

/-! ## One entry (R161) -/

section
variable {m : List Host.Cell} {t : TableId} {i : Nat}

theorem erased_iff : Erased m t i ↔ storeStateOf m t i = .erased := by
  have hall : ((storeImage m t i).all fun b => decide (b = 0xFF#8)) = true ↔ ∀ b ∈ storeImage m t i, b = 0xFF#8 := by
    simp
  unfold storeStateOf Erased
  dsimp only
  rw [← hall]
  split
  · next h => exact ⟨fun _ => rfl, fun _ => h⟩
  · next h => 
    refine ⟨fun h' => absurd h' h, fun h' => ?_⟩
    split at h' <;> cases h'

theorem checked_iff (h : ¬ Erased m t i) :
    storeCheck m t i = crc8 (storeImage m t i) ↔ storeStateOf m t i = .good := by
  rw [erased_iff] at h
  unfold storeStateOf at h ⊢
  dsimp only at h ⊢
  split
  · next hall => exact absurd (if_pos hall) h
  · split
    · next hcheck => exact ⟨fun _ => rfl, fun _ => hcheck⟩
    · next hcheck => exact ⟨fun h' => absurd h' hcheck, nofun⟩

variable {α : Type} {image : List Byte → Option α}

/-- `Judged`, by the state of the entry in the store. -/
theorem judged_iff {passes : α → Prop} {e : Entry α} : Judged m t i image passes e ↔
    match storeStateOf m t i with
    | .erased => e = .unused
    | .bad => e = .disabled
    | .good => (∀ a, e = .enabled a ↔ image (storeImage m t i) = some a ∧ passes a) ∧ e ≠ .unused := by
  unfold Judged
  by_cases herased : Erased m t i
  · rw [erased_iff.1 herased]
    refine ⟨fun h => h.1 herased, fun h => ⟨fun _ => h, fun h' => absurd herased h', fun a => ?_, fun h' => absurd herased h'.1⟩⟩
    rw [h]
    exact ⟨nofun, fun h' => absurd herased h'.1.1⟩
  · have hcheck := checked_iff herased
    cases hstate : storeStateOf m t i with
    | erased => exact absurd (erased_iff.2 hstate) herased
    | bad =>
      have hbad : storeCheck m t i ≠ crc8 (storeImage m t i) := fun h => by simp [hcheck.1 h] at hstate
      refine ⟨fun h => h.2.1 herased hbad, fun h => ⟨fun h' => absurd h' herased, fun _ _ => h, fun a => ?_, ?_⟩⟩
      · rw [h]
        exact ⟨nofun, fun h' => absurd h'.1.2 hbad⟩
      · exact fun h' => absurd h'.2 hbad
    | good =>
      have hgood := hcheck.2 hstate
      simp [herased, hgood]

/-- The further tests may be said in another way. -/
theorem Judged.congr {p q : α → Prop} {e : Entry α} (h : Judged m t i image p e) (hpq : ∀ a, p a ↔ q a) :
    Judged m t i image q e := by
  have heq : p = q := funext fun a => propext (hpq a)
  exact heq ▸ h

theorem judgeEntry_judged : Judged m t i image (fun _ => True) (judgeEntry m t i image) := by
  rw [judged_iff, judgeEntry]
  cases storeStateOf m t i with
  | erased => rfl
  | bad => rfl
  | good =>
    dsimp only
    cases image (storeImage m t i) <;> simp

/-- A further test of an enabled entry. -/
theorem Judged.keepIf {e : Entry α} (h : Judged m t i image (fun _ => True) e) (ok : α → Bool) :
    Judged m t i image (fun a => ok a = true) (e.keepIf ok) := by
  rw [judged_iff] at h ⊢
  cases hstate : storeStateOf m t i with
  | erased =>
    rw [hstate] at h
    rw [h, Entry.keepIf]
  | bad =>
    rw [hstate] at h
    rw [h, Entry.keepIf]
  | good =>
    rw [hstate] at h
    obtain ⟨henabled, hused⟩ := h
    refine ⟨fun a => ?_, ?_⟩
    · rw [keepIf_eq_enabled, henabled a, and_true]
    · cases e with
      | enabled a =>
        by_cases hok : ok a = true <;> simp [Entry.keepIf, hok]
      | disabled => simp [Entry.keepIf]
      | unused => exact absurd rfl hused

/-- An entry enabled is one its image gives. -/
theorem Judged.image_eq {passes : α → Prop} {e : Entry α} (h : Judged m t i image passes e) {a : α} (he : e = .enabled a) :
    image (storeImage m t i) = some a :=
  ((h.2.2.1 a).1 he).2.1

end

/-! ## A table judged in ascending number (R162) -/

section
variable {α : Type} {judge : List (Entry α) → Nat → Entry α}

theorem judgeTable_succ (n : Nat) : judgeTable judge (n + 1) = judgeTable judge n ++ [judge (judgeTable judge n) n] := by
  rw [judgeTable, List.range_succ, List.foldl_append]
  rfl

theorem judgeTable_length (n : Nat) : (judgeTable judge n).length = n := by
  induction n with
  | zero => rfl
  | succ n ih => rw [judgeTable_succ, List.length_append, ih, List.length_singleton]

/-- The entries of lower number are those the table holds in the end. -/
theorem judgeTable_take {n k : Nat} (h : k ≤ n) : (judgeTable judge n).take k = judgeTable judge k := by
  induction n with
  | zero => rw [Nat.le_zero.1 h]; rfl
  | succ n ih =>
    rcases Nat.lt_or_eq_of_le h with hlt | rfl
    · rw [judgeTable_succ, List.take_append_of_le_length (by rw [judgeTable_length]; omega), ih (by omega)]
    · exact List.take_of_length_le (judgeTable_length _).le

theorem judgeTable_getElem? {n i : Nat} (h : i < n) : (judgeTable judge n)[i]? = some (judge (judgeTable judge i) i) := by
  have hlast : (judgeTable judge (i + 1))[i]? = some (judge (judgeTable judge i) i) := by
    rw [judgeTable_succ, List.getElem?_append_right (judgeTable_length i).le, judgeTable_length, Nat.sub_self]
    rfl
  rw [← judgeTable_take h, List.getElem?_take_of_lt (Nat.lt_succ_self i)] at hlast
  exact hlast

theorem judgeTable_lower {n i k : Nat} (h : i ≤ n) (hk : k < i) :
    (judgeTable judge i)[k]? = (judgeTable judge n)[k]? := by
  rw [← judgeTable_take h, List.getElem?_take_of_lt hk]

/-- A value among the entries of lower number, by the table they end up in. -/
theorem mem_judgeTable_lower {n i : Nat} (h : i ≤ n) {a : α} :
    Entry.enabled a ∈ judgeTable judge i ↔ ∃ k, k < i ∧ entryAt (judgeTable judge n) k = some a := by
  rw [List.mem_iff_getElem?]
  constructor
  · rintro ⟨k, hk⟩
    have hlt : k < i := by
      rw [← judgeTable_length (judge := judge) i]
      exact (List.getElem?_eq_some_iff.1 hk).1
    exact ⟨k, hlt, entryAt_eq_some_iff.2 (judgeTable_lower h hlt ▸ hk)⟩
  · rintro ⟨k, hlt, hk⟩
    exact ⟨k, (judgeTable_lower h hlt).trans (entryAt_eq_some_iff.1 hk)⟩

end

end Sys2Proof.Machine
end

section
/-! PROOFS. What the images of the tables give (R2, R3, R22, R39, R61, R81, R105, R106, R131, R190). -/

namespace Sys2Proof.Machine

theorem optAtMost_iff {n : Nat} {o : Option Nat} : optAtMost n o = true ↔ ∀ i, o = some i → i ≤ n := by
  cases o <;> simp [optAtMost]

/-! ## Routes (R2, R3) -/

theorem parseRoute_fields {b : List Byte} {r : Route} (h : parseRoute b = some r) : RouteFields r := by
  unfold parseRoute at h
  split at h
  · obtain ⟨hok, rfl⟩ := guardOpt_eq_some h
    simp only [routeOk, Bool.and_eq_true, Bool.or_eq_true, decide_eq_true_eq, optAtMost_iff] at hok
    obtain ⟨⟨⟨⟨⟨⟨hident, hexpected⟩, hfirst⟩, hcount⟩, hrange⟩, htimeout⟩, hsupervision⟩ := hok
    exact ⟨hident, hexpected, hfirst, hcount, hrange, htimeout, hsupervision.resolve_left⟩
  · cases h

/-- R3's two tests are those of a conflict. -/
theorem routeClash_iff (r q : Route) : routeClash r (.enabled q) = true ↔ Conflict r q := by
  simp only [routeClash, Bool.or_eq_true, Bool.and_eq_true, decide_eq_true_eq]
  refine or_congr ⟨fun h => ⟨h.1.symm, h.2.symm⟩, fun h => ⟨h.1.symm, h.2.symm⟩⟩ ?_
  constructor
  · intro h
    exact ⟨max r.first q.first, by omega, by omega⟩
  · rintro ⟨k, hr, hq⟩
    omega

theorem any_routeClash (r : Route) (lower : List (Entry Route)) :
    lower.any (routeClash r) = true ↔ ∃ q, Entry.enabled q ∈ lower ∧ Conflict r q := by
  rw [List.any_eq_true]
  constructor
  · rintro ⟨e, he, hclash⟩
    cases e with
    | enabled q => exact ⟨q, he, (routeClash_iff r q).1 hclash⟩
    | disabled => cases hclash
    | unused => cases hclash
  · rintro ⟨q, hq, hconflict⟩
    exact ⟨_, hq, (routeClash_iff r q).2 hconflict⟩

theorem Conflict.symm {r q : Route} (h : Conflict r q) : Conflict q r := by
  rcases h with ⟨hlink, hident⟩ | ⟨k, hr, hq⟩
  · exact .inl ⟨hlink.symm, hident.symm⟩
  · exact .inr ⟨k, hq, hr⟩

/-! ## Signals (R22) -/

theorem codeInRange_iff {signed : Bool} {width : Nat} {code : Option Int} :
    codeInRange signed width code = true ↔ ∀ c, code = some c → rawInRange signed width c = true := by
  cases code <;> simp [codeInRange]

theorem rawInRange_iff {signed : Bool} {width : Nat} {c : Int} : rawInRange signed width c = true ↔
    if signed then -(2 ^ (width - 1) : Int) ≤ c ∧ c < (2 ^ (width - 1) : Int) else 0 ≤ c ∧ c < (2 ^ width : Int) := by
  cases signed <;> simp [rawInRange]

theorem parseSignal_fields {b : List Byte} {d : SigDesc} (h : parseSignal b = some d) : SignalFields d := by
  obtain ⟨hok, rfl⟩ := guardOpt_eq_some h
  revert hok
  generalize sigCode _ _ (natAt b 14 2) = na
  generalize sigCode _ _ (natAt b 16 2) = err
  intro hok
  simp only [sigOk, Bool.and_eq_true, Bool.or_eq_true, decide_eq_true_eq, codeInRange_iff, rawInRange_iff] at hok
  obtain ⟨⟨⟨⟨⟨⟨⟨⟨⟨hstart, hone⟩, hwidth⟩, hend⟩, hfactor⟩, hshift⟩, hlimits⟩, hna⟩, herr⟩, hdistinct⟩ := hok
  refine ⟨hstart, hone, hwidth, hend, hfactor, hshift, hlimits, fun c hc => ⟨hna c hc, fun herrc => ?_⟩, herr⟩
  dsimp only at hc herrc hdistinct
  subst hc
  exact hdistinct.elim nofun fun hne => hne herrc.symm

/-! ## Gauges (R39) -/

theorem xsRise_pairwise {l : List (Int × Nat)} (h : xsRise l = true) : (l.map Prod.fst).Pairwise (· < ·) := by
  rw [← List.isChain_iff_pairwise]
  induction l with
  | nil => exact .nil
  | cons a l ih =>
    cases l with
    | nil => exact .singleton _
    | cons b l =>
      simp only [xsRise, Bool.and_eq_true, decide_eq_true_eq] at h
      exact .cons_cons h.1 (ih h.2)

theorem parseGauge_fields {b : List Byte} {g : Gauge} (h : parseGauge b = some g) : GaugeFields g := by
  have hok := parseGauge_ok h
  simp only [gaugeOk, Bool.and_eq_true, decide_eq_true_eq, optAtMost_iff, List.all_eq_true] at hok
  obtain ⟨⟨⟨⟨⟨⟨⟨⟨⟨⟨⟨⟨hsource, hfallback⟩, hone⟩, hspan⟩, htwo⟩, height⟩, hrise⟩, hys⟩, hgain⟩, hgain'⟩, hrate⟩, hrate'⟩, hpolicy⟩ := hok
  refine ⟨hsource, hfallback, hone, hspan, htwo, height, xsRise_pairwise hrise, hys, hgain, hgain', hrate, hrate', fun p hp => ?_⟩
  rw [hp] at hpolicy
  simpa using hpolicy

/-! ## Conditions (R61) -/

theorem stageOf_ne_none {code : Nat} {st : Stage} (h : stageOf code = some st) : st ≠ .none := by
  unfold stageOf at h
  split at h <;> simp_all
  all_goals (subst h; simp)

/-- The range of a source's parameter, by its kind. -/
def SourceRange : Source → Prop
  | .above i | .below i | .unusable i => i ≤ 162
  | .input n => 1 ≤ n ∧ n ≤ 15
  | .flag n => n ≤ 13
  | .stage slot atLeast => (slot = 1 ∨ slot = 2) ∧ atLeast ≠ .none

theorem parseSource_range {kind param : Nat} {source : Source} (h : parseSource kind param = some source) :
    SourceRange source := by
  unfold parseSource at h
  split at h
  case h_6 =>
    split at h
    · next st hst =>
      obtain ⟨hok, rfl⟩ := guardOpt_eq_some h
      exact ⟨of_decide_eq_true hok, stageOf_ne_none hst⟩
    · cases h
  case h_7 => cases h
  all_goals
    obtain ⟨hok, rfl⟩ := guardOpt_eq_some h
    simpa [SourceRange] using hok

theorem parseCondition_fields {b : List Byte} {c : Condition} (h : parseCondition b = some c) : ConditionFields c := by
  unfold parseCondition at h
  split at h
  · next source severity policy hsource _ _ =>
    obtain ⟨hok, rfl⟩ := guardOpt_eq_some h
    have hrange := parseSource_range hsource
    simp only [condOk, Bool.and_eq_true, Bool.or_eq_true, Bool.not_eq_true', decide_eq_true_eq] at hok
    obtain ⟨⟨⟨⟨⟨⟨hlevels, hon⟩, hoff⟩, hlatch⟩, hchime⟩, hescalation⟩, halarm⟩ := hok
    refine ⟨?_, hon, hoff, fun hl => ?_, fun hc => ?_, hescalation, fun he => ?_⟩
    · cases source <;> simp_all [levelsOk, SourceRange]
    · exact hlatch.resolve_left (by simpa using hl)
    · exact hchime.resolve_left (by simpa using hc)
    · exact halarm.resolve_left he
  · cases h

theorem qualifierOk_iff {lower : List (Entry Condition)} {i : Nat} {c : Condition} :
    qualifierOk lower i c = true ↔ ∀ q, c.qualifier = some q → q < i ∧ (entryAt lower q).isSome = true := by
  unfold qualifierOk
  cases c.qualifier <;> simp

/-! ## Lamps (R81) -/

theorem parseLamp_fields {b : List Byte} {l : Lamp} (h : parseLamp b = some l) : LampFields l := by
  unfold parseLamp at h
  split at h
  · obtain ⟨hok, rfl⟩ := guardOpt_eq_some h
    simp only [lampOk, Bool.and_eq_true, Bool.or_eq_true, decide_eq_true_eq] at hok
    obtain ⟨⟨⟨⟨hone, hfour⟩, hpulses⟩, hpulses'⟩, hshort⟩ := hok
    refine ⟨hone, hfour, ?_⟩
    dsimp only at *
    omega
  · cases h

/-! ## Inputs (R130, R131) -/

theorem parseInput_zero {i : Nat} {b : List Byte} {c : InputCfg} (h : parseInput i b = some c) :
    i = 0 ↔ ∃ code, c = .supply code := by
  unfold parseInput at h
  split at h
  · next hi =>
    obtain rfl := Option.some_inj.1 h
    exact ⟨fun _ => ⟨_, rfl⟩, fun _ => hi⟩
  · next hi =>
    split at h
    · obtain rfl := Option.some_inj.1 h
      exact ⟨fun h => absurd h hi, nofun⟩
    · cases h

/-- The role test against the entries of lower number. -/
theorem roleTaken_iff {lower : List (Entry InputCfg)} {c : InputCfg} :
    roleTaken lower c = true ↔ ∃ low long role, c = .switch low long role ∧ role ≠ .general ∧
      ∃ low' long', Entry.enabled (.switch low' long' role) ∈ lower := by
  cases c with
  | supply code => simp [roleTaken]
  | switch low long role =>
    cases role with
    | general => simp [roleTaken]
    | ackButton =>
      simp only [roleTaken, List.any_eq_true]
      constructor
      · rintro ⟨e, he, hrole⟩
        split at hrole
        · next low' long' => exact ⟨low, long, .ackButton, rfl, nofun, low', long', he⟩
        · cases hrole
      · rintro ⟨_, _, _, ⟨⟩, -, low', long', he⟩
        exact ⟨_, he, rfl⟩
    | parkBrake =>
      simp only [roleTaken, List.any_eq_true]
      constructor
      · rintro ⟨e, he, hrole⟩
        split at hrole
        · next low' long' => exact ⟨low, long, .parkBrake, rfl, nofun, low', long', he⟩
        · cases hrole
      · rintro ⟨_, _, _, ⟨⟩, -, low', long', he⟩
        exact ⟨_, he, rfl⟩

/-! ## The Drive-Time Parameters (R105, R106) -/

theorem activityOf_ne_none {code : Nat} {a : Activity} (h : activityOf code = some a) : a ≠ .none := by
  unfold activityOf at h
  split at h <;> simp_all
  all_goals (subst h; simp)

/-- The activity map has an activity for each byte. -/
theorem parseMap_eq_some {bs : List Byte} {l : List Activity} (h : parseMap bs = some l) :
    l.length = bs.length ∧ ∀ a ∈ l, a ≠ .none := by
  induction bs generalizing l with
  | nil =>
    obtain rfl := Option.some_inj.1 h
    exact ⟨rfl, nofun⟩
  | cons b bs ih =>
    unfold parseMap at h
    split at h
    · next a as ha has =>
      obtain rfl := Option.some_inj.1 h
      obtain ⟨hlength, hall⟩ := ih has
      exact ⟨congrArg (· + 1) hlength, List.forall_mem_cons.2 ⟨activityOf_ne_none ha, hall⟩⟩
    · cases h

theorem parseDrive_fields {b : List Byte} (hb : 34 ≤ b.length) {p : DriveParams} (h : parseDrive b = some p) : DriveFields p := by
  have hok := parseDrive_ok h
  simp only [driveOk, inRange, Bool.and_eq_true, decide_eq_true_eq, optAtMost_iff] at hok
  obtain ⟨⟨⟨⟨⟨⟨⟨⟨⟨⟨⟨⟨⟨⟨⟨⟨⟨⟨⟨⟨⟨hcont, hbreak⟩, hfirst⟩, hfirst'⟩, hsecond⟩, hsecond'⟩, hdaily⟩, hrest⟩, hprewarn⟩, hprewarn'⟩,
    htime⟩, hroad⟩, htacho⟩, ha1⟩, ha2⟩, hp1⟩, hp2⟩, hd1⟩, hd2⟩, hid⟩, hprio⟩, hcluster⟩ := hok
  have hwords : p.moving ≤ 65535 ∧ p.tolerance ≤ 65535 ∧ p.activityMap.length = 8 ∧ ∀ a ∈ p.activityMap, a ≠ .none := by
    unfold parseDrive at h
    split at h
    · cases h
    · next l hl =>
      obtain ⟨-, rfl⟩ := guardOpt_eq_some h
      obtain ⟨hlength, hall⟩ := parseMap_eq_some hl
      have hmoving := natAt_two_lt b 13
      have htolerance := natAt_two_lt b 15
      refine ⟨by dsimp only; omega, by dsimp only; omega, ?_, hall⟩
      rw [hlength, List.length_take, List.length_drop]
      omega
  obtain ⟨hmoving, htolerance, hlength, hall⟩ := hwords
  refine ⟨hcont, hbreak, ⟨hfirst, hfirst'⟩, ⟨hsecond, hsecond'⟩, hdaily, hrest, hprewarn, hprewarn', hmoving, htolerance, htime,
    hlength, hall, hprio, hcluster, hid, ?_⟩
  simpa only [List.forall_mem_cons, List.not_mem_nil, false_implies, implies_true, and_true] using
    ⟨hroad, htacho, ha1, ha2, hp1, hp2, hd1, hd2⟩

end Sys2Proof.Machine
end

section
/-! PROOFS. The law of a validation: each table judged by its rule (R162). -/

namespace Sys2Proof.Machine

variable {m : List Host.Cell}

/-! ## Routes -/

theorem validate_routes (m : List Host.Cell) : (validate m).routes = judgeTable (judgeRoute m) 96 := rfl

theorem judgeRoute_judged {i : Nat} (hi : i < 96) : Judged m .route i parseRoute
    (fun r => ∀ k q, k < i → entryAt (validate m).routes k = some q → ¬ Conflict r q)
    (judgeRoute m (judgeTable (judgeRoute m) i) i) := by
  refine (judgeEntry_judged.keepIf _).congr fun r => ?_
  rw [Bool.not_eq_true', ← Bool.not_eq_true, any_routeClash]
  constructor
  · intro h k q hk hq hconflict
    exact h ⟨q, (mem_judgeTable_lower hi.le).2 ⟨k, hk, hq⟩, hconflict⟩
  · rintro h ⟨q, hq, hconflict⟩
    obtain ⟨k, hk, hat⟩ := (mem_judgeTable_lower (n := 96) hi.le).1 hq
    exact h k q hk hat hconflict

theorem validate_route {i : Nat} (hi : i < 96) : ∃ e, (validate m).routes[i]? = some e ∧
    Judged m .route i parseRoute (fun r => ∀ k q, k < i → entryAt (validate m).routes k = some q → ¬ Conflict r q) e ∧
    ∀ r, e = .enabled r → RouteFields r :=
  ⟨_, judgeTable_getElem? hi, judgeRoute_judged hi, fun _ hr => parseRoute_fields ((judgeRoute_judged hi).image_eq hr)⟩

/-- R3: no two active routes conflict. -/
theorem validate_no_conflict {i k : Nat} {r q : Route} (hne : i ≠ k) (hr : entryAt (validate m).routes i = some r)
    (hq : entryAt (validate m).routes k = some q) : ¬ Conflict r q := by
  have hbelow {i k : Nat} {r q : Route} (hk : k < i) (hr : entryAt (validate m).routes i = some r)
      (hq : entryAt (validate m).routes k = some q) : ¬ Conflict r q := by
    have hget := entryAt_eq_some_iff.1 hr
    have hi : i < 96 := by
      have hlt := (List.getElem?_eq_some_iff.1 hget).1
      rwa [validate_routes, judgeTable_length] at hlt
    obtain ⟨e, he, hjudged, -⟩ := validate_route (m := m) hi
    obtain rfl := Option.some_inj.1 (he.symm.trans hget)
    exact ((hjudged.2.2.1 r).1 rfl).2.2 k q hk hq
  rcases Nat.lt_or_gt_of_ne hne with h | h
  · exact fun hc => hbelow h hq hr hc.symm
  · exact hbelow h hr hq

/-! ## Signals -/

theorem fills_iff {r : Route} {n : Nat} : r.fills n = true ↔ r.first ≤ n ∧ n < r.first + r.count := by
  simp [Route.fills]

/-- An active route fills the signal. -/
def Filled (m : List Host.Cell) (n : Nat) (r : Route) : Prop := ∃ k, entryAt (validate m).routes k = some r ∧ r.fills n = true

/-- R3: at most one active route fills a signal. -/
theorem Filled.unique {n : Nat} {r q : Route} (hr : Filled m n r) (hq : Filled m n q) : r = q := by
  obtain ⟨i, hi, hri⟩ := hr
  obtain ⟨k, hk, hqk⟩ := hq
  by_cases hik : i = k
  · subst hik
    exact Option.some_inj.1 (hi.symm.trans hk)
  · exact absurd (.inr ⟨n, fills_iff.1 hri, fills_iff.1 hqk⟩) (validate_no_conflict hik hi hk)

theorem routeFilling_some {n : Nat} {r : Route} (h : routeFilling (validate m).routes n = some r) : Filled m n r := by
  obtain ⟨e, he, hfound⟩ := List.exists_of_findSome?_eq_some h
  split at hfound
  · next q =>
    split at hfound
    · next hfills =>
      obtain rfl := Option.some_inj.1 hfound
      obtain ⟨k, hk⟩ := List.mem_iff_getElem?.1 he
      exact ⟨k, entryAt_eq_some_iff.2 hk, hfills⟩
    · cases hfound
  · cases hfound
  · cases hfound

theorem routeFilling_none {n : Nat} (h : routeFilling (validate m).routes n = none) (r : Route) : ¬ Filled m n r := by
  rintro ⟨k, hk, hfills⟩
  have hnone := List.findSome?_eq_none_iff.1 h _ (List.mem_of_getElem? (entryAt_eq_some_iff.1 hk))
  dsimp only at hnone
  rw [if_pos hfills] at hnone
  cases hnone

/-- The descriptor fits its route's expected length (R22). -/
def Fits (m : List Host.Cell) (n : Nat) (d : SigDesc) : Prop :=
  ∀ r len, Filled m n r → r.expected = some len → d.start + d.width ≤ 8 * len

theorem sigFits_iff {n : Nat} {d : SigDesc} : sigFits d (routeFilling (validate m).routes n) = true ↔ Fits m n d := by
  unfold Fits
  cases hroute : routeFilling (validate m).routes n with
  | none => 
    simp only [sigFits, true_iff]
    exact fun r len hr => absurd hr (routeFilling_none hroute r)
  | some r =>
    have hfilled := routeFilling_some hroute
    unfold sigFits
    dsimp only
    cases hexpected : r.expected with
    | none =>
      refine iff_of_true rfl fun q len hq hlen => ?_
      rw [hq.unique hfilled, hexpected] at hlen
      cases hlen
    | some len =>
      rw [decide_eq_true_iff]
      constructor
      · intro h q len' hq hlen
        rw [hq.unique hfilled, hexpected] at hlen
        obtain rfl := Option.some_inj.1 hlen
        exact h
      · exact fun h => h r len hfilled hexpected

theorem filled_iff {n : Nat} : (routeFilling (validate m).routes n).isSome = true ↔ ∃ r, Filled m n r := by
  cases hroute : routeFilling (validate m).routes n with
  | none => simpa using fun r => routeFilling_none hroute r
  | some r => simpa using ⟨r, routeFilling_some hroute⟩

/-- The tests of a descriptor, but for the erased one in a route's range. -/
theorem judgeSignal_eq (m : List Host.Cell) (routes : List (Entry Route)) (i : Nat) : judgeSignal m routes i =
    if storeStateOf m .signal i = .erased ∧ (routeFilling routes i).isSome = true then .disabled
    else (judgeEntry m .signal i parseSignal).keepIf fun d => sigFits d (routeFilling routes i) := by
  unfold judgeSignal
  dsimp only
  have hjudged := judged_iff.1 (judgeEntry_judged (m := m) (t := .signal) (i := i) (image := parseSignal))
  cases hstate : storeStateOf m .signal i with
  | erased =>
    rw [hstate] at hjudged
    rw [hjudged]
    cases (routeFilling routes i).isSome <;> rfl
  | bad =>
    rw [hstate] at hjudged
    rw [hjudged]
    rfl
  | good =>
    rw [hstate] at hjudged
    split
    · next h => exact absurd h hjudged.2
    · rw [if_neg fun h => StoreState.noConfusion h.1]

theorem validate_signal {i : Nat} (hi : i < 160) : ∃ e, (validate m).signals[i]? = some e ∧
    ((¬ Erased m .signal i ∨ ∀ r, ¬ Filled m i r) → Judged m .signal i parseSignal (Fits m i) e) ∧
    (Erased m .signal i → (∃ r, Filled m i r) → e = .disabled) ∧ ∀ d, e = .enabled d → SignalFields d := by
  have hkept : Judged m .signal i parseSignal (Fits m i) ((judgeEntry m .signal i parseSignal).keepIf fun d =>
      sigFits d (routeFilling (validate m).routes i)) :=
    (judgeEntry_judged.keepIf _).congr fun _ => sigFits_iff
  refine ⟨judgeSignal m (validate m).routes i, ?_, fun h => ?_, fun herased hfilled => ?_, fun d hd => ?_⟩
  · rw [show (validate m).signals = (List.range 160).map (judgeSignal m (validate m).routes) from rfl, List.getElem?_map,
      List.getElem?_range hi]
    rfl
  · rw [judgeSignal_eq, if_neg]
    · exact hkept
    · rw [← erased_iff, filled_iff]
      exact fun h' => h.elim (absurd h'.1) fun h => h'.2.elim h
  · rw [judgeSignal_eq, if_pos ⟨erased_iff.1 herased, filled_iff.2 hfilled⟩]
  · rw [judgeSignal_eq] at hd
    split at hd
    · cases hd
    · exact parseSignal_fields (hkept.image_eq hd)

/-! ## The other tables -/

theorem map_range_getElem? {α : Type} (f : Nat → α) {n i : Nat} (h : i < n) : ((List.range n).map f)[i]? = some (f i) := by
  rw [List.getElem?_map, List.getElem?_range h]
  rfl

theorem validate_gauge {i : Nat} (hi : i < 6) : ∃ e, (validate m).gauges[i]? = some e ∧
    Judged m .gauge i parseGauge (fun _ => True) e ∧ ∀ g, e = .enabled g → GaugeFields g :=
  ⟨_, map_range_getElem? _ hi, judgeEntry_judged, fun _ hg => parseGauge_fields (judgeEntry_judged.image_eq hg)⟩

theorem validate_lamp {i : Nat} (hi : i < 32) : ∃ e, (validate m).lamps[i]? = some e ∧
    Judged m .lamp i parseLamp (fun _ => True) e ∧ ∀ l, e = .enabled l → LampFields l :=
  ⟨_, map_range_getElem? _ hi, judgeEntry_judged, fun _ hl => parseLamp_fields (judgeEntry_judged.image_eq hl)⟩

theorem validate_condition {i : Nat} (hi : i < 64) : ∃ e, (validate m).conds[i]? = some e ∧
    Judged m .condition i parseCondition
      (fun c => ∀ q, c.qualifier = some q → q < i ∧ (entryAt (validate m).conds q).isSome = true) e ∧
    ∀ c, e = .enabled c → ConditionFields c := by
  have hjudged : Judged m .condition i parseCondition
      (fun c => ∀ q, c.qualifier = some q → q < i ∧ (entryAt (validate m).conds q).isSome = true)
      (judgeCondition m (judgeTable (judgeCondition m) i) i) := by
    refine (judgeEntry_judged.keepIf _).congr fun c => ?_
    rw [qualifierOk_iff]
    refine forall_congr' fun q => imp_congr_right fun _ => and_congr_right fun hq => ?_
    have hlower : entryAt (judgeTable (judgeCondition m) i) q = entryAt (validate m).conds q := by
      rw [entryAt, entryAt, List.getD_eq_getElem?_getD, List.getD_eq_getElem?_getD, judgeTable_lower hi.le hq]
      rfl
    rw [hlower]
  exact ⟨_, judgeTable_getElem? hi, hjudged, fun _ hc => parseCondition_fields (hjudged.image_eq hc)⟩

theorem validate_input {i : Nat} (hi : i < 16) : ∃ e, (validate m).inputs[i]? = some e ∧
    Judged m .input i (parseInput i)
      (fun c => ∀ low long role, c = .switch low long role → role ≠ .general →
        ∀ k, k < i → ∀ low' long', entryAt (validate m).inputs k ≠ some (.switch low' long' role)) e ∧
    ∀ c, e = .enabled c → (i = 0 ↔ ∃ code, c = .supply code) := by
  have hjudged : Judged m .input i (parseInput i)
      (fun c => ∀ low long role, c = .switch low long role → role ≠ .general →
        ∀ k, k < i → ∀ low' long', entryAt (validate m).inputs k ≠ some (.switch low' long' role))
      (judgeInput m (judgeTable (judgeInput m) i) i) := by
    refine (judgeEntry_judged.keepIf _).congr fun c => ?_
    rw [Bool.not_eq_true', ← Bool.not_eq_true, roleTaken_iff]
    constructor
    · intro h low long role hc hrole k hk low' long' hat
      exact h ⟨low, long, role, hc, hrole, low', long', (mem_judgeTable_lower hi.le).2 ⟨k, hk, hat⟩⟩
    · rintro h ⟨low, long, role, hc, hrole, low', long', hmem⟩
      obtain ⟨k, hk, hat⟩ := (mem_judgeTable_lower (n := 16) hi.le).1 hmem
      exact h low long role hc hrole k hk low' long' hat
  exact ⟨_, judgeTable_getElem? hi, hjudged, fun _ hc => parseInput_zero (hjudged.image_eq hc)⟩

theorem validate_drive : Judged m .drive 0 parseDrive (fun _ => True) (validate m).drive ∧
    (∀ p, (validate m).drive = .enabled p → DriveFields p ∧ (validate m).params = p) ∧
    ((∀ p, (validate m).drive ≠ .enabled p) → (validate m).params = DriveParams.defaults) := by
  have hlength : 34 ≤ (storeImage m .drive 0).length := by simp [storeImage, TableId.groups]
  refine ⟨judgeEntry_judged, fun p hp => ⟨parseDrive_fields hlength (judgeEntry_judged.image_eq hp), ?_⟩, fun hno => ?_⟩
  · rw [NewTables.params, hp]
  · unfold NewTables.params
    split
    · next p hp => exact absurd hp (hno p)
    · rfl
    · rfl

theorem validationLaw (m : List Host.Cell) : ValidationLaw m :=
  ⟨fun _ => validate_route, fun _ => validate_signal, fun _ => validate_gauge, fun _ => validate_condition,
    fun _ => validate_lamp, fun _ => validate_input, validate_drive⟩

end Sys2Proof.Machine
end

section
/-! PROOFS. The end of a STARTUP validation: what an activation leaves (R75, R107, R163). -/

namespace Sys2Proof.Machine

/-! ## A new working record (R107) -/

theorem writeSlotSignals_sameFrames (s : State) : SameFrames s (writeSlotSignals s) :=
  (writeSlotSignal_sameFrames (by omega) s).trans (writeSlotSignal_sameFrames (by omega) _)

/-- The working record replaced, and the slots it no longer names emptied. -/
def recordRebound (p : DriveParams) (w : WorkState) (s : State) : State :=
  putBindings (unbindUnobserved { s.dtu with params := p, paramState := w }) { s with dtu.params := p, dtu.paramState := w }

/-- F7 clear, its timer stopped. -/
def mismatchCleared (s : State) : State := flagChange .speedMismatch false { s with run.mismatch := none }

def recordsAssessed (p : DriveParams) (s : State) : State := { s with dtu.drivers := s.dtu.drivers.map (assess p) }

theorem replaceParams_eq (p : DriveParams) (w : WorkState) (s : State) : replaceParams p w s =
    noticeIfOn .drivetime (refreshUnsynced (stageChanges s (writeSlotSignals (recordsAssessed p
      (mismatchCleared (recordRebound p w s)))))) := rfl

theorem recordRebound_sameFrames (p : DriveParams) (w : WorkState) (s : State) : SameFrames s (recordRebound p w s) :=
  .trans (t := { s with dtu.params := p, dtu.paramState := w }) (.of_signals rfl) (putBindings_sameFrames _ _)

theorem mismatchCleared_sameFrames (s : State) : SameFrames s (mismatchCleared s) :=
  .trans (t := { s with run.mismatch := none }) (.of_signals rfl) (flagChange_sameFrames _ _ _)

theorem recordsAssessed_sameFrames (p : DriveParams) (s : State) : SameFrames s (recordsAssessed p s) := .of_signals rfl

theorem replaceParams_sameFrames (p : DriveParams) (w : WorkState) (s : State) : SameFrames s (replaceParams p w s) := by
  rw [replaceParams_eq]
  exact ((((((recordRebound_sameFrames p w s).trans (mismatchCleared_sameFrames _)).trans (recordsAssessed_sameFrames p _)).trans
    (writeSlotSignals_sameFrames _)).trans (stageChanges_frame _ _).sameFrames).trans (flagChange_sameFrames _ _ _)).trans
    (noticeIfOn_frame _ _).sameFrames

theorem unbind_paramState (slot : Nat) (t : Dtu) : (unbind slot t).paramState = t.paramState := by
  have hslot (t : Dtu) : (setSlot slot none t).paramState = t.paramState := by
    unfold setSlot
    split <;> rfl
  unfold unbind
  split
  · rfl
  · dsimp only
    split
    · exact hslot t
    · exact hslot t

theorem unbindUnobserved_params (t : Dtu) :
    (unbindUnobserved t).params = t.params ∧ (unbindUnobserved t).paramState = t.paramState := by
  refine unbindUnobserved_rebound t (fun u => u.params = t.params ∧ u.paramState = t.paramState) (fun slot u hu => ?_) ⟨rfl, rfl⟩
  exact ⟨(unbind_params slot u).trans hu.1, (unbind_paramState slot u).trans hu.2⟩

theorem replaceParams_params (p : DriveParams) (w : WorkState) (s : State) :
    (replaceParams p w s).dtu.params = p ∧ (replaceParams p w s).dtu.paramState = w := by
  rw [replaceParams_sameUnits p w s]
  exact unbindUnobserved_params { s.dtu with params := p, paramState := w }

/-- F7 and its timer. -/
def MismatchClear (s : State) : Prop := s.run.mismatch = none ∧ s.run.flags.speedMismatch = false

theorem WarningsOnly.mismatchClear {s t : State} (h : WarningsOnly s t) : Preserves MismatchClear s t := fun hs => by
  unfold MismatchClear
  rw [h.mismatch, h.flags]
  exact hs

theorem mismatchCleared_clear (s : State) : MismatchClear (mismatchCleared s) := by
  have hframe := flagChange_frame .speedMismatch false { s with run.mismatch := none }
  unfold mismatchCleared MismatchClear
  rw [hframe.mismatch, hframe.flags]
  exact ⟨rfl, rfl⟩

theorem writeSlotSignal_mismatchClear (slot : Nat) (s : State) : Preserves MismatchClear s (writeSlotSignal slot s) := by
  unfold writeSlotSignal
  split
  · exact fun hs => (conditionsOnSignal_frame _ _).mismatchClear hs
  · exact id

theorem replaceParams_mismatchClear (p : DriveParams) (w : WorkState) (s : State) : MismatchClear (replaceParams p w s) := by
  have hassessed : MismatchClear (recordsAssessed p (mismatchCleared (recordRebound p w s))) := mismatchCleared_clear _
  rw [replaceParams_eq]
  generalize recordsAssessed _ _ = u at hassessed ⊢
  have hwritten : MismatchClear (writeSlotSignals u) :=
    writeSlotSignal_mismatchClear 2 _ (writeSlotSignal_mismatchClear 1 _ hassessed)
  generalize writeSlotSignals u = u' at hwritten ⊢
  have hstaged := (stageChanges_frame s u').mismatchClear hwritten
  generalize stageChanges s u' = staged at hstaged ⊢
  exact (noticeIfOn_frame _ _).mismatchClear ((refreshUnsynced_frame staged).mismatchClear hstaged)

/-- R127: a Drive-time notice follows. -/
theorem replaceParams_stands {p : DriveParams} {w : WorkState} {s : State} (h : noticing s = true) :
    NoticeStands .drivetime (replaceParams p w s) := by
  have hmode := (replaceParams_driveOnly p w s).mode
  rw [replaceParams_eq, (noticeIfOn_frame _ _).mode] at hmode
  rw [replaceParams_eq]
  refine noticeIfOn_stands ?_
  rw [noticing, hmode]
  exact h

/-! ## An activation (R75, R163) -/

/-- R163, step 1: the failures counted. -/
def failuresCounted (new : NewTables) (s : State) : State :=
  { s with run.mc.disabledCount := new.failures.length, run.mu.storeDiffers := false }

/-- An activation up to the new working record. -/
def activationReplaced (new : NewTables) (levels : BitVec 16) (s : State) : State :=
  let s1 := flagChange .configFault (decide (new.failures.length ≠ 0)) (failuresCounted new s)
  replaceParams new.params new.drive.workState (startSampling levels { s1 with run.tables := new.working })

theorem activate_eq (new : NewTables) (levels : BitVec 16) (s : State) :
    activate new levels s = firstEvaluation (filterAlerts (activationReplaced new levels s)) := rfl

/-- What steps 5 to 7 leave alone: the first evaluation starts from reset records. -/
theorem activate_frame (new : NewTables) (levels : BitVec 16) (s : State) :
    WarningsOnly { filterAlerts (activationReplaced new levels s) with run.cu.evaluating := true }
      (activate new levels s) := by
  rw [activate_eq]
  generalize filterAlerts _ = u
  exact .trans (t := { u with run.cu.evaluating := true, run.cu.recs := List.replicate 64 CondRec.initial }) ⟨rfl, rfl⟩
    (runTasks_frame _ _)

theorem activate_recs (new : NewTables) (levels : BitVec 16) (s : State) : (activate new levels s).run.cu.recs.length = 64 := by
  rw [activate_eq]
  generalize filterAlerts _ = u
  exact (runTasks_counts _ _).1.trans List.length_replicate

theorem activate_dtu (new : NewTables) (levels : BitVec 16) (s : State) :
    (activate new levels s).dtu = (activationReplaced new levels s).dtu :=
  (activate_frame new levels s).dtu.trans (filterAlerts_frame _).dtu

theorem activate_params (new : NewTables) (levels : BitVec 16) (s : State) :
    (activate new levels s).dtu.params = new.params ∧ (activate new levels s).dtu.paramState = new.drive.workState := by
  rw [activate_dtu]
  exact replaceParams_params _ _ _

theorem activate_mismatchClear (new : NewTables) (levels : BitVec 16) (s : State) : MismatchClear (activate new levels s) := by
  have hreplaced : MismatchClear (activationReplaced new levels s) := replaceParams_mismatchClear _ _ _
  have hfiltered := (filterAlerts_frame (activationReplaced new levels s)).mismatchClear hreplaced
  exact (activate_frame new levels s).mismatchClear hfiltered

theorem activate_sameFrames (new : NewTables) (levels : BitVec 16) (s : State) : SameFrames s (activate new levels s) := by
  have hflag : SameFrames s (flagChange .configFault (decide (new.failures.length ≠ 0)) (failuresCounted new s)) :=
    .trans (t := failuresCounted new s) (.of_signals rfl) (flagChange_sameFrames _ _ _)
  have hsampled (u : State) : SameFrames u (startSampling levels { u with run.tables := new.working }) := .of_signals rfl
  have hreplaced : SameFrames s (activationReplaced new levels s) :=
    (hflag.trans (hsampled _)).trans (replaceParams_sameFrames _ _ _)
  have hevaluating (u : State) : SameFrames u { u with run.cu.evaluating := true } := .of_signals rfl
  exact ((hreplaced.trans (filterAlerts_frame _).sameFrames).trans (hevaluating _)).trans (activate_frame new levels s).sameFrames

theorem filterAlerts_keepsDrivetime (s : State) : KeepsDrivetime s (filterAlerts s) := by
  refine .trans (.of_queues_eq ?_) (telltaleIfChanged_keepsDrivetime s _)
  rw [setAlerts_eq]
  rfl

theorem activate_stands {new : NewTables} {levels : BitVec 16} {s : State} (h : noticing s = true) :
    NoticeStands .drivetime (activate new levels s) := by
  have hreplaced : NoticeStands .drivetime (activationReplaced new levels s) := by
    refine replaceParams_stands ?_
    rw [noticing, startSampling, (flagChange_frame _ _ _).mode, putFlag_mode]
    exact h
  have hkeeps : KeepsDrivetime (filterAlerts (activationReplaced new levels s)) (activate new levels s) := by
    rw [activate_eq]
    generalize filterAlerts _ = u
    exact .trans (t := { u with run.cu.evaluating := true, run.cu.recs := List.replicate 64 CondRec.initial }) (.of_queues_eq rfl)
      (cascade_keepsDrivetime _ _ _)
  exact ((filterAlerts_keepsDrivetime _).trans hkeeps).noticeStands (activate_dtu new levels s) hreplaced

end Sys2Proof.Machine
end

section
/-! PROOFS. The gauges-and-lamps phase begins (R48, R51, R87, R164), and the end of a STARTUP validation. -/

namespace Sys2Proof.Machine

/-! ## A notice that stands while another is placed (R18) -/

theorem setPending_pendingOf_ne {k k' : NoticeType} (h : k ≠ k') (q : Queues) (f : Option NoticeFrames) :
    (q.setPending k' f).pendingOf k = q.pendingOf k := by
  cases k <;> cases k' <;> simp_all [Queues.setPending, Queues.pendingOf]

/-- A notice of another type leaves the one that stands. -/
theorem NoticeStands.beside {k k' : NoticeType} (h : k ≠ k') {s : State} (hs : NoticeStands k s) :
    NoticeStands k (placeNotice k' s) := by
  have hframes : noticeFrames (placeNotice k' s) k = noticeFrames s k := noticeFrames_queues s _ k
  have horigin {o : NoticeType} (ho : o = k) : Origin.notice o ≠ .notice k' := by
    rw [ho]
    exact fun heq => h (Origin.notice.inj heq)
  unfold NoticeStands at hs ⊢
  rw [hframes, placeNotice_queues]
  unfold Queues.placeNotice
  split
  · split
    · rw [setPending_pendingOf_ne h, setPending_duq]
      exact hs
    · refine hs.imp_left ?_
      rintro ⟨e, he, ho, hwaits⟩
      exact ⟨e, mem_replaceFrame_of_ne he (ho ▸ horigin rfl), ho, hwaits⟩
  · refine hs.imp ?_ id
    rintro ⟨e, he, hwaits⟩
    exact ⟨e, List.mem_append_left _ he, hwaits⟩

/-! ## What an activation leaves -/

/-- `a` is `s` after an activation of `new`, as far as the phase that follows reads it. -/
structure Activated (new : NewTables) (levels : BitVec 16) (s a : State) : Prop where
  base : DriveOnly (activationBase new levels s) a
  params : a.dtu.params = new.params
  paramState : a.dtu.paramState = new.drive.workState
  mismatch : MismatchClear a
  recs : a.run.cu.recs.length = 64
  frames : SameFrames s a
  drivetime : NoticeStands .drivetime a

theorem activate_activated {new : NewTables} {levels : BitVec 16} {s : State} (h : noticing s = true) :
    Activated new levels s (activate new levels s) where
  base := activate_driveOnly new levels s
  params := (activate_params new levels s).1
  paramState := (activate_params new levels s).2
  mismatch := activate_mismatchClear new levels s
  recs := activate_recs new levels s
  frames := activate_sameFrames new levels s
  drivetime := activate_stands h

/-! ## The phase begins (R164) -/

def phaseBegun (s : State) : State := { s with phase := .gaugesAndLamps, run.mc.lampCheckEnded := false }

def gaugesPlaced (s : State) : State :=
  evaluateF6 (mapChannels (placeChannel (phaseBegun s)) (phaseBegun s))

/-- The phase up to the question whether STARTUP ends. -/
def phaseShown (s : State) : State := placeNotice .telltale (startLampCheck (reportGauges (gaugesPlaced s)))

theorem beginGaugesAndLamps_eq (s : State) : beginGaugesAndLamps s = startupCheck (phaseShown s) := rfl

def placedChannels (s : State) : List Channel := mapFrom (placeChannel (phaseBegun s)) 0 s.run.gu.channels

/-- What the phase sets, but for the warnings path. -/
def phaseBase (s : State) : State :=
  { s with
    phase := .gaugesAndLamps
    run := { s.run with
      gu.channels := placedChannels s
      flags.gaugeFault := (placedChannels s).any fun c => decide (c.state = .fault)
      tu.lampCheck := if 100 * s.dtu.params.cluster = 0 then none else some (100 * s.dtu.params.cluster)
      mc := { s.run.mc with
        lampCheckEnded := decide (100 * s.dtu.params.cluster = 0)
        gaugesStarted := (placedChannels s).all channelStarted
        gaugesAtRest := (placedChannels s).all channelAtRest } } }

theorem gaugesPlaced_frame (s : State) : WarningsOnly
    { phaseBegun s with run.gu.channels := placedChannels s
                        run.flags.gaugeFault := (placedChannels s).any fun c => decide (c.state = .fault) }
    (gaugesPlaced s) := flagChange_frame .gaugeFault _ _

/-- R87: the lamp check's duration and report. -/
def lampCheckBase (s : State) : State :=
  { s with run.tu.lampCheck := if 100 * s.dtu.params.cluster = 0 then none else some (100 * s.dtu.params.cluster)
           run.mc.lampCheckEnded := decide (100 * s.dtu.params.cluster = 0) }

theorem startLampCheck_frame (s : State) : WarningsOnly (lampCheckBase s) (startLampCheck s) :=
  (chimeRequest_frame .check _).trans (driveLamps_frame _)

theorem WarningsOnly.lampCheckBase {s t : State} (h : WarningsOnly s t) : WarningsOnly (lampCheckBase s) (lampCheckBase t) := by
  refine ⟨?_, h.2⟩
  rw [h.1]
  rfl

theorem phaseShown_frame (s : State) : WarningsOnly (phaseBase s) (phaseShown s) := by
  have hreported := (gaugesPlaced_frame s).reportGauges
  exact (hreported.lampCheckBase.trans (startLampCheck_frame _)).trans (placeNotice_frame _ _)

theorem placeNotice_still (k : NoticeType) (s : State) : Still s (placeNotice k s) :=
  ⟨rfl, rfl, rfl, rfl, rfl, rfl, rfl, rfl, rfl, rfl, rfl⟩

theorem phaseShown_lit (s : State) : Lit (phaseShown s) := (placeNotice_still .telltale _).lit (Lit.driveLamps _)

theorem phaseShown_telltale (s : State) : NoticeStands .telltale (phaseShown s) := placeNotice_stands _ _

theorem startLampCheck_queues (s : State) : (startLampCheck s).run.queues = s.run.queues := by
  have hdriven : startLampCheck s = driveLamps (chimeRequest .check (lampCheckBase s)) := rfl
  rw [hdriven, chimeRequest_eq]
  rfl

theorem phaseShown_drivetime {s : State} (h : NoticeStands .drivetime s) : NoticeStands .drivetime (phaseShown s) := by
  have hplaced : KeepsDrivetime s (gaugesPlaced s) :=
    .trans (t := mapChannels (placeChannel (phaseBegun s)) (phaseBegun s)) (.of_queues_eq rfl) (flagChange_keepsDrivetime _ _ _)
  have hchecked : KeepsDrivetime s (startLampCheck (reportGauges (gaugesPlaced s))) :=
    hplaced.trans (.of_queues_eq (startLampCheck_queues _))
  exact (hchecked.trans (placeNotice_keepsDrivetime (by decide) _)).noticeStands (phaseShown_frame s).dtu h

theorem phaseShown_counts (s : State) : SameCounts s (phaseShown s) := by
  have hplaced : SameCounts s (gaugesPlaced s) :=
    .trans (t := mapChannels (placeChannel (phaseBegun s)) (phaseBegun s)) ⟨rfl, rfl⟩ (flagChange_counts _ _ _)
  have hchecked (u : State) : SameCounts u (startLampCheck u) :=
    (chimeRequest_counts .check (lampCheckBase u)).trans (driveLamps_counts _)
  exact (hplaced.trans (.trans (t := reportGauges (gaugesPlaced s)) ⟨rfl, rfl⟩ (hchecked _))).trans ⟨rfl, rfl⟩

/-! ## Whether STARTUP ends (R164) -/

/-- What is left to wait for when the phase begins. -/
def PhaseEnds (s : State) : Prop :=
  (phaseBase s).run.mc.gaugesStarted = true ∧ (phaseBase s).run.mc.lampCheckEnded = true

/-- The phase goes on, or STARTUP ends in RUN: the rest is as the phase has set it. -/
structure PhaseBegins (s t : State) : Prop where
  frame : WarningsOnly { phaseBase s with mode := t.mode, phase := t.phase } t
  lit : Lit t
  telltale : NoticeStands .telltale t
  drivetime : NoticeStands .drivetime t
  recs : t.run.cu.recs.length = s.run.cu.recs.length
  ends : PhaseEnds s → t.mode = .run ∧ t.phase = .none ∧ NoticeStands .status t
  goesOn : ¬ PhaseEnds s → t.mode = .startup ∧ t.phase = .gaugesAndLamps

theorem beginGaugesAndLamps_begins {s : State} (hmode : s.mode = .startup) (hdrivetime : NoticeStands .drivetime s) :
    PhaseBegins s (beginGaugesAndLamps s) := by
  have hframe := phaseShown_frame s
  have hlit := phaseShown_lit s
  have htelltale := phaseShown_telltale s
  have hdrive := phaseShown_drivetime hdrivetime
  have hrecs := (phaseShown_counts s).1
  rw [beginGaugesAndLamps_eq]
  generalize phaseShown s = u at hframe hlit htelltale hdrive hrecs ⊢
  have humode : u.mode = .startup := hframe.mode.trans hmode
  have huphase : u.phase = .gaugesAndLamps := hframe.phase
  by_cases hends : PhaseEnds s
  · rw [startupCheck_starts ⟨humode, huphase, (congrArg Mc.gaugesStarted hframe.mc).trans hends.1,
      (congrArg Mc.lampCheckEnded hframe.mc).trans hends.2⟩]
    let ended : State := { u with mode := .run, phase := .none }
    have hended : WarningsOnly { phaseBase s with mode := .run, phase := .none } ended := by
      refine ⟨?_, hframe.2⟩
      rw [show ended = { u with mode := .run, phase := .none } from rfl, hframe.1]
    have hnoticed : noticeIfOn .status ended = placeNotice .status ended := if_pos rfl
    rw [hnoticed]
    refine ⟨hended.trans (placeNotice_frame _ _), ?_, ?_, ?_, hrecs, fun _ => ⟨rfl, rfl, placeNotice_stands _ _⟩, fun h => absurd hends h⟩
    · exact (placeNotice_still _ _).lit fun n r hr => (hlit n r hr).trans (lampOutput_startupEnds humode n r).symm
    · exact NoticeStands.beside (by decide) htelltale
    · exact NoticeStands.beside (by decide) hdrive
  · have hsame : startupCheck u = u := if_neg fun ⟨_, _, hgauges, hcheck⟩ =>
      hends ⟨(congrArg Mc.gaugesStarted hframe.mc).symm.trans hgauges, (congrArg Mc.lampCheckEnded hframe.mc).symm.trans hcheck⟩
    rw [hsame]
    refine ⟨?_, hlit, htelltale, hdrive, hrecs, fun h => absurd h hends, fun _ => ⟨humode, huphase⟩⟩
    rw [hframe.mode, hframe.phase]
    exact hframe

/-! ## The end of a STARTUP validation -/

theorem exec_validationComplete {s : State} {levels : BitVec 16} (hdue : due s = false) (hval : startupValidating s = true) :
    exec (.validationComplete levels) s = .next (completeStartup levels s) := by
  calc exec (.validationComplete levels) s = execValidationComplete levels s := rfl
    _ = .next (completeStartup levels s) := by rw [execValidationComplete, after_of_not_due _ hdue, if_pos hval]

section
variable {new : NewTables} {levels : BitVec 16} {s a : State} (h : Activated new levels s a)
include h

theorem Activated.tables : a.run.tables = new.working := h.base.tables

theorem Activated.gaugeAt (n : Nat) : Machine.gaugeAt a n = entryAt new.gauges n := by
  rw [Machine.gaugeAt, h.tables]
  rfl

theorem Activated.supplyFault : Machine.supplyFault a = (s.run.flags.underVoltage || s.run.flags.overVoltage) := by
  rw [Machine.supplyFault, h.base.flags]
  rfl

/-- What no step of an activation writes. -/
theorem Activated.untouched : a.store = s.store ∧ a.nodeAddress = s.nodeAddress ∧ a.din0 = s.din0 ∧ a.run.vli = s.run.vli ∧
    a.run.dli = s.run.dli ∧ a.run.queues.vtq = s.run.queues.vtq ∧ a.run.queues.drq = s.run.queues.drq := by
  have hbase := h.base
  unfold activationBase startSampling at hbase
  dsimp only at hbase
  exact ⟨hbase.store, hbase.nodeAddress, hbase.din0, hbase.vli, hbase.dli, hbase.vtq, hbase.drq⟩

/-- R48: each channel is placed by its descriptor. -/
theorem Activated.placed {n : Nat} {c : Channel} (hc : s.run.gu.channels[n]? = some c) :
    (placedChannels a)[n]? = some (placeChannel (phaseBegun a) n c) := by
  have hgu : a.run.gu.channels = s.run.gu.channels := congrArg Gu.channels h.base.gu
  rw [placedChannels, mapFrom_getElem?, hgu, hc, Option.map_some, Nat.zero_add]

theorem Activated.debounceAt {n : Nat} (hn : n < 16) {low long : Bool} {role : Role}
    (hc : entryAt new.inputs n = some (.switch low long role)) :
    Machine.debounceAt a n = { active := levels.getLsbD n != low, count := 0 } := by
  have hinputs : a.run.iu.inputs = (startSampling levels { s with run.tables := new.working }).run.iu.inputs :=
    congrArg Iu.inputs h.base.iu
  rw [Machine.debounceAt, hinputs, List.getD_eq_getElem?_getD]
  dsimp only [startSampling, sampleInputs]
  rw [map_range_getElem? _ hn]
  dsimp only [Option.getD_some]
  rw [show inputAt { s with run.tables := new.working } n = some (.switch low long role) from hc]

end

end Sys2Proof.Machine
end

section
/-! PROOFS. The end of a STARTUP validation puts its tables in force (R162, R163). -/

namespace Sys2Proof.Machine

theorem thresholdCode_supply {s : State} {code : Nat} (h : inputAt s 0 = some (.supply code)) : thresholdCode s = code := by
  rw [thresholdCode, h]

theorem thresholdCode_none {s : State} (h : inputAt s 0 = none) : thresholdCode s = 8 := by
  rw [thresholdCode, h]
  rfl

/-- Settles O45: the tables judged by their rules; the activation, and the phase that begins on it. -/
theorem validationPutsTablesInForce : Obligations.ValidationPutsTablesInForce := by
  unfold Obligations.ValidationPutsTablesInForce
  refine ⟨fun m => ⟨validationLaw m, fun i k r q => validate_no_conflict⟩, fun s levels hdue hmode hphase hval => ?_⟩
  have hstartup : startupValidating s = true := by simp [startupValidating, hmode, hphase, hval]
  have hnoticing : noticing { s with run.mc.validation := none } = true := by simp [noticing, hmode]
  have hactivated := activate_activated (new := validate s.store) (levels := levels) hnoticing
  refine ⟨_, exec_validationComplete hdue hstartup, ?_⟩
  unfold completeStartup
  generalize validate s.store = new at hactivated ⊢
  generalize activate new levels { s with run.mc.validation := none } = a at hactivated ⊢
  have hbegins := beginGaugesAndLamps_begins (hactivated.base.mode.trans hmode) hactivated.drivetime
  generalize beginGaugesAndLamps a = t at hbegins ⊢
  have hframe := hbegins.frame
  have hbase := hactivated.base
  have hparams : t.dtu.params = new.params := (congrArg Dtu.params hframe.dtu).trans hactivated.params
  have hchannels : t.run.gu.channels = placedChannels a := congrArg Gu.channels hframe.gu
  have hcheck : t.run.tu.lampCheck = (phaseBase a).run.tu.lampCheck := hframe.lampCheck
  have hstarted : t.run.mc.gaugesStarted = (phaseBase a).run.mc.gaugesStarted := congrArg Mc.gaugesStarted hframe.mc
  have hended : t.run.mc.lampCheckEnded = (phaseBase a).run.mc.lampCheckEnded := congrArg Mc.lampCheckEnded hframe.mc
  have hflags : t.run.flags = (phaseBase a).run.flags := hframe.flags
  have hcluster (n : Nat) : 100 * n = 0 ↔ n = 0 := by omega
  refine ⟨?_, fun hs he => ?_, fun hor => ?_, fun n r hr => ?_, hbegins.telltale, hbegins.drivetime, ?_⟩
  · intro new' count supply enters placed
    have hmc : t.run.mc = (phaseBase a).run.mc := hframe.mc
    have hiu : t.run.iu = a.run.iu := hframe.iu
    refine ⟨hframe.tables.trans hactivated.tables, ?_, ?_, ?_, hparams, ?_, ?_, ?_, ?_, ?_, fun n low long role hn hc => ?_,
      fun code hc => ?_, fun hc => ?_, ?_, ?_, ?_, ?_, fun n c hc => ?_, ?_, ?_, ?_, ?_⟩
    · rw [hmc]
      exact congrArg Mc.disabledCount hbase.mc
    · rw [hflags]
      exact congrArg Flags.configFault hbase.flags
    · rw [hframe.mu]
      exact congrArg Mu.storeDiffers hbase.mu
    · exact (congrArg Dtu.paramState hframe.dtu).trans hactivated.paramState
    · rw [hmc]
      exact congrArg Mc.validation hbase.mc
    · exact hframe.mismatch.trans hactivated.mismatch.1
    · rw [hflags]
      exact hactivated.mismatch.2
    · rw [hiu]
      exact congrArg Iu.sampling hbase.iu
    · rw [debounceAt, hiu]
      exact hactivated.debounceAt hn hc
    · rw [hiu, hbase.iu]
      exact thresholdCode_supply hc
    · rw [hiu, hbase.iu]
      exact thresholdCode_none hc
    · rw [hiu, hbase.iu]
      exact ⟨rfl, rfl, rfl, rfl⟩
    · exact hframe.evaluating.trans hbase.evaluating
    · exact hbegins.recs.trans hactivated.recs
    · rw [hchannels, placedChannels, mapFrom_length]
      exact congrArg (fun g => g.channels.length) hbase.gu
    · have hsupply : supplyFault (phaseBegun a) = supply := hactivated.supplyFault
      have hgauge : gaugeAt (phaseBegun a) n = entryAt new.gauges n := hactivated.gaugeAt n
      rw [hchannels, hactivated.placed hc, placeChannel, hgauge, hsupply]
      rfl
    · rw [hflags, hchannels]
      rfl
    · rw [hcheck, hparams, ← hactivated.params]
      simp only [phaseBase, hcluster]
    · rw [hended, hparams, ← hactivated.params]
      simp only [phaseBase, hcluster]
    · rw [hstarted, hchannels]
      rfl
  · exact hbegins.ends ⟨hstarted.symm.trans hs, hended.symm.trans he⟩
  · refine hbegins.goesOn fun hends => ?_
    rw [hstarted, hended, hends.1, hends.2] at hor
    simp at hor
  · rw [hbegins.lit n r hr]
    exact lampOutput_iff _ _ _
  · have hframes : SameFrames { s with run.mc.validation := none } t := hactivated.frames.trans (.of_signals hframe.signals)
    obtain ⟨hstore, haddress, hdin0, hvli, hdli, hvtq, hdrq⟩ := hactivated.untouched
    rw [← hstore, ← haddress, ← hdin0, ← hvli, ← hdli, ← hvtq, ← hdrq]
    exact ⟨hframe.store, hframe.nodeAddress, hframe.din0, hframe.vli, hframe.dli, hframe.vtq, hframe.drq, hframes.entry⟩

end Sys2Proof.Machine
end

section
/-! PROOFS. What an activation and the restart leave of the lamps, the chime and the queues (R163, R168). -/

namespace Sys2Proof.Machine

/-! ## Relations that an activation keeps -/

namespace Warn

section
variable {W : State → State → Prop} (h : Warn W)
  (hside : ∀ {s t}, t.mode = s.mode → t.run.tu = s.run.tu → t.run.queues = s.run.queues → W s t)
include h hside

theorem flagChanged (f : FlagId) (v : Bool) (s : State) : W s (flagChange f v s) := by
  rcases h.flagDelivered f v s with hsame | hchanged
  · rw [hsame]
    exact h.refl s
  · exact h.trans (hside (putFlag_mode s f v) (putFlag_tu s f v) (putFlag_queues s f v)) hchanged

theorem slotSignal (slot : Nat) (s : State) : W s (writeSlotSignal slot s) := by
  unfold writeSlotSignal
  split
  · exact h.trans (t := putSignal s (160 + slot) (slotEntry s slot)) (hside rfl rfl rfl) (h.tasks.runTasks _ _)
  · exact h.refl s

theorem slotSignals (s : State) : W s (writeSlotSignals s) := h.trans (h.slotSignal hside 1 s) (h.slotSignal hside 2 _)

omit hside in
theorem stageChange (slot : Nat) (before : Stage) (s : State) : W s (stageChange slot before s) := by
  unfold Machine.stageChange
  split
  · exact h.refl s
  · exact h.tasks.runTasks _ _

theorem bindingOutputs (slot : Nat) (before : Stage) (s : State) : W s (bindingOutputs slot before s) := by
  unfold Machine.bindingOutputs
  refine h.trans ?_ (h.noticeIfOn _ _)
  have hstage := h.trans (h.slotSignal hside slot s) (h.stageChange slot before _)
  split
  · exact h.trans hstage (h.flagChanged hside _ _ _)
  · exact hstage

theorem putBindings (t : Dtu) (s : State) : W s (putBindings t s) := by
  have hput : W s { s with dtu := t } := hside rfl rfl rfl
  have hfirst : W s (if t.slot1 = s.dtu.slot1 then { s with dtu := t }
      else Machine.bindingOutputs 1 (slotStage s 1) { s with dtu := t }) := by
    split
    · exact hput
    · exact h.trans hput (h.bindingOutputs hside _ _ _)
  unfold Machine.putBindings
  dsimp only
  split
  · exact hfirst
  · exact h.trans hfirst (h.bindingOutputs hside _ _ _)

theorem replaceParams (p : DriveParams) (w : WorkState) (s : State) : W s (replaceParams p w s) := by
  have hbound : W s (recordRebound p w s) :=
    h.trans (t := { s with dtu.params := p, dtu.paramState := w }) (hside rfl rfl rfl) (h.putBindings hside _ _)
  have hcleared (u : State) : W u (mismatchCleared u) :=
    h.trans (t := { u with run.mismatch := none }) (hside rfl rfl rfl) (h.flagChanged hside _ _ _)
  have hassessed (u : State) : W u (recordsAssessed p u) := hside rfl rfl rfl
  have hstages (before u : State) : W u (stageChanges before u) := h.trans (h.stageChange 1 _ u) (h.stageChange 2 _ _)
  rw [replaceParams_eq]
  exact h.trans (h.trans (h.trans (h.trans (h.trans (h.trans hbound (hcleared _)) (hassessed _)) (h.slotSignals hside _))
    (hstages s _)) (h.flagChanged hside _ _ _)) (h.noticeIfOn _ _)

theorem activate (new : NewTables) (levels : BitVec 16) (s : State) : W s (activate new levels s) := by
  have hcounted : W s (failuresCounted new s) := hside rfl rfl rfl
  have hsampled (u : State) : W u (startSampling levels { u with run.tables := new.working }) := hside rfl rfl rfl
  have hevaluated (u : State) : W u (firstEvaluation u) :=
    h.trans (t := { u with run.cu.evaluating := true, run.cu.recs := List.replicate 64 CondRec.initial }) (hside rfl rfl rfl)
      (h.tasks.runTasks _ _)
  rw [activate_eq, activationReplaced]
  exact h.trans (h.trans (h.trans (h.trans (h.trans hcounted (h.flagChanged hside _ _ _)) (hsampled _))
    (h.replaceParams hside _ _ _)) (h.filterAlerts _)) (hevaluated _)

theorem restartShown (s : State) : W s (restartShown s) :=
  h.trans (h.trans (h.slotSignals hside s) (h.drive _)) (h.notice _ _)

end

end Warn

/-! ## What the restart keeps at its reset value -/

/-- The warnings path of a run domain that the restart has just reset, while the mode is still SERVICE. -/
structure RestartRest (s : State) : Prop where
  mode : s.mode = .service
  chime : s.run.tu.chime = Chime.initial
  lamps : ∀ r ∈ s.run.tu.lamps, r.load = .ok ∧ r.forced = none
  replies : repliesOf s.run.queues.duq = []

theorem RestartRest.of_same {s t : State} (hmode : t.mode = s.mode) (htu : t.run.tu = s.run.tu)
    (hqueues : t.run.queues = s.run.queues) : Preserves RestartRest s t := fun h =>
  ⟨hmode.trans h.mode, by rw [htu]; exact h.chime, by rw [htu]; exact h.lamps, by rw [hqueues]; exact h.replies⟩

theorem restartRest_warn : Warn (Preserves RestartRest) where
  refl _ := id
  trans h h' hs := h' (h hs)
  notice k s hs := ⟨hs.mode, hs.chime, hs.lamps, (placeNotice_frame k s).2.trans hs.replies⟩
  record _ _ _ := .of_same rfl rfl rfl
  view s j now hs := by
    refine ⟨hs.mode, hs.chime, fun r hr => ?_, hs.replies⟩
    obtain ⟨n, a, ha, rfl⟩ := mem_mapFrom hr
    unfold lampChange
    split
    · split
      · exact hs.lamps a ha
      · exact hs.lamps a ha
    · exact hs.lamps a ha
  blink s hs := by
    refine ⟨hs.mode, hs.chime, fun r hr => ?_, hs.replies⟩
    obtain ⟨a, ha, rfl⟩ := List.mem_map.1 hr
    exact hs.lamps a ha
  drive s hs := by
    refine ⟨hs.mode, hs.chime, fun r hr => ?_, hs.replies⟩
    obtain ⟨n, a, ha, rfl⟩ := mem_mapFrom hr
    exact hs.lamps a ha
  alerts {s l} _ hs := by
    unfold setAlerts withdrawIfNone
    split
    · refine ⟨hs.mode, ?_, hs.lamps, hs.replies⟩
      dsimp only
      rw [hs.chime]
      rfl
    · exact ⟨hs.mode, hs.chime, hs.lamps, hs.replies⟩
  request p s hs := by
    have hoff : chimeRequest p s = s := chimeRequest_off (by rw [hs.mode]; decide)
    rw [hoff]
    exact hs

end Sys2Proof.Machine
end

section
/-! PROOFS. LEAVE SERVICE: its validation, its refusal and the restart (R59, R168, R181). -/

namespace Sys2Proof.Machine

/-! ## The state before the REPLY -/

/-- The restart up to the entry into RUN. -/
def restartDone (levels : BitVec 16) (s : State) : State :=
  restartShown (restartPlaced (activate (validate (restartReset s).store) levels (restartReset s)))

theorem restarted_eq (levels : BitVec 16) (s : State) :
    restarted levels s = placeNotice .status { restartDone levels s with mode := .run } := by
  have hruns : restarted levels s = noticeIfOn .status { restartDone levels s with mode := .run } := rfl
  have hon (u : State) : noticeIfOn .status { u with mode := .run } = placeNotice .status { u with mode := .run } := if_pos rfl
  exact hruns.trans (hon _)

theorem restartReset_store (s : State) : (restartReset s).store = s.store := rfl

theorem restartReset_rest {s : State} (h : s.mode = .service) : RestartRest (restartReset s) where
  mode := h
  chime := rfl
  lamps r hr := by
    have hinitial : (restartReset s).run.tu.lamps = Tu.initial.lamps := rfl
    rw [hinitial] at hr
    obtain rfl := List.eq_of_mem_replicate (a := LampRec.initial) (n := 32) hr
    exact ⟨rfl, rfl⟩
  replies := rfl

theorem restartDone_rest {s : State} (h : s.mode = .service) (levels : BitVec 16) : RestartRest (restartDone levels s) := by
  have hactivated := restartRest_warn.activate .of_same (validate (restartReset s).store) levels _ (restartReset_rest h)
  unfold restartDone
  generalize activate _ _ _ = a at hactivated ⊢
  refine restartRest_warn.restartShown .of_same _ ?_
  exact ⟨hactivated.mode, hactivated.chime, hactivated.lamps, hactivated.replies⟩

theorem restartDone_telltale (levels : BitVec 16) (s : State) : NoticeStands .telltale (restartDone levels s) :=
  placeNotice_stands _ _

/-- The Drive-Time parameters, F7 and the signals up to 160 are those that the activation left. -/
theorem restartDone_activated (levels : BitVec 16) (s : State) :
    (restartDone levels s).dtu.params = (validate s.store).params ∧ MismatchClear (restartDone levels s) ∧
      SameFrames (restartReset s) (restartDone levels s) := by
  have hparams := (activate_params (validate (restartReset s).store) levels (restartReset s)).1
  have hclear := activate_mismatchClear (validate (restartReset s).store) levels (restartReset s)
  have hframes := activate_sameFrames (validate (restartReset s).store) levels (restartReset s)
  unfold restartDone
  rw [restartReset_store] at hparams hclear hframes ⊢
  generalize validate s.store = new at hparams hclear hframes ⊢
  generalize activate new levels (restartReset s) = a at hparams hclear hframes ⊢
  have hslots : SameUnits a (writeSlotSignals (restartPlaced a)) :=
    .trans (t := restartPlaced a) rfl ((writeSlotSignal_sameUnits 1 _).trans (writeSlotSignal_sameUnits 2 _))
  have hshown : WarningsOnly (writeSlotSignals (restartPlaced a)) (restartShown (restartPlaced a)) :=
    (driveLamps_frame _).trans (placeNotice_frame _ _)
  refine ⟨?_, ?_, ?_⟩
  · rw [hslots.trans hshown.sameUnits]
    exact hparams
  · have hwritten : MismatchClear (writeSlotSignals (restartPlaced a)) :=
      writeSlotSignal_mismatchClear 2 _ (writeSlotSignal_mismatchClear 1 (restartPlaced a) hclear)
    exact hshown.mismatchClear hwritten
  · have hplaced : SameFrames a (restartPlaced a) := .of_signals rfl
    exact ((hframes.trans hplaced).trans (writeSlotSignals_sameFrames _)).trans hshown.sameFrames

/-! ## The state that is answered -/

/-- `u` is `s` after the restart, before its REPLY. -/
structure Restarted (new : NewTables) (levels : BitVec 16) (s u : State) : Prop where
  base : DriveOnly (restartedBase new levels s) u
  params : u.dtu.params = new.params
  mismatch : MismatchClear u
  frames : SameFrames (restartReset s) u
  lamps : ∀ r ∈ u.run.tu.lamps, r.load = .ok ∧ r.forced = none
  chime : u.run.tu.chime = Chime.initial
  replies : repliesOf u.run.queues.duq = []
  telltale : NoticeStands .telltale u
  status : NoticeStands .status u

theorem restarted_restarted {s : State} (h : s.mode = .service) (levels : BitVec 16) :
    Restarted (validate s.store) levels s (restarted levels s) := by
  have hbase := restarted_driveOnly levels s
  obtain ⟨hparams, hclear, hframes⟩ := restartDone_activated levels s
  have hrest := restartDone_rest h levels
  have htelltale := restartDone_telltale levels s
  rw [restarted_eq] at hbase ⊢
  generalize restartDone levels s = u at *
  exact ⟨hbase, hparams, hclear, ⟨hframes.length, hframes.entry⟩, hrest.lamps, hrest.chime,
    (placeNotice_frame .status _).2.trans hrest.replies, NoticeStands.beside (by decide) htelltale, placeNotice_stands _ _⟩

/-- The result REPLY placed in queues that hold no REPLY (R175, R176). -/
structure Answered (u t : State) (cmd : Command) (e : QEntry) : Prop where
  eq : t = { u with run.mu.phase := .replyQueued
                    run.queues.vtq := if cmd.link = .vehicle then [e] else u.run.queues.vtq
                    run.queues.duq := if cmd.link = .display then u.run.queues.duq ++ [e] else u.run.queues.duq }

theorem Replied.answered {u t : State} {cmd : Command} {code : Byte} (h : Replied u t cmd [code] none)
    (hvtq : u.run.queues.vtq = []) :
    Answered u t cmd { frame0 := replyTo u cmd [code], frame1 := none, origin := .resultReply, inFlight := false, part := 0
                       attempted := false, errors := 0 } := by
  obtain ⟨hdisplay, hvehicle, -⟩ := h
  constructor
  cases hlink : cmd.link with
  | display => exact hdisplay hlink
  | vehicle =>
    refine (hvehicle hlink (by rw [hvtq]; decide)).trans ?_
    rw [hvtq]
    rfl

theorem Answered.stands {u t : State} {cmd : Command} {e : QEntry} (h : Answered u t cmd e) {k : NoticeType}
    (hs : NoticeStands k u) : NoticeStands k t := by
  have hframes : noticeFrames t k = noticeFrames u k := by
    rw [h.eq]
    cases k <;> rfl
  unfold NoticeStands at hs ⊢
  rw [hframes, h.eq]
  refine hs.imp ?_ (Eq.trans ?_)
  · rintro ⟨x, hx, hwaits⟩
    refine ⟨x, ?_, hwaits⟩
    dsimp only
    split
    · exact List.mem_append_left _ hx
    · exact hx
  · cases k <;> rfl

end Sys2Proof.Machine
end

section
/-! PROOFS. LEAVE SERVICE validates and restarts (R168, R181). -/

namespace Sys2Proof.Machine

theorem InHand.executing {s : State} {c : CmdCode} {cmd : Command} (h : InHand s c cmd) : Machine.executing s c = true := by
  obtain ⟨hphase, hcmd, hcode, -⟩ := h
  simp [Machine.executing, hphase, hcmd, hcode]

theorem InHand.leaveService_mode {s : State} {cmd : Command} (h : InHand s .leaveService cmd) : s.mode = .service := by
  obtain ⟨-, -, -, hmode⟩ := h
  cases hm : s.mode with
  | service => rfl
  | standby | startup | run | shutdown =>
    rw [hm] at hmode
    cases hmode

theorem InHand.serviceValidating {s : State} {cmd : Command} (h : InHand s .leaveService cmd)
    (hval : s.run.mc.validation.isSome = true) : Machine.serviceValidating s = true := by
  simp [Machine.serviceValidating, h.leaveService_mode, hval, h.executing]

theorem exec_leaveServiceValidationFail {s : State} (hdue : due s = false) (hval : serviceValidating s = true) :
    exec .leaveServiceValidationFail s = .next (failLeaveService s) := by
  calc exec .leaveServiceValidationFail s = execLeaveServiceValidationFail s := rfl
    _ = .next (failLeaveService s) := by rw [execLeaveServiceValidationFail, after_of_not_due _ hdue, if_pos hval]

theorem exec_leaveServiceRestart {s : State} (levels : BitVec 16) (hdue : due s = false) (hval : serviceValidating s = true)
    (hpass : (validate s.store).failures = []) :
    exec (.leaveServiceRestart levels) s = .next (answer .ok [] (restarted levels s)) := by
  calc exec (.leaveServiceRestart levels) s = execLeaveServiceRestart levels s := rfl
    _ = .next (answer .ok [] (restarted levels s)) := by
      rw [execLeaveServiceRestart, after_of_not_due _ hdue, if_pos hval, passLeaveService, if_pos hpass, restart_eq]

/-- R59: a released channel keeps what its placement reads. -/
theorem releaseChannel_position (supply : Bool) (c : Channel) :
    (releaseChannel supply c).known = c.known ∧ (releaseChannel supply c).pos = c.pos := by
  unfold releaseChannel enterMoving
  split
  · split <;> exact ⟨rfl, rfl⟩
  · exact ⟨rfl, rfl⟩

theorem restartChannel_cases {s : State} {n : Nat} {c d : Channel} (hknown : d.known = c.known) (hpos : d.pos = c.pos) :
    match gaugeAt s n with
    | none => (restartChannel s n d).state = .atRest ∧ (restartChannel s n d).known = false
    | some g =>
        if c.known = true ∧ c.pos ≤ g.span then
          (restartChannel s n d).state = .track ∧ (restartChannel s n d).known = true ∧ (restartChannel s n d).pos = c.pos ∧
            (restartChannel s n d).target = c.pos ∧ (restartChannel s n d).filt = 16 * c.pos ∧ (restartChannel s n d).forced = none
        else (restartChannel s n d).state = .homing ∧ (restartChannel s n d).known = false ∧
          (restartChannel s n d).homing = g.span + 200 := by
  rw [← hknown, ← hpos]
  unfold restartChannel
  cases gaugeAt s n with
  | none => exact ⟨rfl, rfl⟩
  | some g =>
    dsimp only
    split
    · next h => exact ⟨rfl, h.1, rfl, rfl, rfl, rfl⟩
    · exact ⟨rfl, rfl, rfl⟩

/-- What the steps 1 to 4 of an activation do not write. -/
theorem activationBase_kept (new : NewTables) (levels : BitVec 16) (s : State) :
    (activationBase new levels s).store = s.store ∧ (activationBase new levels s).nodeAddress = s.nodeAddress ∧
      (activationBase new levels s).din0 = s.din0 := by
  unfold activationBase startSampling
  exact ⟨rfl, rfl, rfl⟩

section
variable {new : NewTables} {levels : BitVec 16} {s u : State} (h : Restarted new levels s u)
include h

/-- The channels of the restart: released, then placed by the new descriptors. -/
theorem Restarted.channel {n : Nat} {c : Channel} (hc : s.run.gu.channels[n]? = some c) :
    u.run.gu.channels[n]? = some (restartChannel (activationBase new levels (restartReset s)) n
      (releaseChannel (supplyFault s) c)) := by
  have hchannels : (restartedBase new levels s).run.gu.channels =
      mapFrom (restartChannel (activationBase new levels (restartReset s))) 0
        (mapFrom (fun _ => releaseChannel (supplyFault s)) 0 s.run.gu.channels) := rfl
  rw [congrArg Gu.channels h.base.gu, hchannels, mapFrom_getElem?, mapFrom_getElem?, hc]
  simp

theorem Restarted.flags (hpass : new.failures = []) : u.run.flags =
    { Flags.initial with relayOverflow := s.run.flags.relayOverflow, addressConflict := s.run.flags.addressConflict } := by
  have hflags : (restartedBase new levels s).run.flags =
      { Flags.initial with relayOverflow := s.run.flags.relayOverflow, addressConflict := s.run.flags.addressConflict
                           configFault := decide (new.failures.length ≠ 0) } := rfl
  rw [h.base.flags, hflags, h.mismatch.2, hpass]
  rfl

/-- The Management Unit keeps its command. -/
theorem Restarted.mu : u.run.mu = { s.run.mu with busyQueued := false, storeDiffers := false } := h.base.mu

theorem Restarted.signal {k : Nat} (hk : k ≤ 160) : signalAt u k = { value := 0, status := .never } := by
  rw [h.frames.entry k hk]
  have hinitial : (restartReset s).run.signals = List.replicate 163 SigEntry.initial := rfl
  rw [signalAt, hinitial, List.getD_eq_getElem?_getD, List.getElem?_replicate, if_pos (by omega)]
  rfl

theorem Restarted.links : u.run.vli = restartVli s.run.vli ∧ u.run.dli = restartDli s.run.dli ∧
    u.run.queues.vtq = [] ∧ u.run.queues.drq = [] := ⟨h.base.vli, h.base.dli, h.base.vtq, h.base.drq⟩

theorem Restarted.kept : u.store = s.store ∧ u.nodeAddress = s.nodeAddress ∧ u.din0 = s.din0 := by
  obtain ⟨hstore, haddress, hdin0⟩ := activationBase_kept new levels (restartReset s)
  exact ⟨h.base.store.trans hstore, h.base.nodeAddress.trans haddress, h.base.din0.trans hdin0⟩

end

theorem repliesOf_append (l m : List QEntry) : repliesOf (l ++ m) = repliesOf l ++ repliesOf m := List.filter_append ..

/-- R168: the first failing entry is answered. -/
theorem failLeaveService_eq {s : State} {table : TableId} {i : Nat} {more : List (TableId × Nat)}
    (h : (validate s.store).failures = (table, i) :: more) : failLeaveService s =
      answer .refusedTable [byteOf table.code, byteOf i] { s with run.mc.validation := none } := by
  unfold failLeaveService
  rw [h]

/-- Settles O46: the command starts the validation; the first failing entry is answered; the restart by what its
steps leave, under the REPLY placed in queues that hold no other. -/
theorem leaveServiceValidatesAndRestarts : Obligations.LeaveServiceValidatesAndRestarts := by
  unfold Obligations.LeaveServiceValidatesAndRestarts
  intro s cmd hin e
  refine ⟨fun hnone => ?_, fun hdue hval => ⟨fun table i more hfailures => ?_, fun levels hpass => ?_⟩⟩
  · have hdue := hin.due (fun _ => hnone) (by simp)
    calc exec .leaveService s = .next (leaveServiceStep s) := rfl
      _ = .next { s with run.mc.validation := some 37500 } := by rw [leaveServiceStep, hdue]; rfl
  · refine ⟨_, exec_leaveServiceValidationFail hdue (hin.serviceValidating hval), ?_⟩
    rw [failLeaveService_eq hfailures]
    have hanswered := hin.answered (u := { s with run.mc.validation := none }) rfl hin.mode_ne .refusedTable
      [byteOf table.code, byteOf i]
    exact hanswered
  · intro new
    have hrestarted := restarted_restarted hin.leaveService_mode levels
    refine ⟨_, exec_leaveServiceRestart levels hdue (hin.serviceValidating hval) hpass, ?_⟩
    have hnew : validate s.store = new := rfl
    rw [hnew] at hrestarted hpass
    generalize restarted levels s = u at hrestarted ⊢
    clear_value new
    have hmu := hrestarted.mu
    obtain ⟨hvli, hdli, hvtq, hdrq⟩ := hrestarted.links
    obtain ⟨hstore, haddress, hdin0⟩ := hrestarted.kept
    have hmode : u.mode = .run := hrestarted.base.mode
    have hanswered := (hin.answered (u := u) (by rw [hmu]) (by rw [hmode]; decide) .ok []).answered hvtq
    have hreply : replyTo u cmd [byteOf Code.ok.number] = e.frame0 := by
      rw [replyTo, haddress]
      rfl
    rw [hreply] at hanswered
    have htelltale := hanswered.stands hrestarted.telltale
    have hstatus := hanswered.stands hrestarted.status
    have heq := hanswered.eq
    generalize answer .ok [] u = t at *
    clear hanswered
    subst heq
    have hbase := hrestarted.base
    refine ⟨⟨hmode, hbase.tables, ?_, hrestarted.params, ?_, hrestarted.flags hpass, fun n c hc => ?_,
      fun k hk => hrestarted.signal hk, hrestarted.lamps, hbase.lampCheck, hrestarted.chime, hbase.blink, ?_, hbase.evaluating⟩,
      hdrq, hvli, hdli, ?_, fun hlink => ?_, fun hlink => ?_, htelltale, hstatus, hstore, haddress, hdin0⟩
    · have hcount : u.run.mc.disabledCount = new.failures.length := congrArg Mc.disabledCount hbase.mc
      exact hcount.trans (by rw [hpass]; rfl)
    · exact congrArg Mu.storeDiffers hmu
    · refine ⟨_, hrestarted.channel hc, ?_⟩
      obtain ⟨hknown, hpos⟩ := releaseChannel_position (supplyFault s) c
      exact restartChannel_cases (s := activationBase new levels (restartReset s)) (n := n) hknown hpos
    · exact congrArg Iu.sampling hbase.iu
    · dsimp only
      rw [hmu]
    · dsimp only
      rw [if_pos hlink, if_neg (by rw [hlink]; decide)]
      exact ⟨rfl, hrestarted.replies⟩
    · dsimp only
      rw [if_pos hlink, if_neg (by rw [hlink]; decide), repliesOf_append, hrestarted.replies]
      exact ⟨hvtq, rfl⟩

end Sys2Proof.Machine
end


section
/-! PROOFS. The display link's transmit side (O19): when a frame is begun, and what its end leaves. -/

namespace Sys2Proof.Machine

theorem powered_of_mode {s : State} (h : s.mode ≠ .standby) : powered s = true := decide_eq_true h

/-! ## A frame is begun -/

theorem exec_dliTransmitStart {s : State} (hdue : due s = false) :
    exec .dliTransmitStart s = .next (if canDisplay s then beginDisplay s else s) :=
  calc exec .dliTransmitStart s = execDliTransmitStart s := rfl
    _ = _ := by rw [execDliTransmitStart, after_of_not_due _ hdue]

theorem canDisplay_iff {s : State} (hmode : s.mode ≠ .standby) (hidle : s.run.dli.sending = none) :
    canDisplay s = true ↔ 120 ≤ s.run.dli.recessive := by
  simp only [canDisplay, powered_of_mode hmode, hidle, Config.wireGap, Option.isNone_none, Bool.true_and]
  exact decide_eq_true_iff

theorem beginDisplay_none {s : State} (hduq : s.run.queues.duq = []) (hdrq : s.run.queues.drq = []) :
    beginDisplay s = s := by simp [beginDisplay, hduq, hdrq]

theorem beginDisplay_duq {s : State} {e : QEntry} {rest : List QEntry} (h : s.run.queues.duq = e :: rest) :
    beginDisplay s = driveDisplay .duq e { s with run.queues.duq := e.begin_ :: rest } := by
  simp [beginDisplay, h]

theorem beginDisplay_drq {s : State} {e : QEntry} {rest : List QEntry} (hduq : s.run.queues.duq = [])
    (h : s.run.queues.drq = e :: rest) :
    beginDisplay s = driveDisplay .drq e { s with run.queues.drq := e.begin_ :: rest } := by
  simp [beginDisplay, hduq, h]

/-! ## A frame reaches its EOD -/

theorem exec_dliFrameSent {s : State} {q : DliQueue} {bytes : List Byte} (hdue : due s = false)
    (h : s.run.dli.sending = some (q, bytes)) : exec .dliFrameSent s = .next (displaySent q s) :=
  calc exec .dliFrameSent s = execDliFrameSent s := rfl
    _ = _ := by simp only [execDliFrameSent, after_of_not_due _ hdue, h]

/-- The wire after the EOD of a frame that the DLI has sent. -/
def wireAtRest (s : State) : State := { s with run.dli := { s.run.dli with sending := none, recessive := 60 } }

theorem displaySent_drq (s : State) :
    displaySent .drq s = { wireAtRest s with run.queues.drq := s.run.queues.drq.drop 1 } := rfl

theorem displaySent_duq (s : State) : displaySent .duq s = standbyCheck (urgentSent (wireAtRest s)) := rfl

section
variable {s : State} {e : QEntry} {rest : List QEntry} (h : s.run.queues.duq = e :: rest)
include h

theorem urgentSent_nextPart (hpart : e.part = 0) (hsecond : e.frame1.isSome = true) :
    urgentSent s = { s with run.queues.duq := { e with part := 1, attempted := false } :: rest } := by
  simp [urgentSent, h, QEntry.partsLeft, hpart, hsecond, QEntry.nextPart]

theorem urgentSent_gone (hlast : e.part ≠ 0 ∨ e.frame1 = none) :
    urgentSent s = replyLeft e.origin { s with run.queues := s.run.queues.duqRemoveHead } := by
  have hleft : e.partsLeft = false := by
    rcases hlast with hpart | hone
    · simp [QEntry.partsLeft, hpart]
    · simp [QEntry.partsLeft, hone]
  simp [urgentSent, h, hleft]

theorem duqRemoveHead_notice {k : NoticeType} {f : NoticeFrames} (horigin : e.origin = .notice k)
    (hpend : s.run.queues.pendingOf k = some f) :
    s.run.queues.duqRemoveHead =
      { s.run.queues.setPending k none with duq := rest ++ [newEntry f (.notice k)] } := by
  cases k <;> simp_all [Queues.duqRemoveHead, Queues.pendingOf, Queues.setPending]

/-- Without a pending successor the head only goes. -/
theorem duqRemoveHead_plain (hplain : ∀ k, e.origin = .notice k → s.run.queues.pendingOf k = none) :
    s.run.queues.duqRemoveHead = { s.run.queues with duq := rest } := by
  cases horigin : e.origin with
  | notice k =>
      have hpend := hplain k horigin
      cases k <;> simp_all [Queues.duqRemoveHead, Queues.pendingOf]
  | route _ => simp [Queues.duqRemoveHead, h, horigin]
  | broadcast => simp [Queues.duqRemoveHead, h, horigin]
  | resultReply => simp [Queues.duqRemoveHead, h, horigin]
  | busyReply => simp [Queues.duqRemoveHead, h, horigin]

end

/-- Settles O19, by the queue whose frame is begun or has been sent, and by what leaves the DUQ. -/
theorem displayFramesAreSent : Obligations.DisplayFramesAreSent := by
  intro s e rest hdue hmode flying q idle driving
  refine ⟨fun hidle => ⟨fun hrest => ⟨fun hduq => ?_, fun hduq hdrq => ?_⟩, fun hnot => ?_⟩,
    fun bytes hsending hdrq => ?_, ?_⟩
  · rw [exec_dliTransmitStart hdue, if_pos ((canDisplay_iff hmode hidle).2 hrest), beginDisplay_duq hduq]
    rfl
  · rw [exec_dliTransmitStart hdue, if_pos ((canDisplay_iff hmode hidle).2 hrest),
      beginDisplay_drq hduq hdrq]
    rfl
  · rw [exec_dliTransmitStart hdue]
    by_cases hrest : 120 ≤ s.run.dli.recessive
    · obtain ⟨hduq, hdrq⟩ := hnot.resolve_left (Nat.not_lt.2 hrest)
      rw [beginDisplay_none hduq hdrq, ite_self]
    · rw [if_neg fun hcan => hrest ((canDisplay_iff hmode hidle).1 hcan)]
  · rw [exec_dliFrameSent hdue hsending, displaySent_drq, show s.run.queues.drq.drop 1 = rest by simp [q, hdrq]]
    rfl
  · intro bytes hsending hduq leaves
    have hsent (t : State) (ht : urgentSent (wireAtRest s) = t) (hkeep : t.mode = s.mode)
        (hrep : t.run.mc.gaugesAtRest = s.run.mc.gaugesAtRest) : leaves t := by
      show _ = _
      rw [exec_dliFrameSent hdue hsending, displaySent_duq, ht, standbyCheck, hkeep, hrep]
      rfl
    have hgone (hlast : e.part ≠ 0 ∨ e.frame1 = none) := urgentSent_gone (s := wireAtRest s) hduq hlast
    have hplain := duqRemoveHead_plain (s := wireAtRest s) hduq
    refine ⟨fun hpart hsecond => hsent _ (urgentSent_nextPart (s := wireAtRest s) hduq hpart hsecond) rfl rfl,
      fun hlast => ⟨fun k horigin hpend => ?_, ?_, fun horigin hphase => ?_,
        fun horigin => ?_⟩⟩
    · refine hsent _ ?_ rfl rfl
      rw [hgone hlast, horigin, hplain fun j hj => by
        obtain rfl : k = j := by simpa [horigin] using hj
        exact hpend]
      rfl
    · intro k f horigin hpend next
      refine hsent _ ?_ rfl rfl
      rw [hgone hlast, horigin, duqRemoveHead_notice (s := wireAtRest s) hduq horigin hpend]
      rfl
    · refine hsent _ ?_ rfl rfl
      rw [hgone hlast, horigin, hplain fun j hj => by simp [horigin] at hj]
      exact replyLeft_resultReply hphase rfl
    · refine hsent _ ?_ rfl rfl
      rw [hgone hlast, horigin, hplain fun j hj => by simp [horigin] at hj]
      rfl

end Sys2Proof.Machine
end


section
/-! PROOFS. What an interface hears: the rows that samples bring, event by event, and an interface that
receives another node's frame. -/

namespace Sys2Proof.Machine

/-! ## An interface in place -/

@[simp] theorem ifaceOf_setIface (link : Link) (i : Iface) (s : State) : ifaceOf (setIface link i s) link = i := by
  cases link <;> rfl

@[simp] theorem setIface_setIface (link : Link) (i j : Iface) (s : State) :
    setIface link i (setIface link j s) = setIface link i s := by cases link <;> rfl

theorem ifaceOf_setHeard (link : Link) (h : Heard) (s : State) :
    ifaceOf (setHeard link h s) link = { ifaceOf s link with line := h.line } := by cases link <;> rfl

@[simp] theorem ifaceOf_setHeard_rx (link : Link) (h : Heard) (s : State) :
    (ifaceOf (setHeard link h s) link).rx = (ifaceOf s link).rx := by cases link <;> rfl

@[simp] theorem ifaceOf_setHeard_bits (link : Link) (h : Heard) (s : State) :
    (ifaceOf (setHeard link h s) link).bits = (ifaceOf s link).bits := by cases link <;> rfl

@[simp] theorem ifaceOf_setHeard_buffer (link : Link) (h : Heard) (s : State) :
    (ifaceOf (setHeard link h s) link).buffer = (ifaceOf s link).buffer := by cases link <;> rfl

@[simp] theorem ifaceOf_setHeard_binding (link : Link) (h : Heard) (s : State) :
    (ifaceOf (setHeard link h s) link).binding = (ifaceOf s link).binding := by cases link <;> rfl

@[simp] theorem wholeBytes_setHeard (link : Link) (h : Heard) (s : State) :
    wholeBytes (ifaceOf (setHeard link h s) link) = wholeBytes (ifaceOf s link) := by cases link <;> rfl

@[simp] theorem hears_setHeard (link : Link) (h : Heard) (s : State) :
    hears (setHeard link h s) link = hears s link := by cases link <;> rfl

@[simp] theorem receiving_setHeard (link : Link) (h : Heard) (s : State) :
    receiving (setHeard link h s) link = receiving s link := by cases link <;> rfl

@[simp] theorem due_setHeard (link : Link) (h : Heard) (s : State) : due (setHeard link h s) = due s := by
  cases link <;> rfl

theorem hears_of_receiving {s : State} {link : Link} (h : receiving s link = true) : hears s link = true := by
  simp only [receiving, Bool.and_eq_true] at h
  exact h.1.1

theorem receiving_iff {s : State} {link : Link} :
    receiving s link = true ↔ hears s link = true ∧ (ifaceOf s link).rx = .receiving ∧
      (link = .vehicle → s.run.vli.sending = none) := by
  cases link <;> simp [receiving, and_assoc]

/-! ## The events that are heard -/

/-- Events that change nothing are passed over; what remains is done in the order heard. -/
theorem listen_passes {s : State} {link : Link} {h : Heard} {pre post : List LineEvent} (hdue : due s = false)
    (hevents : h.events = pre ++ post)
    (hpre : ∀ e ∈ pre, lineEvent link e (setHeard link h s) = setHeard link h s) :
    listen link h s = post.foldl (fun t e => lineEvent link e (settle t)) (setHeard link h s) := by
  have hsettle : settle (setHeard link h s) = setHeard link h s := settle_of_not_due (by simpa using hdue)
  have hpasses : pre.foldl (fun t e => lineEvent link e (settle t)) (setHeard link h s) = setHeard link h s := by
    clear hevents
    induction pre with
    | nil => rfl
    | cons e pre ih =>
      rw [List.foldl_cons, hsettle, hpre e List.mem_cons_self]
      exact ih fun x hx => hpre x (List.mem_cons_of_mem _ hx)
  rw [listen, hevents, List.foldl_append, hpasses]

/-- One event that does something, after events that change nothing. -/
theorem listen_last {s : State} {link : Link} {h : Heard} {pre : List LineEvent} {e : LineEvent}
    (hdue : due s = false) (hevents : h.events = pre ++ [e])
    (hpre : ∀ x ∈ pre, lineEvent link x (setHeard link h s) = setHeard link h s) :
    listen link h s = lineEvent link e (setHeard link h s) := by
  rw [listen_passes hdue hevents hpre, List.foldl_cons, List.foldl_nil, settle_of_not_due (by simpa using hdue)]

theorem listenFor_heard {s : State} {kind : LineEvent → Bool} {link : Link} {h : Heard}
    (hhears : hears s link = true) {e : LineEvent} (he : e ∈ h.events) (hkind : kind e = true) :
    listenFor kind link h s = listen link h s := by
  rw [listenFor, if_pos ⟨hhears, List.any_eq_true.2 ⟨e, he, hkind⟩⟩]

/-- A row that samples bring, on an event that comes after events that change nothing. -/
theorem listenFor_last {s : State} {kind : LineEvent → Bool} {link : Link} {h : Heard} {pre : List LineEvent}
    {e : LineEvent} (hdue : due s = false) (hhears : hears s link = true) (hevents : h.events = pre ++ [e])
    (hkind : kind e = true)
    (hpre : ∀ x ∈ pre, lineEvent link x (setHeard link h s) = setHeard link h s) :
    listenFor kind link h s = lineEvent link e (setHeard link h s) := by
  rw [listenFor_heard hhears (by simp [hevents]) hkind, listen_last hdue hevents hpre]

/-! ## The rows -/

section
variable {s : State} (hdue : due s = false)
include hdue

theorem exec_headerComplete (link : Link) (wave : Wave) :
    exec (.headerComplete link wave) s = .next (listenFor LineEvent.isBit link (heard s link wave) s) :=
  calc exec (.headerComplete link wave) s = execHeaderComplete link wave s := rfl
    _ = _ := by rw [execHeaderComplete, after_of_not_due _ hdue]

theorem exec_frameAccepted (link : Link) (wave : Wave) :
    exec (.frameAccepted link wave) s =
      .next (listenFor (decide <| · = .eod) link (heard s link wave) s) :=
  calc exec (.frameAccepted link wave) s = execFrameAccepted link wave s := rfl
    _ = _ := by rw [execFrameAccepted, after_of_not_due _ hdue]

theorem exec_receiveError (link : Link) (wave : Wave) :
    exec (.receiveError link wave) s = .next (listenFor LineEvent.isJudged link (heard s link wave) s) :=
  calc exec (.receiveError link wave) s = execReceiveError link wave s := rfl
    _ = _ := by rw [execReceiveError, after_of_not_due _ hdue]

theorem exec_sofReceived (link : Link) (wave : Wave) :
    exec (.sofReceived link wave) s = .next (listenFor LineEvent.isSymbol link (heard s link wave) s) :=
  calc exec (.sofReceived link wave) s = execSofReceived link wave s := rfl
    _ = _ := by rw [execSofReceived, after_of_not_due _ hdue]

theorem exec_ifrWaitSymbolError (wave : Wave) :
    exec (.ifrWaitSymbolError wave) s =
      .next (listenFor LineEvent.isJudged .vehicle (heard s .vehicle wave) s) :=
  calc exec (.ifrWaitSymbolError wave) s = execIfrWaitSymbolError wave s := rfl
    _ = _ := by rw [execIfrWaitSymbolError, after_of_not_due _ hdue]

end

/-! ## An interface that receives -/

/-- In RECEIVING a line event is the frame's, but for the stuck line. -/
theorem lineEvent_receiving {s : State} {link : Link} {e : LineEvent} (h : receiving s link = true)
    (he : e ≠ .stuck) : lineEvent link e s = receiveEvent link e s := by
  obtain ⟨-, hrx, hsending⟩ := receiving_iff.1 h
  cases link with
  | vehicle => simp [lineEvent, vehicleEvent, he, hsending rfl, show s.run.vli.iface.rx = .receiving from hrx]
  | display => simp [lineEvent, displayEvent, show s.run.dli.iface.rx = .receiving from hrx]

/-- The edges that a frame stands, in the words of R142. -/
theorem edgeInTime_iff (bits r c : Nat) :
    edgeInTime bits r c = true ↔ if bits = 0 then 10 ≤ r ∧ r ≤ 50 else 36 ≤ c ∧ c ≤ 44 := by
  unfold edgeInTime
  split <;> simp

/-- What a receiver passes over: a loss's moment, and an edge in time. -/
theorem lineEvent_passed {s : State} {link : Link} {e : LineEvent} (h : receiving s link = true)
    (he : e = .passes14 ∨ ∃ r c, e = .edge r c ∧
      if (ifaceOf s link).bits = 0 then 10 ≤ r ∧ r ≤ 50 else 36 ≤ c ∧ c ≤ 44) :
    lineEvent link e s = s := by
  obtain rfl | ⟨r, c, rfl, htime⟩ := he
  · rw [lineEvent_receiving h (by simp)]
    rfl
  · rw [lineEvent_receiving h (by simp)]
    exact if_pos ((edgeInTime_iff _ _ _).2 htime)

/-- A row's event in RECEIVING, after what a receiver passes over. -/
theorem listenFor_received {s : State} {kind : LineEvent → Bool} {link : Link} {h : Heard}
    {pre : List LineEvent} {e : LineEvent} (hdue : due s = false) (hreceiving : receiving s link = true)
    (hevents : h.events = pre ++ [e]) (hkind : kind e = true) (he : e ≠ .stuck)
    (hpre : ∀ x ∈ pre, x = .passes14 ∨ ∃ r c, x = .edge r c ∧
      if (ifaceOf s link).bits = 0 then 10 ≤ r ∧ r ≤ 50 else 36 ≤ c ∧ c ≤ 44) :
    listenFor kind link h s = receiveEvent link e (setHeard link h s) := by
  rw [listenFor_last hdue (hears_of_receiving hreceiving) hevents hkind fun x hx =>
      lineEvent_passed (by simpa using hreceiving) (by simpa using hpre x hx),
    lineEvent_receiving (by simpa using hreceiving) he]

end Sys2Proof.Machine
end


section
/-! PROOFS. The admission of commands (O13). -/

namespace Sys2Proof.Machine

/-! ## The end of data of an accepted frame -/

theorem wholeBytes_of_bits {i : Iface} (h : i.bits = 8 * i.buffer.length) : wholeBytes i = i.buffer := by
  rw [wholeBytes, h, Nat.mul_div_cancel_left _ (by decide), List.take_length]

/-- Only a bound route has an expected length. -/
theorem endOfDataFault_mu (received : List Byte) (stray : Nat) :
    endOfDataFault received stray (some .mu) = endOfDataFault received stray none := rfl

/-- The interface after an accepted frame, and the state in which the frame is delivered. -/
def frameHeard (link : Link) (wave : Wave) (s : State) : State :=
  setIface link ((ifaceOf (setHeard link (heard s link wave) s) link).toState (acceptedState link))
    (setHeard link (heard s link wave) s)

theorem frameHeard_eq (link : Link) (wave : Wave) (s : State) :
    frameHeard link wave s =
      setIface link
        { ifaceOf (setHeard link (heard s link wave) s) link with
          rx := if link = .vehicle then .ifrWait else .idle, buffer := [], bits := 0, binding := none }
        (setHeard link (heard s link wave) s) := by cases link <;> rfl

/-- R147: a frame that passes every check is delivered by its binding. -/
theorem exec_frameAccepted_accepted {s : State} {link : Link} {wave : Wave} {received : List Byte} {b : Binding}
    (hdue : due s = false) (hreceiving : receiving s link = true) (hevents : (heard s link wave).events = [.eod])
    (hbuffer : (ifaceOf s link).buffer = received) (hbits : (ifaceOf s link).bits = 8 * received.length)
    (hbound : (ifaceOf s link).binding = some b) (hgood : endOfDataFault received 0 (some b) = none) :
    exec (.frameAccepted link wave) s = .next (deliver link b received.dropLast (frameHeard link wave s)) := by
  have hwhole : wholeBytes (ifaceOf s link) = received := by
    rw [wholeBytes_of_bits (by rw [hbits, hbuffer]), hbuffer]
  rw [exec_frameAccepted hdue, listenFor_received (pre := []) hdue hreceiving hevents (by simp) (by simp) (by simp)]
  simp only [receiveEvent, endOfData, wholeBytes_setHeard, hwhole, ifaceOf_setHeard_bits, hbits,
    ifaceOf_setHeard_binding, hbound, Nat.mul_mod_right, hgood]
  rfl

/-! ## Admission -/

/-- R173: the code, by what stands against the command first. -/
theorem admissionCode_cases (phase : MuPhase) (mode : Mode) (payload : List Byte) :
    let code := admissionCode phase mode payload
    (phase ≠ .idle → code = .busy) ∧ (phase = .idle → payloadCmd payload = none → code = .unknown) ∧
      ∀ c, phase = .idle → payloadCmd payload = some c →
        (c.inMode mode = false → code = .refusedMode) ∧
          (c.inMode mode = true → payload.length ≠ c.length → code = .refusedRange) ∧
          (c.inMode mode = true → payload.length = c.length →
            (c.paramsInRange payload = false → code = .refusedRange) ∧
              (c.paramsInRange payload = true → code = .accepted)) := by
  refine ⟨fun h => by simp [admissionCode, h], fun h hnone => by simp [admissionCode, h, hnone],
    fun c h hsome => ⟨fun hmode => ?_, fun hmode hlen => ?_, fun hmode hlen => ⟨fun hparams => ?_,
      fun hparams => ?_⟩⟩⟩
  · simp [admissionCode, h, hsome, hmode]
  · simp [admissionCode, h, hsome, hmode, hlen]
  · simp [admissionCode, h, hsome, hmode, hparams]
  · simp [admissionCode, h, hsome, hmode, hparams, hlen]

/-- R174: the code stands as the IFR, and an accepted command waits for it. -/
theorem admitVehicle_eq {s : State} {c : Command} {code : Code}
    (hcode : admissionCode s.run.mu.phase s.mode c.payload = code) :
    admitVehicle c s =
      let answered : State :=
        { s with run.vli.ifr := some { byte := byteOf (16 * code.number + (15 - code.number)), sending := false } }
      if code = .accepted then { answered with run.mu.phase := .ifrPending, run.mu.cmd := some c } else answered := by
  subst hcode
  rfl

/-- R175: a REPLY on the display link is placed in every mode. -/
theorem answer_replied_display {s : State} {cmd : Command} (hcmd : s.run.mu.cmd = some cmd)
    (hlink : cmd.link = .display) (code : Code) :
    Replied s (answer code [] s) cmd [byteOf code.number] none := by
  refine ⟨fun _ => ?_, fun h => (Link.noConfusion (hlink.symm.trans h)), fun h => (Link.noConfusion (hlink.symm.trans h))⟩
  simp only [answer, sendResult, hcmd, hlink]
  simp [replyFrame, replyTo, boolNat, newEntry]

/-- R175: what an admission on the display link leaves, by its code. -/
theorem admitDisplay_cases {s : State} {c : Command} {code : Code} (hlink : c.link = .display)
    (hcode : admissionCode s.run.mu.phase s.mode c.payload = code) :
    let t := admitDisplay c s
    (code = .accepted → t = { s with run.mu.phase := .executing, run.mu.cmd := some c }) ∧
      (code = .busy → t = placeBusy c s) ∧
      (code ≠ .accepted → code ≠ .busy →
        Replied { s with run.mu.cmd := some c } t c [byteOf code.number] none) := by
  subst hcode
  intro t
  refine ⟨fun h => if_pos h, fun h => ?_, fun haccepted hbusy => ?_⟩
  · exact (if_neg (by rw [show admissionCode _ _ _ = Code.busy from h]; simp)).trans (if_pos h)
  · have : t = answer _ [] { s with run.mu.cmd := some c } := (if_neg haccepted).trans (if_neg hbusy)
    rw [this]
    exact answer_replied_display (s := { s with run.mu.cmd := some c }) rfl hlink _

theorem placeBusy_again {s : State} (c : Command) (h : s.run.mu.busyQueued = true) : placeBusy c s = s := if_pos h

theorem placeBusy_first {s s₀ : State} (haddress : s.nodeAddress = s₀.nodeAddress) (c : Command)
    (h : s.run.mu.busyQueued = false) :
    placeBusy c s =
      { s with
        run.queues.duq := s.run.queues.duq ++
          [{ frame0 := replyTo s₀ c [7#8], frame1 := none, origin := .busyReply, inFlight := false
             part := 0, attempted := false, errors := 0 }]
        run.mu.busyQueued := true } := by
  simp only [placeBusy, h, replyFrame, haddress]
  rfl

/-! ## Commands to all nodes -/

/-- R172: of the commands for all nodes CLEAR STATUS alone is executed. -/
theorem takeAllNodes_cases (c : Command) (s : State) :
    let clears := payloadCmd c.payload = some .clearStatus ∧ (s.mode = .run ∨ s.mode = .service) ∧ c.payload.length = 1
    (clears → takeAllNodes c s = clearStatus s) ∧ (¬ clears → takeAllNodes c s = s) := by
  have hmode : CmdCode.clearStatus.inMode s.mode = true ↔ s.mode = .run ∨ s.mode = .service := decide_eq_true_iff
  refine ⟨fun ⟨hcode, hin, hlen⟩ => ?_, fun hnot => ?_⟩
  · simp only [takeAllNodes, hcode]
    exact if_pos ⟨hmode.2 hin, hlen⟩
  · unfold takeAllNodes
    split
    · next hcode => exact if_neg fun h => hnot ⟨hcode, hmode.1 h.1, h.2⟩
    · rfl

/-- Settles O13, by the address and then by the admission code. -/
theorem commandsAreAdmitted : Obligations.CommandsAreAdmitted := by
  intro s link wave received hdue hreceiving hevents hbuffer hbits hbound hgood h cmd u heard which
  have hexec : exec (.frameAccepted link wave) s =
      .next (takeCommand link received.dropLast (frameHeard link wave s)) :=
    exec_frameAccepted_accepted hdue hreceiving hevents hbuffer hbits hbound hgood
  have hheard : frameHeard link wave s = heard := frameHeard_eq link wave s
  have hmu : heard.run.mu = s.run.mu := by rw [← hheard]; cases link <;> rfl
  have hmode : heard.mode = s.mode := by rw [← hheard]; cases link <;> rfl
  have haddress : heard.nodeAddress = s.nodeAddress := by rw [← hheard]; cases link <;> rfl
  rw [hheard] at hexec
  clear_value heard
  refine ⟨fun htarget hone => ?_, fun htarget hall => ?_⟩
  · refine ⟨admissionCode s.run.mu.phase s.mode cmd.payload, _, hexec, (admissionCode_cases _ _ _).1,
      (admissionCode_cases _ _ _).2.1, (admissionCode_cases _ _ _).2.2, ?_, ?_⟩
    · rintro rfl answered
      have ht : takeCommand .vehicle received.dropLast heard = admitVehicle cmd heard :=
        if_pos (htarget.trans haddress.symm)
      rw [ht]
      exact admitVehicle_eq (by rw [hmu, hmode])
    · rintro rfl
      have ht : takeCommand .display received.dropLast heard = admitDisplay cmd heard :=
        if_pos (htarget.trans haddress.symm)
      obtain ⟨haccepted, hbusy, hother⟩ :=
        admitDisplay_cases (s := heard) (c := cmd) (code := admissionCode s.run.mu.phase s.mode cmd.payload) rfl
          (by rw [hmu, hmode])
      rw [ht]
      refine ⟨haccepted, fun hcode hqueued => ?_, ?_, hother⟩
      · rw [hbusy hcode]
        exact placeBusy_again _ (hmu ▸ hqueued)
      · intro hcode hqueued e
        rw [hbusy hcode]
        exact placeBusy_first haddress _ (hmu ▸ hqueued)
  · have ht : takeCommand link received.dropLast heard = takeAllNodes cmd heard :=
      (if_neg fun hn => hall ((hn.trans haddress).symm.trans htarget)).trans (if_pos htarget)
    refine ⟨_, hexec, ?_⟩
    rw [ht, ← hmode]
    refine ⟨fun hclears => ?_, fun hnot => (takeAllNodes_cases cmd heard).2 hnot⟩
    rw [(takeAllNodes_cases cmd heard).1 hclears]
    exact clearStatus_cleared heard

end Sys2Proof.Machine
end


section
/-! PROOFS. Damaged frames are dropped (O12). -/

namespace Sys2Proof.Machine

/-- R142, R151: the symbol of a dominant stretch, by its length. -/
theorem dominantSymbol_cases (n : Nat) (idle : Bool) :
    let sof := 100 ≤ n ∧ n ≤ 140 ∧ idle = true
    (240 ≤ n → dominantSymbol n idle = .brk) ∧ (6 ≤ n → n ≤ 14 → dominantSymbol n idle = .one) ∧
      (26 ≤ n → n ≤ 34 → dominantSymbol n idle = .zero) ∧ (sof → dominantSymbol n idle = .sof) ∧
      (n < 240 → ¬ (6 ≤ n ∧ n ≤ 14) → ¬ (26 ≤ n ∧ n ≤ 34) → ¬ sof → dominantSymbol n idle = .invalid) := by
  intro sof
  unfold dominantSymbol
  refine ⟨fun h => if_pos h, fun h1 h2 => ?_, fun h1 h2 => ?_, fun ⟨h1, h2, h3⟩ => ?_, fun h0 h1 h2 h3 => ?_⟩
  · rw [if_neg (by omega), if_pos ⟨h1, h2⟩]
  · rw [if_neg (by omega), if_neg (by omega), if_pos ⟨h1, h2⟩]
  · rw [if_neg (by omega), if_neg (by omega), if_neg (by omega), if_pos ⟨h1, h2, h3⟩]
  · rw [if_neg (by omega), if_neg h1, if_neg h2, if_neg h3]

/-! ## The checks at EOD -/

/-- R147: the first check that fails. -/
theorem endOfDataFault_cases (received : List Byte) (stray : Nat) (binding : Option Binding) :
    let body := received.dropLast
    let least := if (headerOf body).kind.addressed then 4 else 3
    let framed := stray = 0 ∧ least ≤ received.length ∧ received.length ≤ 13
    let good := received.getLastD 0#8 = crc8 body
    (¬ framed → endOfDataFault received stray binding = some .framing) ∧
      (framed → ¬ good → endOfDataFault received stray binding = some .crc) ∧
      ∀ n ident len, framed → good → binding = some (.route n ident (some len)) →
        (payloadOf body).length ≠ len → endOfDataFault received stray binding = some .length := by
  intro body least framed good
  have hframing : framed ↔ ¬ (stray ≠ 0 ∨ received.length < 3 ∨ 13 < received.length ∨
      ((headerOf body).kind.addressed = true ∧ received.length < 4)) := by
    simp only [framed, least]
    split
    · simp_all
      omega
    · simp_all
  refine ⟨fun h => if_pos (not_not.1 (mt hframing.2 h)), fun hframed hbad => ?_, ?_⟩
  · exact (if_neg (hframing.1 hframed)).trans (if_pos hbad)
  · rintro n ident len hframed hgood rfl hlen
    exact (if_neg (hframing.1 hframed)).trans ((if_neg (not_not.2 hgood)).trans (if_neg hlen))

theorem endOfData_discards {s : State} {link : Link} {kind : ErrKind}
    (h : endOfDataFault (wholeBytes (ifaceOf s link)) ((ifaceOf s link).bits % 8) (ifaceOf s link).binding = some kind) :
    endOfData link s = discardFrame link kind s := by
  simp only [endOfData, h]

/-! ## IFR_WAIT with nothing to send -/

/-- In IFR_WAIT with nothing to send a line event is another node's IFR's, but for the stuck line. -/
theorem lineEvent_quiet {s : State} {e : LineEvent} (hrx : s.run.vli.iface.rx = .ifrWait)
    (hifr : s.run.vli.ifr = none) (hsending : s.run.vli.sending = none) (he : e ≠ .stuck) :
    lineEvent .vehicle e s = quietEvent .vehicle e s := by
  simp [lineEvent, vehicleEvent, he, hrx, hifr, hsending]

/-- An edge of another node's IFR that it stands. -/
theorem quietEvent_edge {s : State} {r c : Nat}
    (h : 1 ≤ s.run.vli.iface.bits ∧ s.run.vli.iface.bits ≤ 7 → edgeInTime s.run.vli.iface.bits r c = true) :
    quietEvent .vehicle (.edge r c) s = s := by
  refine if_pos ?_
  by_cases hlow : s.run.vli.iface.bits = 0
  · exact .inl hlow
  · by_cases hhigh : 8 ≤ s.run.vli.iface.bits
    · exact .inr (.inl hhigh)
    · exact .inr (.inr (h (by omega)))

/-- Settles O12, by the event that brings the fault. -/
theorem damagedFramesAreDropped : Obligations.DamagedFramesAreDropped := by
  refine ⟨dominantSymbol_cases, ?_⟩
  intro s link hdue inTime dropped
  refine ⟨?_, ?_⟩
  · intro hreceiving wave i brings fails
    have hfails {e : LineEvent} {kind : ErrKind} (hbrings : brings e) (hjudged : e.isJudged = true)
        (he : receiveEvent link e (setHeard link (heard s link wave) s) =
          discardFrame link kind (setHeard link (heard s link wave) s)) : fails kind := by
      obtain ⟨pre, hevents, hpre⟩ := hbrings
      show _ = _
      rw [exec_receiveError hdue, listenFor_received hdue hreceiving hevents hjudged (by rintro rfl; cases hjudged) hpre,
        he]
      rfl
    refine ⟨fun h => hfails h rfl rfl, fun h => h.elim (fun h => hfails h rfl rfl) fun h => hfails h rfl rfl,
      fun r c h htime => ?_, fun hfull h => ?_, ?_⟩
    · exact hfails h rfl (if_neg fun hin => htime ((edgeInTime_iff _ _ _).1 (by simpa using hin)))
    · have hbit (b : Bool) : receiveBit link b (setHeard link (heard s link wave) s) =
          discardFrame link .framing (setHeard link (heard s link wave) s) :=
        if_pos (by simpa [maxFrameBits] using hfull)
      exact h.elim (fun h => hfails h rfl (hbit true)) fun h => hfails h rfl (hbit false)
    · intro h received body least framed good
      have hfault {kind : ErrKind} (hkind : endOfDataFault received (i.bits % 8) i.binding = some kind) : fails kind :=
        hfails h rfl (endOfData_discards (by simpa using hkind))
      obtain ⟨hframing, hcrc, hlength⟩ := endOfDataFault_cases received (i.bits % 8) i.binding
      exact ⟨fun hf => hfault (hframing hf), fun hf hg => hfault (hcrc hf hg),
        fun n ident len hf hg hb hl => hfault (hlength n ident len hf hg hb hl)⟩
  · intro hhears hrx hifr hsending wave bits within brings fails
    have hfails {e : LineEvent} {kind : ErrKind} (hbrings : brings e) (hjudged : e.isJudged = true)
        (he : quietEvent .vehicle e (setHeard .vehicle (heard s .vehicle wave) s) =
          discardFrame .vehicle kind (setHeard .vehicle (heard s .vehicle wave) s)) : fails kind := by
      obtain ⟨pre, hevents, hpre⟩ := hbrings
      have hquiet {x : LineEvent} (hx : x ≠ .stuck) :=
        lineEvent_quiet (s := setHeard .vehicle (heard s .vehicle wave) s) hrx hifr hsending hx
      show _ = _
      rw [exec_ifrWaitSymbolError hdue, listenFor_last hdue hhears hevents hjudged fun x hx => ?_,
        hquiet (by rintro rfl; cases hjudged), he]
      · rfl
      · obtain rfl | ⟨r, c, rfl, htime⟩ := hpre x hx
        · exact hquiet (by simp)
        · rw [hquiet (by simp)]
          exact quietEvent_edge fun hin => (edgeInTime_iff _ _ _).2 (htime hin)
    refine ⟨fun h => hfails h rfl rfl, fun h => h.elim (fun h => hfails h rfl rfl) fun h => hfails h rfl rfl,
      fun r c hin h htime => ?_, fun hin h => ?_⟩
    · refine hfails h rfl (if_neg ?_)
      rintro (hlow | hhigh | hedge)
      · exact absurd (show bits = 0 from hlow) (by omega)
      · exact absurd (show 8 ≤ bits from hhigh) (by omega)
      · exact htime ((edgeInTime_iff _ _ _).1 hedge)
    · refine hfails h rfl (if_neg ?_)
      rintro (hlow | hhigh)
      · exact absurd (show bits = 0 from hlow) (by omega)
      · exact absurd (show 8 ≤ bits from hhigh) (by omega)

end Sys2Proof.Machine
end


section
/-! PROOFS. Held levels and pulses: what a run of equal samples brings, whatever the line was before (R141,
R142, R149). -/

namespace Sys2Proof.Machine

/-! ## Recessive and dominant stretches -/

/-- What a recessive stretch brings that grows from `a` to `b` samples. -/
def restEvents (a b : Nat) : List LineEvent :=
  (if a < 60 ∧ 60 ≤ b then [.eod] else []) ++ (if a < 80 ∧ 80 ≤ b then [.ifrTurn] else []) ++
    (if a < 100 ∧ 100 ≤ b then [.eof] else []) ++ (if a < 120 ∧ 120 ≤ b then [.idle] else [])

/-- What a dominant stretch brings that grows from `a` to `b` samples and has been so for all of the stuck-line
timer's time. -/
def heldEvents (a b : Nat) : List LineEvent :=
  (if a < 15 ∧ 15 ≤ b then [.passes14] else []) ++ (if a < 240 ∧ 240 ≤ b then [.symbol .brk] else []) ++
    (if a < 20000 ∧ 20000 ≤ b then [.stuck] else [])

@[simp] theorem restEvents_self (a : Nat) : restEvents a a = [] := by
  have (n : Nat) : ¬ (a < n ∧ n ≤ a) := by omega
  simp [restEvents, this]

@[simp] theorem heldEvents_self (a : Nat) : heldEvents a a = [] := by
  have (n : Nat) : ¬ (a < n ∧ n ≤ a) := by omega
  simp [heldEvents, this]

/-- A threshold is reached in one more sample, or was before. -/
theorem reaches_succ {a b n : Nat} {es : List LineEvent} (hab : a ≤ b) :
    (if a < n ∧ n ≤ b + 1 then es else []) =
      (if a < n ∧ n ≤ b then es else []) ++ (if b + 1 = n then es else []) := by
  by_cases h : b + 1 = n
  · rw [if_pos (by omega), if_neg (by omega), if_pos h, List.nil_append]
  · rw [if_neg h, List.append_nil]
    congr 1
    exact propext (by omega)

theorem restEvents_succ {a b : Nat} (hab : a ≤ b) :
    restEvents a (b + 1) = restEvents a b ++ recessiveMeaning (b + 1) := by
  simp only [restEvents, reaches_succ hab, recessiveMeaning]
  by_cases h60 : b + 1 = 60
  · obtain rfl : b = 59 := by omega
    simp
  by_cases h80 : b + 1 = 80
  · obtain rfl : b = 79 := by omega
    simp
  by_cases h100 : b + 1 = 100
  · obtain rfl : b = 99 := by omega
    simp
  simp [h60, h80, h100]

theorem heldEvents_succ {a b : Nat} (hab : a ≤ b) :
    heldEvents a (b + 1) =
      heldEvents a b ++ (dominantMeaning (b + 1) ++ if b + 1 = 20000 then [.stuck] else []) := by
  simp only [heldEvents, reaches_succ hab, dominantMeaning, show dominantSymbol 240 false = .brk from rfl]
  by_cases h15 : b + 1 = 15
  · obtain rfl : b = 14 := by omega
    simp
  by_cases h240 : b + 1 = 240
  · obtain rfl : b = 239 := by omega
    simp
  simp [h15, h240]

/-- Past 20000 samples the count stands, and a recessive stretch means nothing more. -/
theorem restEvents_count {a b : Nat} (hab : a ≤ b) :
    restEvents a (b + 1) = restEvents a b ++ recessiveMeaning (min stuckSamples (b + 1)) := by
  rw [restEvents_succ hab]
  by_cases h : b + 1 ≤ stuckSamples
  · rw [Nat.min_eq_right h]
  · have : stuckSamples ≤ b + 1 := by omega
    have h0 : (20000 : Nat) < b + 1 := by simpa [stuckSamples] using h
    rw [Nat.min_eq_left this]
    simp only [recessiveMeaning, stuckSamples]
    rw [if_neg (by omega), if_neg (by omega), if_neg (by omega), if_neg (by omega)]
    rfl

/-! ## Runs of equal samples -/

theorem hearRun_succ (d : Bool) (n : Nat) (h : Heard) : hearRun d (n + 1) h = hearSample d (hearRun d n h) := by
  rw [hearRun_add]
  rfl

/-- A sample on which the filter stays recessive. -/
theorem hearSample_recessive {d : Bool} {h : Heard} {f : Filter} (hbefore : h.line.filter.dominant = false)
    (hfilter : filterSample h.line.filter d = f) (hafter : f.dominant = false) :
    hearSample d h =
      { line := { filter := f, stretch := countOn h.line.stretch, cell := countOn h.line.cell
                  idle := h.line.idle || decide (120 ≤ countOn h.line.stretch) }
        timer := 0, events := h.events ++ recessiveMeaning (countOn h.line.stretch) } := by
  simp [hearSample, hfilter, hafter, hbefore]

/-- A sample on which the filter stays dominant. -/
theorem hearSample_dominant {d : Bool} {h : Heard} {f : Filter} (hbefore : h.line.filter.dominant = true)
    (hfilter : filterSample h.line.filter d = f) (hafter : f.dominant = true) :
    hearSample d h =
      { line := { filter := f, stretch := countOn h.line.stretch, cell := countOn h.line.cell, idle := h.line.idle }
        timer := countOn h.timer
        events := h.events ++ (dominantMeaning (countOn h.line.stretch) ++
          (if countOn h.timer = stuckSamples ∧ h.timer ≠ stuckSamples then [.stuck] else [])) } := by
  simp [hearSample, hfilter, hafter, hbefore]

/-- A sample on which the filter becomes dominant: an edge. -/
theorem hearSample_edge {d : Bool} {h : Heard} {f : Filter} (hbefore : h.line.filter.dominant = false)
    (hfilter : filterSample h.line.filter d = f) (hafter : f.dominant = true) (htimer : h.timer = 0) :
    hearSample d h =
      { line := { filter := f, stretch := 1, cell := 1, idle := h.line.idle }, timer := 1
        events := h.events ++ [.edge h.line.stretch h.line.cell] } := by
  simp [hearSample, hfilter, hafter, hbefore, htimer, countOn, dominantMeaning, stuckSamples]

/-- A sample on which the filter becomes recessive: a dominant stretch ends. -/
theorem hearSample_end {d : Bool} {h : Heard} {f : Filter} (hbefore : h.line.filter.dominant = true)
    (hfilter : filterSample h.line.filter d = f) (hafter : f.dominant = false) :
    hearSample d h =
      { line := { filter := f, stretch := 1, cell := countOn h.line.cell, idle := false }, timer := 0
        events := h.events ++ dominantEnd h.line.stretch h.line.idle } := by
  simp [hearSample, hfilter, hafter, hbefore, recessiveMeaning]

section
variable {d : Bool} {h : Heard} (f : Nat → Filter) (h0 : h.line.filter = f 0)
include h0

/-- A run on which the filter stays recessive, through the values `f`. -/
theorem hearRun_recessive {k : Nat} (hstep : ∀ j, j < k → filterSample (f j) d = f (j + 1))
    (hlevel : ∀ j, j ≤ k → (f j).dominant = false) (hk : 0 < k) :
    hearRun d k h =
      { line := { filter := f k, stretch := min stuckSamples (h.line.stretch + k)
                  cell := min stuckSamples (h.line.cell + k)
                  idle := h.line.idle || decide (120 ≤ h.line.stretch + k) }
        timer := 0, events := h.events ++ restEvents h.line.stretch (h.line.stretch + k) } := by
  have hmin (n m : Nat) : countOn (min stuckSamples (n + m)) = min stuckSamples (n + (m + 1)) := by
    simp only [countOn]
    omega
  have hlong (n : Nat) : (120 ≤ min stuckSamples n) = (120 ≤ n) := propext (by simp only [stuckSamples]; omega)
  induction k with
  | zero => omega
  | succ k ih =>
    rcases Nat.eq_zero_or_pos k with rfl | hpos
    · rw [hearRun_succ, hearRun, hearSample_recessive (h0 ▸ hlevel 0 (by omega)) (h0 ▸ hstep 0 (by omega))
        (hlevel 1 (by omega)), restEvents_count (Nat.le_refl _), restEvents_self]
      simp only [countOn, hlong]
      rfl
    · rw [hearRun_succ, ih (fun j hj => hstep j (by omega)) (fun j hj => hlevel j (by omega)) hpos,
        hearSample_recessive (hlevel k (by omega)) (hstep k (by omega)) (hlevel (k + 1) (by omega))]
      simp only [hmin, hlong]
      rw [← Nat.add_assoc, restEvents_count (a := h.line.stretch) (b := h.line.stretch + k) (by omega),
        List.append_assoc, Bool.or_assoc]
      congr 3
      rw [← Bool.decide_or]
      exact decide_eq_decide.2 (by omega)

/-- A run on which the filter stays dominant, through the values `f`, since an edge that the cell and the
stuck-line timer are counted from. -/
theorem hearRun_dominant {k a : Nat} (hstep : ∀ j, j < k → filterSample (f j) d = f (j + 1))
    (hlevel : ∀ j, j ≤ k → (f j).dominant = true) (hstretch : h.line.stretch = a) (hcell : h.line.cell = a)
    (htimer : h.timer = a) (hcap : a + k ≤ 20000) :
    hearRun d k h =
      { line := { filter := f k, stretch := a + k, cell := a + k, idle := h.line.idle }
        timer := a + k, events := h.events ++ heldEvents a (a + k) } := by
  induction k with
  | zero =>
    obtain ⟨⟨filter, stretch, cell, idle⟩, timer, events⟩ := h
    dsimp only at hstretch hcell htimer h0
    subst hstretch hcell htimer h0
    simp [hearRun]
  | succ k ih =>
    have hcount : countOn (a + k) = a + (k + 1) := by simp only [countOn, stuckSamples]; omega
    have hstuck : (countOn (a + k) = stuckSamples ∧ a + k ≠ stuckSamples) = (a + k + 1 = 20000) :=
      propext (by simp only [hcount, stuckSamples]; omega)
    rw [hearRun_succ, ih (fun j hj => hstep j (by omega)) (fun j hj => hlevel j (by omega)) (by omega),
      hearSample_dominant (hlevel k (by omega)) (hstep k (by omega)) (hlevel (k + 1) (by omega))]
    simp only [hstuck, List.append_assoc]
    rw [hcount, ← Nat.add_assoc, heldEvents_succ (a := a) (b := a + k) (by omega)]

end

/-! ## The filter at a held level -/

/-- The filter on its way up, before its level changes. -/
def rising (n : Nat) : Filter := { count := n, dominant := false }

/-- The filter on its way down, before its level changes. -/
def falling (n : Nat) : Filter := { count := 7 - n, dominant := true }

theorem rising_step {n : Nat} (h : n < 6) : filterSample (rising n) true = rising (n + 1) := by
  unfold filterSample rising
  simp only [if_true]
  rw [Nat.min_eq_right (by omega), if_neg (by omega), if_neg (by omega)]

theorem falling_step {n : Nat} (h : n < 6) : filterSample (falling n) false = falling (n + 1) := by
  unfold filterSample falling
  simp only [Bool.false_eq_true, if_false]
  rw [if_neg (by omega), if_neg (by omega), Nat.sub_sub]

/-- The filter at rest, and at 7. -/
abbrev restFilter : Filter := { count := 0, dominant := false }
abbrev heldFilter : Filter := { count := 7, dominant := true }

/-- Recessive on a filter at rest. -/
theorem hearRun_rest {h : Heard} {k : Nat} (hf : h.line.filter = restFilter) (hk : 0 < k) :
    hearRun false k h =
      { line := { filter := restFilter, stretch := min stuckSamples (h.line.stretch + k)
                  cell := min stuckSamples (h.line.cell + k)
                  idle := h.line.idle || decide (120 ≤ h.line.stretch + k) }
        timer := 0, events := h.events ++ restEvents h.line.stretch (h.line.stretch + k) } :=
  hearRun_recessive (fun _ => restFilter) hf (fun _ _ => rfl) (fun _ _ => rfl) hk

/-- Dominant on a filter at rest, up to the edge. -/
theorem hearRun_rise {h : Heard} (hf : h.line.filter = restFilter) :
    hearRun true 7 h =
      { line := { filter := heldFilter, stretch := 1, cell := 1
                  idle := h.line.idle || decide (114 ≤ h.line.stretch) }
        timer := 1
        events := h.events ++ restEvents h.line.stretch (h.line.stretch + 6) ++
          [.edge (min stuckSamples (h.line.stretch + 6)) (min stuckSamples (h.line.cell + 6))] } := by
  rw [hearRun_succ, hearRun_recessive rising hf (fun j hj => rising_step hj) (fun _ _ => rfl) (by omega),
    hearSample_edge rfl rfl rfl rfl]
  simp only [show (120 ≤ h.line.stretch + 6) = (114 ≤ h.line.stretch) from propext (by omega)]
  rfl

/-- Dominant on a filter that stands at 7. -/
theorem hearRun_held {h : Heard} {k a : Nat} (hf : h.line.filter = heldFilter) (hstretch : h.line.stretch = a)
    (hcell : h.line.cell = a) (htimer : h.timer = a) (hcap : a + k ≤ 20000) :
    hearRun true k h =
      { line := { filter := heldFilter, stretch := a + k, cell := a + k, idle := h.line.idle }
        timer := a + k, events := h.events ++ heldEvents a (a + k) } :=
  hearRun_dominant (fun _ => heldFilter) hf (fun _ _ => rfl) (fun _ _ => rfl) hstretch hcell htimer hcap

/-- Recessive on a filter that stands at 7, up to the end of the dominant stretch. -/
theorem hearRun_fall {h : Heard} {a : Nat} (hf : h.line.filter = heldFilter) (hstretch : h.line.stretch = a)
    (hcell : h.line.cell = a) (htimer : h.timer = a) (hcap : a + 6 ≤ 20000) :
    hearRun false 7 h =
      { line := { filter := restFilter, stretch := 1, cell := min stuckSamples (a + 7), idle := false }
        timer := 0
        events := h.events ++ heldEvents a (a + 6) ++ dominantEnd (a + 6) h.line.idle } := by
  rw [hearRun_succ, hearRun_dominant falling hf (fun j hj => falling_step hj) (fun _ _ => rfl) hstretch hcell htimer
    hcap, hearSample_end rfl rfl rfl]
  rfl

/-! ## A pulse -/

/-- A dominant pulse of `n` samples on a filter at rest, up to the edge and on. -/
theorem hearRun_pulse {h : Heard} {n : Nat} (hf : h.line.filter = restFilter) (hn : 7 ≤ n) (hcap : n ≤ 20006) :
    hearRun true n h =
      { line := { filter := heldFilter, stretch := n - 6, cell := n - 6
                  idle := h.line.idle || decide (114 ≤ h.line.stretch) }
        timer := n - 6
        events := h.events ++ restEvents h.line.stretch (h.line.stretch + 6) ++
          [.edge (min stuckSamples (h.line.stretch + 6)) (min stuckSamples (h.line.cell + 6))] ++
          heldEvents 1 (n - 6) } := by
  rw [show n = 7 + (n - 7) by omega, hearRun_add, hearRun_rise hf,
    hearRun_held (a := 1) rfl rfl rfl rfl (by omega), show 1 + (n - 7) = 7 + (n - 7) - 6 by omega]

end Sys2Proof.Machine
end


section
/-! PROOFS. The idle and the stuck line (O15). -/

namespace Sys2Proof.Machine

/-! ## Steps that fall due -/

theorem SameLoads.lampOpenDue {s t : State} (h : SameLoads s t) (n : Nat) :
    Machine.lampOpenDue t n = Machine.lampOpenDue s n := by
  have hn := congrArg (fun l => l[n]?) h
  simp only [List.getElem?_map] at hn
  simp only [Machine.lampOpenDue, Machine.lampRec, List.getD_eq_getElem?_getD]
  cases ht : t.run.tu.lamps[n]? <;> cases hs : s.run.tu.lamps[n]? <;> simp_all

/-- What falls due depends on the supply counts, the gauges, the lamps' loads and the command in progress. -/
theorem due_congr {s t : State} (hflags : t.run.flags.underVoltage = s.run.flags.underVoltage ∧
      t.run.flags.overVoltage = s.run.flags.overVoltage)
    (hiu : t.run.iu = s.run.iu) (hgu : t.run.gu = s.run.gu) (htables : t.run.tables = s.run.tables)
    (hloads : SameLoads s t) (hmu : t.run.mu.phase = s.run.mu.phase ∧ t.run.mu.cmd = s.run.mu.cmd)
    (hmode : t.mode = s.mode) (hmc : t.run.mc = s.run.mc) (htest : t.run.vli.test = s.run.vli.test) :
    due t = due s := by
  have hsupply : supplyDue t = supplyDue s := by
    simp [supplyDue, overSetDue, underSetDue, underClearDue, overClearDue, hflags, hiu]
  have hhoming (n : Nat) : ((gaugeAt t n).isSome && homingDue t n) = ((gaugeAt s n).isSome && homingDue s n) := by
    simp [gaugeAt, homingDue, channelAt, hgu, htables]
  have hcoil (n : Nat) : coilDue t n = coilDue s n := by simp [coilDue, channelAt, hgu]
  have hcommand (c : CmdCode) : commandDue t c = commandDue s c := by
    simp only [commandDue, hmu, hmode, hmc, htest]
  simp only [due, hsupply, hhoming, hcoil, hloads.lampOpenDue, carryOutDue, hcommand]

/-- A flag that is not of the supply makes no step due. -/
theorem due_flagChange {f : FlagId} (hf : f = .vlinkStuck ∨ f = .addressConflict) (v : Bool) (s : State) :
    due (flagChange f v s) = due s := by
  have h := flagChange_frame f v s
  refine due_congr ?_ (h.iu.trans (by rw [putFlag_iu])) (h.gu.trans (by rw [putFlag_gu]))
    (h.tables.trans (by rw [putFlag_tables])) (.flagChange f v s) ?_ (flagChange_mode f v s)
    (h.mc.trans (by rw [putFlag_mc])) (by rw [h.vli, putFlag_vli])
  · rw [h.flags]
    rcases hf with rfl | rfl <;> exact ⟨rfl, rfl⟩
  · rw [h.mu, putFlag_mu]
    exact ⟨rfl, rfl⟩

/-! ## A level held until it brings an event -/

theorem hearUntil_at {stop : LineEvent → Bool} {d : Bool} {n k : Nat} {h : Heard} (hk : k ≤ n)
    (hquiet : ∀ j, j < k → (hearRun d j h).events.any stop = false) (hstop : (hearRun d k h).events.any stop = true) :
    hearUntil stop d n h = hearRun d k h := by
  induction k generalizing n h with
  | zero =>
    cases n with
    | zero => rfl
    | succ n => exact if_pos hstop
  | succ k ih =>
    obtain ⟨n, rfl⟩ : ∃ m, n = m + 1 := ⟨n - 1, by omega⟩
    have hnow : h.events.any stop = false := hquiet 0 (by omega)
    have hnext := ih (n := n) (h := hearSample d h) (by omega) (fun j hj => hquiet (j + 1) (by omega)) hstop
    rw [hearUntil, hnow]
    exact hnext

theorem heardUntil_nil (s : State) (link : Link) (d : Bool) (stop : LineEvent → Bool) :
    heardUntil s link [] d stop = hearUntil stop d (stuckSamples + 7) (ear s link) := by
  simp only [heardUntil, heard, hearWave_nil]
  rfl

/-- Recessive on a filter at rest that goes on to `n` samples, at which the event comes that is waited for. -/
theorem hearUntil_rest {h : Heard} {stop : LineEvent → Bool} {n m : Nat} (hf : h.line.filter = restFilter)
    (hnone : h.events = []) (hlow : h.line.stretch < n) (hcap : n ≤ 20000) (hm : n ≤ m)
    (hquiet : ∀ k, h.line.stretch < k → k < n → (restEvents h.line.stretch k).any stop = false)
    (hstop : (restEvents h.line.stretch n).any stop = true) :
    hearUntil stop false m h =
      { line := h.line.restedTo n, timer := 0, events := restEvents h.line.stretch n } := by
  have hevents (k : Nat) : (hearRun false k h).events = restEvents h.line.stretch (h.line.stretch + k) := by
    rcases Nat.eq_zero_or_pos k with rfl | hk
    · rw [hearRun, hnone]
      exact (restEvents_self _).symm
    · rw [hearRun_rest hf hk, hnone]
      rfl
  have hsum : h.line.stretch + (n - h.line.stretch) = n := by omega
  rw [hearUntil_at (k := n - h.line.stretch) (by omega) (fun j hj => ?_) (by rw [hevents, hsum]; exact hstop),
    hearRun_rest hf (by omega)]
  · simp only [hnone, List.nil_append, hsum, Line.restedTo, hf, Nat.min_eq_right (show n ≤ stuckSamples from hcap)]
  · rw [hevents]
    rcases Nat.eq_zero_or_pos j with rfl | hj0
    · simp
    · exact hquiet _ (by omega) (by omega)

/-- A recessive line, held until the event comes that is waited for. -/
theorem heardUntil_rest {s : State} {link : Link} {stop : LineEvent → Bool} {n : Nat}
    (hf : (ifaceOf s link).line.filter = restFilter) (hlow : (ifaceOf s link).line.stretch < n) (hcap : n ≤ 20000)
    (hquiet : ∀ m, (ifaceOf s link).line.stretch < m → m < n →
      (restEvents (ifaceOf s link).line.stretch m).any stop = false)
    (hstop : (restEvents (ifaceOf s link).line.stretch n).any stop = true) :
    heardUntil s link [] false stop =
      { line := (ifaceOf s link).line.restedTo n, timer := 0
        events := restEvents (ifaceOf s link).line.stretch n } := by
  rw [heardUntil_nil]
  exact hearUntil_rest (h := ear s link) hf rfl hlow hcap (by simp only [stuckSamples]; omega) hquiet hstop

/-! ## An interface between frames -/

theorem betweenFrames_iff {s : State} {link : Link} :
    betweenFrames s link = true ↔ ((ifaceOf s link).rx ≠ .receiving ∧ (ifaceOf s link).rx ≠ .ifrWait) ∧
      (link = .vehicle → s.run.vli.sending = none) := by
  cases link <;> simp [betweenFrames]

/-- Between frames a line event is one of the waiting line's, but for the stuck line. -/
theorem lineEvent_waiting {s : State} {link : Link} {e : LineEvent} (h : betweenFrames s link = true) (he : e ≠ .stuck) :
    lineEvent link e s = waitEvent link e s := by
  obtain ⟨⟨hreceiving, hwait⟩, hsending⟩ := betweenFrames_iff.1 h
  cases link with
  | vehicle =>
    simp only [ifaceOf] at hreceiving hwait
    cases hrx : s.run.vli.iface.rx <;> simp_all [lineEvent, vehicleEvent]
  | display =>
    simp only [ifaceOf] at hreceiving hwait
    cases hrx : s.run.dli.iface.rx <;> simp_all [lineEvent, displayEvent]

@[simp] theorem betweenFrames_setHeard (link : Link) (h : Heard) (s : State) :
    betweenFrames (setHeard link h s) link = betweenFrames s link := by cases link <;> rfl

/-- The events that a line between frames passes over. -/
theorem waitEvent_passes {s : State} {link : Link} {e : LineEvent} (hidle : e ≠ .idle) (hsof : e ≠ .symbol .sof) :
    waitEvent link e s = s := by
  unfold waitEvent
  split
  · exact absurd rfl hsof
  · exact absurd rfl hidle
  · rfl
  all_goals rfl

end Sys2Proof.Machine
end


section
/-! PROOFS. The idle and the stuck line (O15), continued: the two rows. -/

namespace Sys2Proof.Machine

/-! ## Waiting for an event -/

theorem restEvents_any (stop : LineEvent → Bool) (a b : Nat) :
    (restEvents a b).any stop = ((decide (a < 60 ∧ 60 ≤ b) && stop .eod) || (decide (a < 80 ∧ 80 ≤ b) && stop .ifrTurn) ||
      (decide (a < 100 ∧ 100 ≤ b) && stop .eof) || (decide (a < 120 ∧ 120 ≤ b) && stop .idle)) := by
  have (p : Prop) [Decidable p] (e : LineEvent) : (if p then [e] else []).any stop = (decide p && stop e) := by
    split <;> simp_all
  simp only [restEvents, List.any_append, this]

theorem heldEvents_any (stop : LineEvent → Bool) (a b : Nat) :
    (heldEvents a b).any stop = ((decide (a < 15 ∧ 15 ≤ b) && stop .passes14) ||
      (decide (a < 240 ∧ 240 ≤ b) && stop (.symbol .brk)) || (decide (a < 20000 ∧ 20000 ≤ b) && stop .stuck)) := by
  have (p : Prop) [Decidable p] (e : LineEvent) : (if p then [e] else []).any stop = (decide p && stop e) := by
    split <;> simp_all
  simp only [heldEvents, List.any_append, this]

/-- What dominant brings on a filter at rest that goes on for `n` samples. -/
def pulseEvents (l : Line) (n : Nat) : List LineEvent :=
  restEvents l.stretch (l.stretch + 6) ++
    ([.edge (min stuckSamples (l.stretch + 6)) (min stuckSamples (l.cell + 6))] ++ heldEvents 1 (n - 6))

/-- Dominant on a filter at rest up to an event of a dominant stretch. -/
theorem hearUntil_pulse {h : Heard} {stop : LineEvent → Bool} {n m : Nat} (hf : h.line.filter = restFilter)
    (hnone : h.events = []) (hn : 7 ≤ n) (hcap : n ≤ 20006) (hm : n ≤ m)
    (hrest : ∀ b, (restEvents h.line.stretch b).any stop = false) (hedge : ∀ r c, stop (.edge r c) = false)
    (hquiet : ∀ b, b < n - 6 → (heldEvents 1 b).any stop = false) (hstop : (heldEvents 1 (n - 6)).any stop = true) :
    hearUntil stop true m h =
      { line := { filter := heldFilter, stretch := n - 6, cell := n - 6
                  idle := h.line.idle || decide (114 ≤ h.line.stretch) }
        timer := n - 6, events := pulseEvents h.line n } := by
  rw [hearUntil_at hm (fun j hj => ?_) (by rw [hearRun_pulse hf hn hcap]; simp [hstop]), hearRun_pulse hf hn hcap]
  · simp [hnone, pulseEvents]
  · by_cases hlow : j < 7
    · rcases Nat.eq_zero_or_pos j with rfl | hj0
      · simp [hearRun, hnone]
      · rw [hearRun_recessive rising hf (fun i hi => rising_step (by omega)) (fun _ _ => rfl) hj0]
        simp [hnone, hrest]
    · rw [hearRun_pulse hf (by omega) (by omega)]
      simp [hnone, hrest, hedge, hquiet (j - 6) (by omega)]

/-! ## Events one after the other -/

theorem foldl_lineEvents_passes {t : State} {link : Link} {es : List LineEvent} (hdue : due t = false)
    (hes : ∀ e ∈ es, lineEvent link e t = t) : es.foldl (fun t e => lineEvent link e (settle t)) t = t := by
  induction es with
  | nil => rfl
  | cons e es ih =>
    rw [List.foldl_cons, settle_of_not_due hdue, hes e List.mem_cons_self]
    exact ih fun x hx => hes x (List.mem_cons_of_mem _ hx)

/-- An event that does something, passed events on both sides, and an event that ends it. -/
theorem listen_between {s t : State} {link : Link} {h : Heard} {pre post : List LineEvent} {e x : LineEvent}
    (hdue : due s = false) (hevents : h.events = pre ++ e :: (post ++ [x]))
    (hpre : ∀ y ∈ pre, lineEvent link y (setHeard link h s) = setHeard link h s)
    (he : lineEvent link e (setHeard link h s) = t) (hdue' : due t = false) (hpost : ∀ y ∈ post, lineEvent link y t = t) :
    listen link h s = lineEvent link x t := by
  rw [listen_passes hdue hevents hpre, List.foldl_cons, settle_of_not_due (by simpa using hdue), he, List.foldl_append,
    foldl_lineEvents_passes hdue' hpost, List.foldl_cons, List.foldl_nil, settle_of_not_due hdue']

/-! ## LINE_IDLE -/

theorem exec_lineIdle {s : State} {link : Link} (hdue : due s = false) (hbetween : betweenFrames s link = true) :
    exec (.lineIdle link) s = .next (listenFor (fun e => decide (e = LineEvent.idle)) link
      (heardUntil s link [] false fun e => decide (e = LineEvent.idle)) s) :=
  calc exec (.lineIdle link) s = execLineIdle link s := rfl
    _ = _ := by rw [execLineIdle, after_of_not_due _ hdue, if_pos hbetween]

theorem mem_restEvents {a b : Nat} {e : LineEvent} (h : e ∈ restEvents a b) :
    (e = .eod ∧ a < 60 ∧ 60 ≤ b) ∨ (e = .ifrTurn ∧ a < 80 ∧ 80 ≤ b) ∨ (e = .eof ∧ a < 100 ∧ 100 ≤ b) ∨
      (e = .idle ∧ a < 120 ∧ 120 ≤ b) := by
  simp only [restEvents, List.mem_append] at h
  obtain ((h | h) | h) | h := h
  all_goals
    split at h
    · simp_all
    · simp at h

/-- The last event of a stretch that reaches 120 samples is the idle line. -/
theorem restEvents_idle {a : Nat} (h : a < 120) : restEvents a 120 = restEvents a 119 ++ [.idle] :=
  restEvents_succ (by omega)

/-- R146, R149: the idle line as an interface between frames hears it. -/
theorem exec_lineIdle_becomes {s : State} {link : Link} (hdue : due s = false) (hhears : hears s link = true)
    (hbetween : betweenFrames s link = true) (hf : (ifaceOf s link).line.filter = restFilter)
    (hlow : (ifaceOf s link).line.stretch < 120) :
    exec (.lineIdle link) s = .next (becomeIdle link (setHeard link
      { line := (ifaceOf s link).line.restedTo 120, timer := 0
        events := restEvents (ifaceOf s link).line.stretch 120 } s)) := by
  rw [exec_lineIdle hdue hbetween, heardUntil_rest (n := 120) hf hlow (by omega) ?_ ?_,
    listenFor_last hdue hhears (restEvents_idle hlow) (by simp) fun e he => ?_, lineEvent_waiting (by simpa using hbetween) (by simp)]
  · rfl
  · have hevent := mem_restEvents he
    rw [lineEvent_waiting (by simpa using hbetween) (by rintro rfl; simp at hevent),
      waitEvent_passes (by rintro rfl; simp at hevent) (by rintro rfl; simp at hevent)]
  · intro m _ hm
    simp [restEvents_any]
    omega
  · simp [restEvents_any, hlow]

/-! ## STUCK_LINE_TIMEOUT -/

theorem exec_stuckLineTimeout {s : State} (hdue : due s = false) :
    exec .stuckLineTimeout s = .next (listenFor (fun e => decide (e = LineEvent.stuck)) .vehicle
      (heardUntil s .vehicle [] true fun e => decide (e = LineEvent.stuck)) s) :=
  calc exec .stuckLineTimeout s = execStuckLineTimeout s := rfl
    _ = _ := by rw [execStuckLineTimeout, after_of_not_due _ hdue]

/-- The line after 10 ms of dominant. -/
def stuckLine (l : Line) : Line :=
  { filter := heldFilter, stretch := 20000, cell := 20000, idle := l.idle || decide (114 ≤ l.stretch) }

/-- What the vehicle line brings until it is stuck. -/
def stuckHeard (l : Line) : Heard :=
  { line := stuckLine l, timer := 20000
    events := restEvents l.stretch (l.stretch + 6) ++
      (.edge (min stuckSamples (l.stretch + 6)) (min stuckSamples (l.cell + 6)) ::
        [.passes14, .symbol .brk, .stuck]) }

theorem heardUntil_stuck {s : State} (hf : s.run.vli.iface.line.filter = restFilter) :
    (heardUntil s .vehicle [] true fun e => decide (e = LineEvent.stuck)) = stuckHeard s.run.vli.iface.line := by
  rw [heardUntil_nil, hearUntil_pulse (n := 20006) hf rfl (by omega) (by omega) (by simp only [stuckSamples]; omega) ?_ ?_ ?_ ?_]
  · rfl
  · simp [restEvents_any]
  · simp
  · intro b hb
    simp [heldEvents_any]
    omega
  · simp [heldEvents_any]

/-- The interface in STUCK, and F0 set. -/
def stuckAt (s : State) : State :=
  putFlag { s with run.vli.iface := s.run.vli.iface.toState .stuck } .vlinkStuck true

theorem lineStuck_frame (s : State) : WarningsOnly (stuckAt s) (lineStuck s) := flagChange_frame _ _ _

theorem WarningsOnly.stuckAt {s t : State} (h : WarningsOnly s t) :
    WarningsOnly (Machine.stuckAt s) (Machine.stuckAt t) := by
  refine ⟨?_, h.2⟩
  conv_lhs => rw [h.1]
  rfl

theorem lineStuck_stands {s : State} (hnew : s.run.flags.vlinkStuck = false) (hnoticing : noticing s = true) :
    NoticeStands .status (lineStuck s) :=
  flagChange_stands (f := .vlinkStuck) (v := true) (s := { s with run.vli.iface := s.run.vli.iface.toState .stuck })
    (fun h => by
      have hset : s.run.flags.vlinkStuck = true := h
      rw [hnew] at hset
      cases hset) hnoticing

/-- Ten milliseconds of dominant, with the one event `e` on the way that does something. -/
theorem exec_stuckLineTimeout_of {s t : State} {pre post : List LineEvent} {e : LineEvent} (hdue : due s = false)
    (hhears : hears s .vehicle = true) (hf : s.run.vli.iface.line.filter = restFilter)
    (hevents : (stuckHeard s.run.vli.iface.line).events = pre ++ e :: (post ++ [.stuck]))
    (hpre : ∀ y ∈ pre, lineEvent .vehicle y (setHeard .vehicle (stuckHeard s.run.vli.iface.line) s) =
      setHeard .vehicle (stuckHeard s.run.vli.iface.line) s)
    (he : lineEvent .vehicle e (setHeard .vehicle (stuckHeard s.run.vli.iface.line) s) = t) (hdue' : due t = false)
    (hpost : ∀ y ∈ post, lineEvent .vehicle y t = t) :
    exec .stuckLineTimeout s = .next (lineStuck t) := by
  rw [exec_stuckLineTimeout hdue, heardUntil_stuck hf,
    listenFor_heard hhears (e := .stuck) (by rw [hevents]; simp) (by simp),
    listen_between hdue hevents hpre he hdue' hpost]
  rfl

/-- What a line between frames passes over. -/
theorem lineEvent_waits {t : State} {link : Link} {e : LineEvent} (ht : betweenFrames t link = true) (hidle : e ≠ .idle)
    (hsof : e ≠ .symbol .sof) (hstuck : e ≠ .stuck) : lineEvent link e t = t := by
  rw [lineEvent_waiting ht hstuck, waitEvent_passes hidle hsof]

/-- A line between frames that becomes stuck. -/
theorem exec_stuckLineTimeout_between {s : State} (hdue : due s = false) (hhears : hears s .vehicle = true)
    (hf : s.run.vli.iface.line.filter = restFilter) (hbetween : betweenFrames s .vehicle = true) :
    let u := setHeard .vehicle (stuckHeard s.run.vli.iface.line) s
    ∃ t, (t = u ∨ t = becomeIdle .vehicle u) ∧ exec .stuckLineTimeout s = .next (lineStuck t) := by
  intro u
  have hu : betweenFrames u .vehicle = true := hbetween
  by_cases hidle : 114 ≤ s.run.vli.iface.line.stretch ∧ s.run.vli.iface.line.stretch < 120
  · have hrest : restEvents s.run.vli.iface.line.stretch (s.run.vli.iface.line.stretch + 6) = [.idle] := by
      unfold restEvents
      rw [if_neg (by omega), if_neg (by omega), if_neg (by omega), if_pos (by omega)]
      rfl
    have hbecomes : lineEvent .vehicle .idle u = becomeIdle .vehicle u := lineEvent_waiting hu (by simp)
    have hafter : betweenFrames (becomeIdle .vehicle u) .vehicle = true := by
      have hvli := (flagChange_frame .vlinkStuck false (setIface .vehicle ((ifaceOf u .vehicle).toState .idle) u)).vli
      have hsending := (betweenFrames_iff.1 hu).2 rfl
      refine betweenFrames_iff.2 ⟨?_, fun _ => (congrArg Vli.sending hvli).trans hsending⟩
      rw [show (ifaceOf (becomeIdle .vehicle u) .vehicle).rx = .idle from congrArg (fun v => v.iface.rx) hvli]
      simp
    refine ⟨_, .inr rfl, exec_stuckLineTimeout_of (pre := []) hdue hhears hf
      (post := [.edge _ _, .passes14, .symbol .brk]) (by rw [stuckHeard, hrest]; rfl) (by simp) hbecomes ?_ ?_⟩
    · exact (due_flagChange (.inl rfl) false _).trans hdue
    · simp only [List.mem_cons, List.not_mem_nil, or_false]
      rintro y (rfl | rfl | rfl)
      all_goals exact lineEvent_waits hafter (by simp) (by simp) (by simp)
  · refine ⟨_, .inl rfl, exec_stuckLineTimeout_of (e := .symbol .brk) (post := []) hdue hhears hf
      (pre := restEvents _ _ ++ [.edge _ _, .passes14]) (by rw [List.append_assoc]; rfl) (fun y hy => ?_)
      (lineEvent_waits hu (by simp) (by simp) (by simp)) hdue (by simp)⟩
    obtain hy | hy := List.mem_append.1 hy
    · have hevent := mem_restEvents hy
      exact lineEvent_waits hu (by rintro rfl; simp at hevent; omega) (by rintro rfl; simp at hevent)
        (by rintro rfl; simp at hevent)
    · simp only [List.mem_cons, List.not_mem_nil, or_false] at hy
      obtain rfl | rfl := hy
      · exact lineEvent_waits hu (by simp) (by simp) (by simp)
      · exact lineEvent_waits hu (by simp) (by simp) (by simp)

/-- A line that becomes stuck from inside a frame, which is discarded. -/
theorem exec_stuckLineTimeout_receiving {s : State} (hdue : due s = false) (hreceiving : receiving s .vehicle = true)
    (hf : s.run.vli.iface.line.filter = restFilter)
    (hgap : s.run.vli.iface.line.stretch < 54 ∨ 60 ≤ s.run.vli.iface.line.stretch) :
    let edge := edgeInTime s.run.vli.iface.bits (min stuckSamples (s.run.vli.iface.line.stretch + 6))
      (min stuckSamples (s.run.vli.iface.line.cell + 6))
    exec .stuckLineTimeout s = .next (lineStuck (discardFrame .vehicle (if edge then .brk else .invalid)
      (setHeard .vehicle (stuckHeard s.run.vli.iface.line) s))) := by
  intro edge
  let u := setHeard .vehicle (stuckHeard s.run.vli.iface.line) s
  have hu : receiving u .vehicle = true := hreceiving
  have hhears := hears_of_receiving hreceiving
  have hrest {y : LineEvent}
      (hy : y ∈ restEvents s.run.vli.iface.line.stretch (s.run.vli.iface.line.stretch + 6)) :
      lineEvent .vehicle y u = u := by
    obtain ⟨rfl, _, _⟩ | ⟨rfl, -, -⟩ | ⟨rfl, -, -⟩ | ⟨rfl, -, -⟩ := mem_restEvents hy
    · omega
    all_goals exact lineEvent_receiving hu (by simp)
  have hdropped (kind : ErrKind) : betweenFrames (discardFrame .vehicle kind u) .vehicle = true :=
    betweenFrames_iff.2 ⟨⟨by simp [discardFrame, Iface.toState], by simp [discardFrame, Iface.toState]⟩,
      fun _ => (receiving_iff.1 hu).2.2 rfl⟩
  by_cases hedge : edge = true
  · rw [hedge]
    refine exec_stuckLineTimeout_of (e := .symbol .brk) (post := []) (pre := restEvents _ _ ++ [.edge _ _, .passes14])
      hdue hhears hf (by rw [List.append_assoc]; rfl) (fun y hy => ?_) (lineEvent_receiving hu (by simp)) hdue (by simp)
    obtain hy | hy := List.mem_append.1 hy
    · exact hrest hy
    · simp only [List.mem_cons, List.not_mem_nil, or_false] at hy
      obtain rfl | rfl := hy
      · rw [lineEvent_receiving hu (by simp)]
        exact if_pos hedge
      · exact lineEvent_receiving hu (by simp)
  · rw [if_neg hedge]
    refine exec_stuckLineTimeout_of (e := .edge _ _) (post := [.passes14, .symbol .brk]) (pre := restEvents _ _)
      hdue hhears hf rfl (fun y hy => hrest hy) ?_ hdue ?_
    · rw [lineEvent_receiving hu (by simp)]
      exact if_neg hedge
    · intro y hy
      simp only [List.mem_cons, List.not_mem_nil, or_false] at hy
      obtain rfl | rfl := hy
      · exact lineEvent_waits (hdropped .invalid) (by simp) (by simp) (by simp)
      · exact lineEvent_waits (hdropped .invalid) (by simp) (by simp) (by simp)

/-- Settles O15: the idle line's last event, and the one event of the stuck line's that does something before it. -/
theorem idleAndStuckLine : Obligations.IdleAndStuckLine := by
  intro s hdue
  refine ⟨?_, ?_⟩
  · intro link hhears hbetween i hf hlow
    refine ⟨_, exec_lineIdle_becomes hdue hhears hbetween hf hlow, ?_⟩
    intro j
    refine ⟨?_, ?_⟩
    · rintro rfl
      rfl
    · rintro rfl
      exact flagChange_frame .vlinkStuck false _
  · intro hhears i line sticks hf
    have hsticks {t x : State} {error : LinkError} (hexec : exec .stuckLineTimeout s = .next (lineStuck t))
        (hx : WarningsOnly x t) (hbase : stuckAt x =
          { s with
            run.flags.vlinkStuck := true, run.mu.lastLinkError := error
            run.vli := { s.run.vli with
              iface := { rx := .stuck, buffer := [], bits := 0, binding := none, line := line }
              stuckTimer := 20000 } })
        (hclear : s.run.flags.vlinkStuck = false → t.run.flags.vlinkStuck = false) (hmode : t.mode = s.mode) :
        sticks error := by
      refine ⟨_, hexec, ?_, fun hnoticing hnew => lineStuck_stands (hclear hnew) (by rw [noticing_congr hmode, hnoticing])⟩
      rw [← hbase]
      exact hx.stuckAt.trans (lineStuck_frame t)
    refine ⟨fun hbetween => ?_, ?_⟩
    · obtain ⟨t, rfl | rfl, hexec⟩ := exec_stuckLineTimeout_between hdue hhears hf hbetween
      · exact hsticks hexec (.refl _) rfl (fun h => h) rfl
      · have hframe := flagChange_frame .vlinkStuck false (setIface .vehicle
          ((ifaceOf (setHeard .vehicle (stuckHeard i.line) s) .vehicle).toState .idle)
          (setHeard .vehicle (stuckHeard i.line) s))
        exact hsticks hexec hframe rfl (fun _ => congrArg (·.vlinkStuck) hframe.flags) hframe.mode
    · intro hreceiving hgap inTime
      have hexec := exec_stuckLineTimeout_receiving hdue hreceiving hf hgap
      have hedge : edgeInTime i.bits (min stuckSamples (i.line.stretch + 6)) (min stuckSamples (i.line.cell + 6)) = true ↔
          inTime := by
        rw [edgeInTime_iff]
        simp only [inTime, stuckSamples]
        split <;> omega
      refine ⟨fun hin => ?_, fun hout => ?_⟩
      · rw [hedge.2 hin] at hexec
        exact hsticks hexec (.refl _) rfl (fun h => h) rfl
      · rw [Bool.eq_false_iff.2 fun h => hout (hedge.1 h)] at hexec
        exact hsticks hexec (.refl _) rfl (fun h => h) rfl

end Sys2Proof.Machine
end


section
/-! PROOFS. Starts of frames, the assembly of bits, and the interest decision (O11). -/

namespace Sys2Proof.Machine

/-! ## The assembly buffer -/

/-- The byte whose bit at place `r`, counted from the most significant, is `b`. -/
def bitAt (r : Nat) (b : Bool) : Byte := if b then 0x80#8 >>> r else 0#8

theorem byteBits_getElem? (x : Byte) (k : Nat) (h : k < 8) : (byteBits x)[k]? = some (x.getLsbD (7 - k)) := by
  simp [byteBits, h]

theorem bitAt_getLsbD {r k : Nat} (hr : r < 8) (hk : k < 8) (b : Bool) :
    (bitAt r b).getLsbD (7 - k) = (decide (k = r) && b) := by
  cases b with
  | false => simp [bitAt]
  | true =>
    have hall : ∀ r, r < 8 → ∀ k, k < 8 → (bitAt r true).getLsbD (7 - k) = (decide (k = r) && true) := by decide
    exact hall r hr k hk

/-- A bit put behind the bits of a byte whose other places are empty. -/
theorem byteBits_or_bitAt {x : Byte} {r : Nat} (hr : r < 8) (hempty : ∀ k, r ≤ k → (byteBits x).getD k false = false)
    (b : Bool) : byteBits (x ||| bitAt r b) = (byteBits x).take r ++ (b :: List.replicate (7 - r) false) := by
  have htake : ((byteBits x).take r).length = r := by simp; omega
  refine List.ext_getElem? fun k => ?_
  by_cases hk : k < 8
  · rw [byteBits_getElem? _ _ hk, BitVec.getLsbD_or, bitAt_getLsbD hr hk]
    rcases Nat.lt_trichotomy k r with hlow | rfl | hhigh
    · rw [List.getElem?_append_left (by omega), List.getElem?_take_of_lt hlow, byteBits_getElem? _ _ hk]
      simp [Nat.ne_of_lt hlow]
    · have hzero := hempty k (Nat.le_refl _)
      rw [List.getD_eq_getElem?_getD, byteBits_getElem? _ _ hk] at hzero
      rw [List.getElem?_append_right (by omega), htake]
      simp_all
    · have hzero := hempty k (by omega)
      rw [List.getD_eq_getElem?_getD, byteBits_getElem? _ _ hk] at hzero
      rw [List.getElem?_append_right (by omega), htake, show k - r = (k - r - 1) + 1 by omega,
        List.getElem?_cons_succ, List.getElem?_replicate, if_pos (by omega)]
      simp_all
      omega
  · rw [List.getElem?_eq_none (by simp; omega), List.getElem?_eq_none (by simp; omega)]

theorem bytesBits_append (xs ys : List Byte) : bytesBits (xs ++ ys) = bytesBits xs ++ bytesBits ys := by
  simp [bytesBits]

theorem updAt_append_last {α : Type} (xs : List α) (x : α) (f : α → α) :
    updAt (xs ++ [x]) xs.length f = xs ++ [f x] := by
  induction xs with
  | nil => rfl
  | cons y ys ih => simp [updAt, ih]

/-- The bits of an assembly buffer and nothing behind them. -/
def Assembled (i : Iface) : Prop :=
  i.buffer.length = (i.bits + 7) / 8 ∧ ∀ k, i.bits ≤ k → (bytesBits i.buffer).getD k false = false

/-- R140, R146: the bits read stand in front, the new one behind them, and the rest of its byte is empty. -/
theorem bytesBits_addBit {i : Iface} (h : Assembled i) (b : Bool) :
    bytesBits (i.addBit b).buffer =
      (bytesBits i.buffer).take i.bits ++ (b :: List.replicate (7 - i.bits % 8) false) := by
  obtain ⟨hlength, hempty⟩ := h
  have hr : i.bits % 8 < 8 := Nat.mod_lt _ (by decide)
  by_cases hfull : i.bits % 8 = 0
  · have hall : i.bits = 8 * i.buffer.length := by omega
    have hbuffer : (i.addBit b).buffer = i.buffer ++ [0#8 ||| bitAt 0 b] := by
      simp [Iface.addBit, hfull, bitAt]
    rw [hbuffer, bytesBits_append, show bytesBits [0#8 ||| bitAt 0 b] = byteBits (0#8 ||| bitAt 0 b) ++ [] from rfl,
      byteBits_or_bitAt (by decide) (fun k _ => ?_) b, hall, ← bytesBits_length, List.take_length]
    · simp
    · have hzero : byteBits 0#8 = List.replicate 8 false := by decide
      rw [hzero, List.getD_eq_getElem?_getD, List.getElem?_replicate]
      split <;> rfl
  · obtain ⟨init, last, hsplit⟩ : ∃ init last, i.buffer = init ++ [last] := by
      have hne : i.buffer ≠ [] := fun hnil => by rw [hnil] at hlength; simp at hlength; omega
      exact ⟨_, _, (List.dropLast_append_getLast hne).symm⟩
    have hinit : init.length = i.bits / 8 := by rw [hsplit] at hlength; simp at hlength; omega
    have hbuffer : (i.addBit b).buffer = init ++ [last ||| bitAt (i.bits % 8) b] := by
      rw [Iface.addBit]
      simp only [hfull, if_false, hsplit, ← hinit, updAt_append_last]
      rfl
    have hbits : i.bits = (bytesBits init).length + i.bits % 8 := by rw [bytesBits_length]; omega
    have hlast : ∀ k, i.bits % 8 ≤ k → (byteBits last).getD k false = false := by
      intro k hk
      have hzero := hempty ((bytesBits init).length + k) (by omega)
      rw [hsplit, bytesBits_concat, List.getD_eq_getElem?_getD, List.getElem?_append_right (by omega),
        Nat.add_sub_cancel_left] at hzero
      rw [List.getD_eq_getElem?_getD, hzero]
    rw [hbuffer, bytesBits_concat, byteBits_or_bitAt hr hlast b, hsplit, bytesBits_concat]
    conv_rhs => rw [hbits]
    rw [List.take_length_add_append, List.append_assoc, ← hbits]

theorem addBit_assembles {i : Iface} (h : Assembled i) (b : Bool) :
    (bytesBits (i.addBit b).buffer).take (i.bits + 1) = (bytesBits i.buffer).take i.bits ++ [b] ∧
      (i.addBit b).bits = i.bits + 1 ∧ (i.addBit b).buffer.length = (i.bits + 8) / 8 ∧
      ∀ k, i.bits < k → (bytesBits (i.addBit b).buffer).getD k false = false := by
  have hbits := bytesBits_addBit h b
  have hfront : ((bytesBits i.buffer).take i.bits).length = i.bits := by
    have hlength := h.1
    simp
    omega
  refine ⟨?_, rfl, ?_, fun k hk => ?_⟩
  · rw [hbits, show i.bits + 1 = ((bytesBits i.buffer).take i.bits).length + 1 by omega, List.take_length_add_append]
    rfl
  · have hlength := congrArg List.length hbits
    rw [bytesBits_length, List.length_append, hfront] at hlength
    simp at hlength
    omega
  · rw [hbits, List.getD_eq_getElem?_getD, List.getElem?_append_right (by omega), hfront,
      show k - i.bits = (k - i.bits - 1) + 1 by omega, List.getElem?_cons_succ, List.getElem?_replicate]
    split <;> rfl

end Sys2Proof.Machine
end


section
/-! PROOFS. Starts of frames and the interest decision (O11), continued. -/

namespace Sys2Proof.Machine

/-! ## A pulse on an idle line -/

theorem heldEvents_append {a b c : Nat} (hab : a ≤ b) (hbc : b ≤ c) :
    heldEvents a b ++ heldEvents b c = heldEvents a c := by
  induction c with
  | zero =>
    obtain ⟨rfl, rfl⟩ : b = 0 ∧ a = 0 := by omega
    simp
  | succ c ih =>
    rcases Nat.lt_or_ge c b with hlt | hge
    · obtain rfl : b = c + 1 := by omega
      simp
    · rw [heldEvents_succ hge, ← List.append_assoc, ih hge, ← heldEvents_succ (by omega)]

theorem mem_heldEvents {a b : Nat} {e : LineEvent} (h : e ∈ heldEvents a b) :
    (e = .passes14 ∧ a < 15 ∧ 15 ≤ b) ∨ (e = .symbol .brk ∧ a < 240 ∧ 240 ≤ b) ∨
      (e = .stuck ∧ a < 20000 ∧ 20000 ≤ b) := by
  simp only [heldEvents, List.mem_append] at h
  obtain (h | h) | h := h
  all_goals
    split at h
    · simp_all
    · simp at h

/-- A dominant pulse that the filter follows, up to the recessive behind it: an edge, a loss's moment, and the
symbol it is judged as. -/
theorem hearWave_pulse {h : Heard} {n : Nat} (hf : h.line.filter = restFilter) (hidle : 120 ≤ h.line.stretch)
    (hn : 7 ≤ n) (hcap : n < 20000) :
    hearWave [(true, n), (false, 7)] h =
      { line := { filter := restFilter, stretch := 1, cell := n + 1, idle := false }, timer := 0
        events := h.events ++ ([.edge (min stuckSamples (h.line.stretch + 6)) (min stuckSamples (h.line.cell + 6))] ++
          (if 15 ≤ n then [.passes14] else []) ++ [.symbol (dominantSymbol n true)]) } := by
  have hrest : restEvents h.line.stretch (h.line.stretch + 6) = [] := by
    unfold restEvents
    rw [if_neg (by omega), if_neg (by omega), if_neg (by omega), if_neg (by omega)]
    rfl
  have hheld : heldEvents 1 n ++ dominantEnd n true =
      (if 15 ≤ n then [.passes14] else []) ++ [.symbol (dominantSymbol n true)] := by
    unfold heldEvents dominantEnd
    rw [if_neg (c := 1 < 20000 ∧ 20000 ≤ n) (by omega)]
    by_cases hbrk : 240 ≤ n
    · rw [if_neg (c := n < 240) (by omega), if_pos (c := 1 < 240 ∧ 240 ≤ n) (by omega), (dominantSymbol_cases n true).1 hbrk]
      simp
    · rw [if_pos (c := n < 240) (by omega), if_neg (c := 1 < 240 ∧ 240 ≤ n) (by omega)]
      simp
  have hflag : (h.line.idle || decide (114 ≤ h.line.stretch)) = true := by simp; omega
  show hearRun false 7 (hearRun true n h) = _
  rw [hearRun_pulse hf hn (by omega), hearRun_fall (a := n - 6) rfl rfl rfl rfl (by omega)]
  simp only [hflag, hrest, show n - 6 + 6 = n by omega, show min stuckSamples (n - 6 + 7) = n + 1 by simp only [stuckSamples]; omega,
    List.append_nil, List.append_assoc]
  rw [← List.append_assoc (heldEvents 1 (n - 6)), heldEvents_append (by omega) (by omega), hheld]

/-- A pulse that the filter does not follow brings no symbol. -/
theorem hearWave_short {h : Heard} {n : Nat} (hf : h.line.filter = restFilter) (hnone : h.events = []) (hn : n < 7) :
    (hearWave [(true, n), (false, 7)] h).events.any LineEvent.isSymbol = false := by
  have hquiet (a b : Nat) : (restEvents a b).any LineEvent.isSymbol = false := by
    simp [restEvents_any, LineEvent.isSymbol]
  have hstep (j : Nat) : filterSample { count := n - j, dominant := false } false = { count := n - (j + 1), dominant := false } := by
    unfold filterSample
    simp only [Bool.false_eq_true, if_false, ite_self]
    rw [if_neg (by omega), Nat.sub_sub]
  show (hearRun false 7 (hearRun true n h)).events.any _ = false
  rcases Nat.eq_zero_or_pos n with rfl | hpos
  · rw [hearRun, hearRun_rest hf (by omega)]
    simp [hnone, hquiet]
  · rw [hearRun_recessive rising hf (fun j hj => rising_step (by omega)) (fun _ _ => rfl) hpos,
      hearRun_recessive (fun j => { count := n - j, dominant := false }) rfl (fun j _ => hstep j) (fun _ _ => rfl) (by omega)]
    simp [hnone, hquiet]

theorem dominantSymbol_sof_iff (n : Nat) : dominantSymbol n true = .sof ↔ 100 ≤ n ∧ n ≤ 140 := by
  obtain ⟨hbrk, hone, hzero, hsof, hinvalid⟩ := dominantSymbol_cases n true
  constructor
  · intro h
    by_contra hnot
    rcases Nat.lt_or_ge n 240 with hlow | hhigh
    · by_cases h1 : 6 ≤ n ∧ n ≤ 14
      · rw [hone h1.1 h1.2] at h
        cases h
      · by_cases h2 : 26 ≤ n ∧ n ≤ 34
        · rw [hzero h2.1 h2.2] at h
          cases h
        · rw [hinvalid hlow h1 h2 fun hs => hnot ⟨hs.1, hs.2.1⟩] at h
          cases h
    · rw [hbrk hhigh] at h
      cases h
  · exact fun ⟨h1, h2⟩ => hsof ⟨h1, h2, rfl⟩

/-! ## A start of frame -/

/-- An IDLE interface, whose line is heard between frames. -/
theorem betweenFrames_idle {s : State} {link : Link} (hrx : (ifaceOf s link).rx = .idle)
    (hsending : link = .vehicle → s.run.vli.sending = none) : betweenFrames s link = true :=
  betweenFrames_iff.2 ⟨by simp [hrx], hsending⟩

/-- On an IDLE interface the first symbol begins a frame exactly when it is a SOF. -/
theorem exec_sofReceived_idle {s : State} {link : Link} {wave : Wave} {pre : List LineEvent} {x : Symbol}
    (hdue : due s = false) (hhears : hears s link = true) (hsending : link = .vehicle → s.run.vli.sending = none)
    (hrx : (ifaceOf s link).rx = .idle) (hevents : (heard s link wave).events = pre ++ [.symbol x])
    (hpre : ∀ e ∈ pre, e = .passes14 ∨ ∃ r c, e = .edge r c) :
    let u := setHeard link (heard s link wave) s
    exec (.sofReceived link wave) s =
      .next (if x = .sof then setIface link ((ifaceOf u link).toState .receiving) u else u) := by
  intro u
  have hbetween : betweenFrames u link = true := by simpa [u] using betweenFrames_idle hrx hsending
  rw [exec_sofReceived hdue, listenFor_last hdue hhears hevents rfl fun e he => ?_, lineEvent_waiting hbetween (by simp)]
  · split
    · next hsof =>
      subst hsof
      exact congrArg _ (if_pos (by simpa [u] using hrx))
    · next hsof => rw [waitEvent_passes (by simp) (by simpa using hsof)]
  · obtain rfl | ⟨r, c, rfl⟩ := hpre e he
    · exact lineEvent_waits hbetween (by simp) (by simp) (by simp)
    · exact lineEvent_waits hbetween (by simp) (by simp) (by simp)

/-! ## The interest decision -/

/-- The lowest place at which a search finds something. -/
theorem findSome?_range_lowest {α : Type} {f : Nat → Option α} {k n : Nat} {a : α} (hn : n < k) (hf : f n = some a)
    (hlow : ∀ m, m < n → f m = none) : (List.range k).findSome? f = some a := by
  obtain ⟨d, rfl⟩ : ∃ d, k = n + (d + 1) := ⟨k - n - 1, by omega⟩
  refine List.findSome?_eq_some_iff.2 ⟨List.range n, n, ((List.range d).map Nat.succ).map fun x => n + x, ?_, hf, fun m hm => ?_⟩
  · rw [List.range_add, List.range_succ_eq_map]
    rfl
  · exact hlow m (List.mem_range.1 hm)

/-- An active route with this source link and identifier. -/
def Serves (s : State) (link : Link) (ident n : Nat) (r : LiveRoute) : Prop :=
  routeAt s n = some r ∧ r.cfg.link = link ∧ r.cfg.ident = ident

theorem routeFor_step {s : State} {link : Link} {ident m : Nat} (h : ∀ r, ¬ Serves s link ident m r) :
    (match routeAt s m with
      | some r => if r.cfg.link = link ∧ r.cfg.ident = ident then some (m, r) else none
      | none => none) = none := by
  cases hr : routeAt s m with
  | none => rfl
  | some r => exact if_neg fun hkey => h r ⟨hr, hkey⟩

theorem routeFor_lowest {s : State} {link : Link} {ident n : Nat} {r : LiveRoute} (hn : n < 96)
    (hserves : Serves s link ident n r) (hlow : ∀ m r', m < n → ¬ Serves s link ident m r') :
    routeFor s link ident = some (n, r) := by
  obtain ⟨hr, hkey⟩ := hserves
  refine findSome?_range_lowest hn ?_ fun m hm => routeFor_step fun r' => hlow m r' hm
  rw [hr]
  exact if_pos hkey

theorem routeFor_none {s : State} {link : Link} {ident : Nat} (h : ∀ n r, n < 96 → ¬ Serves s link ident n r) :
    routeFor s link ident = none :=
  List.findSome?_eq_none_iff.2 fun m hm => routeFor_step fun r => h m r (List.mem_range.1 hm)

theorem interest_setIface (link link' : Link) (i : Iface) (h : Header) (s : State) :
    interest (setIface link i s) link' h = interest s link' h := by cases link <;> rfl

theorem interest_setHeard (link link' : Link) (h : Heard) (x : Header) (s : State) :
    interest (setHeard link h s) link' x = interest s link' x := by cases link <;> rfl

/-! ## A bit is received -/

/-- R146: the bit is assembled, and a header that it completes is presented. -/
theorem exec_headerComplete_bit {s : State} {link : Link} {wave : Wave} {pre : List LineEvent} {b : Bool}
    (hdue : due s = false) (hreceiving : receiving s link = true) (hroom : (ifaceOf s link).bits < 104)
    (hevents : (heard s link wave).events = pre ++ [.symbol (if b then .one else .zero)])
    (hpre : ∀ e ∈ pre, e = .passes14 ∨ ∃ r c, e = .edge r c ∧
      if (ifaceOf s link).bits = 0 then 10 ≤ r ∧ r ≤ 50 else 36 ≤ c ∧ c ≤ 44) :
    let u := setHeard link (heard s link wave) s
    let j := (ifaceOf u link).addBit b
    exec (.headerComplete link wave) s = .next
      (if headerIsComplete (wholeBytes (ifaceOf s link)) = false ∧ headerIsComplete (wholeBytes j) = true then
        presentHeader link (setIface link j u)
      else setIface link j u) := by
  intro u j
  have hbit : (if b then Symbol.one else Symbol.zero).bit? = some b := by cases b <;> rfl
  rw [exec_headerComplete hdue, listenFor_received hdue hreceiving hevents (by simp [LineEvent.isBit, hbit]) (by simp) hpre]
  simp only [receiveEvent, hbit, receiveBit]
  rw [if_neg (by simp [maxFrameBits]; omega), wholeBytes_setHeard]

/-- R5, R6: a header that the buffer holds, by its binding. -/
theorem presentHeader_setIface (link : Link) (j : Iface) (u : State) :
    presentHeader link (setIface link j u) = setIface link
      (match interest u link (headerOf (wholeBytes j)) with
        | some b => { j with binding := some b }
        | none => { j with rx := .ignoring, buffer := [], bits := 0, binding := none }) u := by
  unfold presentHeader
  simp only [ifaceOf_setIface, interest_setIface, setIface_setIface]
  cases interest u link (headerOf (wholeBytes j)) <;> rfl

/-- Settles O11. -/
theorem headersAreBound : Obligations.HeadersAreBound := by
  refine ⟨fun i b hlength hempty => addBit_assembles ⟨hlength, hempty⟩ b, ?_⟩
  intro s link hdue hhears hsending i
  refine ⟨fun hrx => ⟨?_, ?_⟩, ?_⟩
  · intro wave pre x hevents hpre u
    exact exec_sofReceived_idle hdue hhears hsending hrx hevents hpre
  · intro n hn hf hidle
    rcases Nat.lt_or_ge n 7 with hlow | hhigh
    · have hquiet : (heard s link [(true, n), (false, 7)]).events.any LineEvent.isSymbol = false :=
        hearWave_short hf rfl hlow
      refine ⟨s, ?_, fun _ => rfl, fun h => absurd h (Nat.not_le.2 hlow)⟩
      rw [exec_sofReceived hdue, listenFor, if_neg fun h => by rw [hquiet] at h; exact absurd h.2 (by simp)]
    · have hheard : heard s link [(true, n), (false, 7)] = _ := hearWave_pulse (h := ear s link) hf hidle hhigh hn
      have hexec := exec_sofReceived_idle hdue hhears hsending hrx (congrArg Heard.events hheard) (by
        intro e he
        simp only [ear, List.mem_append, List.mem_cons, List.not_mem_nil, or_false] at he
        obtain rfl | he := he
        · exact .inr ⟨_, _, rfl⟩
        · split at he
          · exact .inl (by simpa using he)
          · simp at he)
      refine ⟨_, hexec, fun h => absurd h (Nat.not_lt.2 hhigh), fun _ => ?_⟩
      rw [hheard, ← dominantSymbol_sof_iff]
      by_cases hsof : dominantSymbol n true = .sof
      · rw [if_pos hsof]
        simp [hsof, Iface.toState, ifaceOf_setHeard]
      · rw [if_neg hsof]
        have hstays : (ifaceOf s link).rx ≠ .receiving := by simp [show (ifaceOf s link).rx = .idle from hrx]
        simp [hsof, ifaceOf_setHeard, hstays]
  · intro hrx hroom wave pre b hevents hpre u j h routed serves exits
    have hreceiving : receiving s link = true := receiving_iff.2 ⟨hhears, hrx, hsending⟩
    have hexec := exec_headerComplete_bit hdue hreceiving hroom hevents hpre
    refine ⟨fun hno => ?_, fun hbefore hnow => ?_⟩
    · rw [hexec, if_neg]
      rintro ⟨hbefore, hnow⟩
      obtain hold | hnot := hno
      · rw [hbefore] at hold
        cases hold
      · rw [hnow] at hnot
        cases hnot
    · have hexits (x : Option Binding) (hx : interest s link h = x) : exits x := by
        show _ = _
        rw [hexec, if_pos ⟨hbefore, hnow⟩, presentHeader_setIface, interest_setHeard, hx]
        cases x <;> rfl
      have hrouted : routing s = true ↔ routed := decide_eq_true_iff
      refine ⟨fun n r hkind hr hn hserves hlow => hexits (some (.route n h.ident r.cfg.expected)) ?_,
        fun hkind hnone => hexits none ?_, fun hkind htarget => hexits (some .mu) ?_,
        fun hkind hnode hall => hexits none ?_, fun hkind => hexits none ?_⟩
      · simp only [interest, hkind, hrouted.2 hr, if_true]
        rw [routeFor_lowest hn hserves fun m r' hm => hlow m r' hm]
        rfl
      · simp only [interest, hkind]
        by_cases hr : routing s = true
        · rw [if_pos hr, routeFor_none (hnone.resolve_left fun hnot => hnot (hrouted.1 hr))]
          rfl
        · rw [if_neg hr]
      · simp only [interest, hkind]
        exact if_pos htarget
      · simp only [interest, hkind]
        exact if_neg fun h => h.elim hnode hall
      · obtain hk | hk := hkind
        · simp only [interest, hk]
        · simp only [interest, hk]

end Sys2Proof.Machine
end


section
/-! PROOFS. A frame's header, payload and samples are read back (O8). -/

namespace Sys2Proof.Machine

/-! ## The header -/

theorem byteOf_toNat {n : Nat} (h : n < 256) : (byteOf n).toNat = n := by
  simp [byteOf, Nat.mod_eq_of_lt h]

theorem kindOf_kindCode (k : Kind) : kindOf (kindCode k) = k := by cases k <;> rfl

theorem kindCode_lt (k : Kind) : kindCode k < 4 := by cases k <;> decide

/-- Section 11.1: the fields of the first header byte. -/
theorem firstByte_fields {prio code high : Nat} (hprio : prio < 8) (hcode : code < 4) (hhigh : high < 8) :
    bitField (byteOf (32 * prio + 8 * code + high)) 7 5 = prio ∧
      bitField (byteOf (32 * prio + 8 * code + high)) 4 3 = code ∧
      bitField (byteOf (32 * prio + 8 * code + high)) 2 0 = high := by
  simp only [bitField, byteOf_toNat (show 32 * prio + 8 * code + high < 256 by omega)]
  omega

/-- Section 11.1: the fields of the address byte. -/
theorem addressByte_fields {target source : Nat} (htarget : target < 16) (hsource : source < 16) :
    bitField (byteOf (16 * target + source)) 7 4 = target ∧ bitField (byteOf (16 * target + source)) 3 0 = source := by
  simp only [bitField, byteOf_toNat (show 16 * target + source < 256 by omega)]
  omega

/-- The header of a frame, as it is to be sent. -/
def Frame.header (f : Frame) : Header :=
  { prio := f.prio, kind := f.kind, ident := f.ident, target := f.target, source := f.source }

section
variable {f : Frame} (hprio : f.prio < 8) (hident : f.ident < 2048) (htarget : f.target < 16) (hsource : f.source < 16)
  (hnone : f.kind.addressed = false → f.target = 0 ∧ f.source = 0)
include hprio hident htarget hsource hnone

theorem headerOf_frameBody : headerOf (frameBody f) = f.header := by
  obtain ⟨hp, hk, hi⟩ := firstByte_fields hprio (kindCode_lt f.kind) (show f.ident / 256 % 8 < 8 by omega)
  have hfirst : byteAt (frameBody f) 0 = byteOf (32 * f.prio + 8 * kindCode f.kind + f.ident / 256 % 8) := rfl
  have hsecond : (byteAt (frameBody f) 1).toNat = f.ident % 256 := by
    show (byteOf f.ident).toNat = _
    simp [byteOf]
  have hident' : 256 * (f.ident / 256 % 8) + f.ident % 256 = f.ident := by omega
  simp only [headerOf, hfirst, hsecond, hp, hk, hi, kindOf_kindCode, hident', Frame.header]
  by_cases haddressed : f.kind.addressed = true
  · have hthird : byteAt (frameBody f) 2 = byteOf (16 * f.target + f.source) := by
      simp [byteAt, frameBody, haddressed]
    obtain ⟨ht, hs⟩ := addressByte_fields htarget hsource
    simp only [hthird, ht, hs, haddressed, if_true]
  · obtain ⟨ht, hs⟩ := hnone (by simpa using haddressed)
    simp only [if_neg haddressed, ht, hs]

theorem payloadOf_frameBody : payloadOf (frameBody f) = f.payload := by
  rw [payloadOf, headerOf_frameBody hprio hident htarget hsource hnone]
  by_cases haddressed : f.kind.addressed = true
  · simp [frameBody, headerBytes, Frame.header, haddressed]
  · simp [frameBody, headerBytes, Frame.header, haddressed]

theorem frameBody_complete : headerIsComplete (frameBody f) = true := by
  rw [headerIsComplete_iff, headerOf_frameBody hprio hident htarget hsource hnone]
  refine ⟨by simp [frameBody], fun haddressed => ?_⟩
  have : f.kind.addressed = true := haddressed
  simp [frameBody, this]

end

theorem frameBytes_length (f : Frame) :
    (frameBytes f).length = (if f.kind.addressed then 4 else 3) + f.payload.length := by
  by_cases haddressed : f.kind.addressed = true
  · simp [frameBytes, frameBody, haddressed]
    omega
  · simp [frameBytes, frameBody, haddressed]
    omega

/-! ## The bytes that a string of bits spells -/

theorem bitsBytes_bytesBits (bs : List Byte) : bitsBytes (bytesBits bs) = bs := by
  refine List.ext_getElem (by simp [bitsBytes]) fun k hk hk' => ?_
  have hbyte : bs[k] = byteAt bs k := by simp [byteAt, hk']
  simp only [bitsBytes, List.getElem_map, List.getElem_range]
  rw [bytesBits_drop hk', List.take_left' (by simp), bitsNat_byteBits, hbyte]
  simp [byteOf]

/-! ## What a receiver hears of a frame -/

/-- Events heard before the ones that a wave brings. -/
theorem hearWave_from (w : Wave) (l : Line) (timer : Nat) (es : List LineEvent) :
    hearWave w { line := l, timer := timer, events := es } =
      (hearWave w { line := l, timer := timer, events := [] }).after es := by
  rw [← hearWave_after]
  simp [Heard.after]

/-- A driven SOF on any line that has been recessive for 120 samples. -/
theorem hear_sof_rested {l : Line} (timer : Nat) (hf : l.filter = restFilter) (hidle : 120 ≤ l.stretch) :
    hearWave sofWave { line := l, timer := timer, events := [] } =
      { line := afterSof, timer := 0
        events := [.edge (min stuckSamples (l.stretch + 6)) (min stuckSamples (l.cell + 6)), .passes14, .symbol .sof] } := by
  have hpulse := hearWave_pulse (h := { line := l, timer := timer, events := [] }) (n := 120) hf hidle (by omega) (by omega)
  have hwave : hearWave sofWave { line := l, timer := timer, events := [] } =
      hearRun false 33 (hearWave [(true, 120), (false, 7)] { line := l, timer := timer, events := [] }) := by
    simp only [hearWave, sofWave, List.foldl_cons, List.foldl_nil]
    rw [show 40 = 7 + 33 from rfl, hearRun_add]
  rw [hwave, hpulse, hearRun_rest rfl (by omega)]
  simp [restEvents, afterSof, stuckSamples, dominantSymbol]

/-- The cells of at least one bit, after the SOF. -/
theorem hear_cells_afterSof (b : Bool) (bits : List Bool) :
    hearWave ((b :: bits).flatMap cellWave) { line := afterSof, timer := 0, events := [] } =
      { line := afterCell (bits.getLast?.getD b), timer := 0
        events := .edge 40 160 :: (bitEvents b ++ cellEvents b bits) } := by
  rw [List.flatMap_cons, hearWave_append, hear_firstCell, hearWave_from, hear_cells]
  simp [Heard.after]

/-- A frame of at least one bit on a line that has been recessive for 120 samples, up to its EOD. -/
theorem hear_frame_rested {bytes : List Byte} {b : Bool} {bits : List Bool} {l : Line} (timer : Nat)
    (hbits : bytesBits bytes = b :: bits) (hf : l.filter = restFilter) (hidle : 120 ≤ l.stretch) :
    (hearWave (frameWave bytes ++ [(false, 60)]) { line := l, timer := timer, events := [] }).events =
      [.edge (min stuckSamples (l.stretch + 6)) (min stuckSamples (l.cell + 6)), .passes14, .symbol .sof] ++
        (.edge 40 160 :: (bitEvents b ++ cellEvents b bits)) ++
        (if bits.getLast?.getD b then [.eod, .ifrTurn] else [.eod]) := by
  rw [frameWave, hbits, hearWave_append, hearWave_append, hear_sof_rested timer hf hidle, hearWave_from _ afterSof,
    hear_cells_afterSof]
  simp only [Heard.after]
  rw [hearWave_from, hear_end]
  simp [Heard.after]

/-! ## Reading the frame -/

theorem readFrame_bit {bits : List Bool} {r c : Nat} (htime : edgeInTime bits.length r c = true) (b : Bool)
    (es : List LineEvent) :
    readFrame true bits (.edge r c :: (bitEvents b ++ es)) = readFrame true (bits ++ [b]) es := by
  cases b <;> simp [readFrame, htime, bitEvents, Symbol.bit?]

theorem readFrame_cells {read : List Bool} (hread : read ≠ []) (before : Bool) (bits : List Bool) (es : List LineEvent) :
    readFrame true read (cellEvents before bits ++ es) = readFrame true (read ++ bits) es := by
  induction bits generalizing read before with
  | nil => simp [cellEvents]
  | cons b bits ih =>
    have htime : edgeInTime read.length (if before then 30 else 10) 40 = true := by
      simp [edgeInTime, hread]
    simp only [cellEvents, List.cons_append, List.append_assoc]
    rw [readFrame_bit htime, ih (by simp)]
    simp

/-- The events of a driven frame spell its bits. -/
theorem readFrame_frame (r c : Nat) (b : Bool) (bits : List Bool) (es : List LineEvent) :
    readFrame false [] ([.edge r c, .passes14, .symbol .sof] ++
      (.edge 40 160 :: (bitEvents b ++ cellEvents b bits)) ++ .eod :: es) = some (b :: bits) := by
  have hstart : readFrame false [] ([.edge r c, .passes14, .symbol .sof] ++
      (.edge 40 160 :: (bitEvents b ++ cellEvents b bits)) ++ .eod :: es) =
      readFrame true [] (.edge 40 160 :: (bitEvents b ++ (cellEvents b bits ++ .eod :: es))) := by
    simp [readFrame]
  rw [hstart, readFrame_bit (by decide), readFrame_cells (by simp)]
  simp [readFrame]

/-- A driven frame on a line that has been recessive for 120 samples is read back as its bits. -/
theorem readFrame_driven {bytes : List Byte} {l : Line} (timer : Nat) (hbytes : bytes ≠ []) (hf : l.filter = restFilter)
    (hidle : 120 ≤ l.stretch) :
    readFrame false []
        (hearWave (frameWave bytes ++ [(false, 60)]) { line := l, timer := timer, events := [] }).events =
      some (bytesBits bytes) := by
  obtain ⟨b, bits, hbits⟩ : ∃ b bits, bytesBits bytes = b :: bits := by
    refine List.exists_cons_of_ne_nil fun hnil => hbytes ?_
    have hlength := congrArg List.length hnil
    rw [bytesBits_length] at hlength
    exact List.length_eq_zero_iff.1 (by simpa using hlength)
  rw [hear_frame_rested timer hbits hf hidle, hbits]
  split
  · exact readFrame_frame _ _ _ _ _
  · exact readFrame_frame _ _ _ _ _

/-- Settles O8. -/
theorem frameHeaderRoundTrips : Obligations.FrameHeaderRoundTrips := by
  intro f hprio hident htarget hsource hnone
  refine ⟨headerOf_frameBody hprio hident htarget hsource hnone, payloadOf_frameBody hprio hident htarget hsource hnone,
    frameBody_complete hprio hident htarget hsource hnone, List.dropLast_concat, frameBytes_length f, ?_⟩
  intro line timer hf hidle h
  exact ⟨readFrame_driven timer (by simp [frameBytes]) hf hidle, bitsBytes_bytesBits _⟩

end Sys2Proof.Machine
end


section
/-! PROOFS. The loopback test (O20). -/

namespace Sys2Proof.Machine

/-! ## Its beginning -/

theorem exec_linkTest {s : State} {cmd : Command} (hin : InHand s .linkTest cmd) (htest : s.run.vli.test = .off) :
    exec .linkTest s = .next { s with run.vli.test := .waiting } :=
  calc exec .linkTest s = .next (whenDue (commandDue s .linkTest) (fun _ => runLinkTest) s) := rfl
    _ = _ := by
      rw [hin.due (by simp) fun _ => htest]
      rfl

theorem exec_linkTestBegin {s : State} (hdue : due s = false) (hmode : s.mode ≠ .standby)
    (htest : s.run.vli.test = .waiting) (hsending : s.run.vli.sending = none)
    (hrx : s.run.vli.iface.rx = .idle ∨ s.run.vli.iface.rx = .stuck) :
    exec .linkTestBegin s = .next (isolate s) := by
  have hcan : canTest s = true := by simp [canTest, powered_of_mode hmode, htest, hsending, hrx]
  calc exec .linkTestBegin s = execLinkTestBegin s := rfl
    _ = _ := by rw [execLinkTestBegin, after_of_not_due _ hdue, if_pos hcan]

/-! ## Its end -/

theorem exec_linkTestEnd {s : State} (hdue : due s = false) (htest : s.run.vli.test = .running) (read : LoopRead) :
    exec (.linkTestEnd read) s = .next (endTest read s) :=
  calc exec (.linkTestEnd read) s = execLinkTestEnd read s := rfl
    _ = _ := by rw [execLinkTestEnd, after_of_not_due _ hdue, if_pos htest]

/-- The state in which the VLI is connected to the line again. -/
def reconnected (read : LoopRead) (s : State) : State :=
  { s with run.vli := reconnect { s.run.vli with iface := { s.run.vli.iface with line := (testHeard s read.wave).line } } }

theorem endTest_eq (read : LoopRead) (s : State) :
    endTest read s = linkTestReport (loopOutcome (testBits s read.wave) read.crcGood).1
      (loopOutcome (testBits s read.wave) read.crcGood).2 (reconnected read s) := rfl

/-- R184: the report is answered while LINK TEST is in hand. -/
theorem linkTestReport_replied {s : State} {cmd : Command} (hphase : s.run.mu.phase = .executing)
    (hcmd : s.run.mu.cmd = some cmd) (hcode : payloadCmd cmd.payload = some .linkTest) (hmode : s.mode ≠ .shutdown)
    (code : Code) (stage : Nat) :
    Replied s (linkTestReport code stage s) cmd [byteOf code.number, byteOf stage] none := by
  rw [linkTestReport, if_pos (by simp [executing, hphase, hcmd, hcode])]
  exact answer_replied hcmd hmode code [byteOf stage]

theorem linkTestReport_gone {s : State} (hphase : s.run.mu.phase ≠ .executing) (code : Code) (stage : Nat) :
    linkTestReport code stage s = s := by
  rw [linkTestReport, if_neg (by simp [executing, hphase])]

/-- The bytes of the test frame without their CRC byte. -/
theorem frameBytes_testFrame :
    frameBytes testFrame =
      [0xE7#8, 0xFF#8, 0x55#8, 0xAA#8, 0x0F#8, 0xF0#8] ++ [crc8 [0xE7#8, 0xFF#8, 0x55#8, 0xAA#8, 0x0F#8, 0xF0#8]] := rfl

/-- R156: the result and the stage, by what was read. -/
theorem loopOutcome_cases (bits : List Bool) (crcGood : Bool) :
    let fault := endOfDataFault (bitsBytes bits) (bits.length % 8) none
    let same := bitsBytes bits = frameBytes testFrame
    (fault = some .framing → loopOutcome (some bits) crcGood = (.fail, 1)) ∧
      (fault ≠ some .framing → ¬ same → loopOutcome (some bits) crcGood = (.fail, 2)) ∧
      (fault ≠ some .framing → same → crcGood = false → loopOutcome (some bits) crcGood = (.fail, 3)) ∧
      (fault ≠ some .framing → same → crcGood = true → loopOutcome (some bits) crcGood = (.pass, 0)) := by
  refine ⟨fun hfault => if_pos hfault, fun hfault hsame => ?_, fun hfault hsame hcrc => ?_, fun hfault hsame hcrc => ?_⟩
  · exact (if_neg hfault).trans (if_pos hsame)
  · exact (if_neg hfault).trans ((if_neg (not_not.2 hsame)).trans (if_pos hcrc))
  · exact (if_neg hfault).trans ((if_neg (not_not.2 hsame)).trans (if_neg (by simp [hcrc])))

/-- The test frame at its nominal lengths fits into the time of the test. -/
theorem firstSamples_testFrame :
    firstSamples 4000 (frameWave (frameBytes testFrame) ++ [(false, 60)]) =
      frameWave (frameBytes testFrame) ++ [(false, 60)] := by decide +kernel

theorem testFrame_framed :
    endOfDataFault (bitsBytes (bytesBits (frameBytes testFrame))) ((bytesBits (frameBytes testFrame)).length % 8) none ≠
      some .framing := by
  rw [bitsBytes_bytesBits, bytesBits_length, Nat.mul_mod_right]
  decide +kernel

/-- Settles O20. -/
theorem loopbackTest : Obligations.LoopbackTest := by
  intro s
  refine ⟨fun cmd => exec_linkTest, fun hdue hmode htest hsending hrx => exec_linkTestBegin hdue hmode htest hsending hrx, ?_⟩
  intro hdue htest read begun joined sent ends got
  have hends (code : Code) (stage : Nat)
      (houtcome : loopOutcome (testBits s read.wave) read.crcGood = (code, stage)) :
      ends [byteOf code.number, byteOf stage] := by
    have hexec : exec (.linkTestEnd read) s = .next (linkTestReport code stage joined) := by
      rw [exec_linkTestEnd hdue htest, endTest_eq, houtcome]
      rfl
    refine ⟨fun cmd hphase hcmd hcode hmode => ⟨_, hexec, ?_⟩, fun hphase => ?_⟩
    · exact linkTestReport_replied (s := joined) hphase hcmd hcode hmode code stage
    · rw [hexec, linkTestReport_gone (s := joined) hphase]
  have hread {bits : List Bool} (hbits : got = some bits) : testBits s read.wave = some bits := hbits
  refine ⟨fun hnone => ?_, ?_, ?_⟩
  · have hread : testBits s read.wave = none := hnone
    exact hends .fail 1 (by rw [hread]; rfl)
  · intro bits hbits bytes fault same
    obtain ⟨h1, h2, h3, h4⟩ := loopOutcome_cases bits read.crcGood
    rw [← hread hbits] at h1 h2 h3 h4
    exact ⟨fun hf => hends .fail 1 (h1 hf), fun hf hs => hends .fail 2 (h2 hf hs),
      fun hf hs hc => hends .fail 3 (h3 hf hs hc), fun hf hs hc => hends .pass 0 (h4 hf hs hc)⟩
  · intro hf hidle hwave
    have hbits : testBits s read.wave = some (bytesBits (frameBytes testFrame)) := by
      rw [testBits, hwave, ← frameBytes_testFrame, firstSamples_testFrame]
      exact readFrame_driven 0 (by simp [frameBytes]) hf hidle
    obtain ⟨-, -, h3, h4⟩ := loopOutcome_cases (bytesBits (frameBytes testFrame)) read.crcGood
    rw [← hbits] at h3 h4
    by_cases hcrc : read.crcGood = true
    · rw [if_pos hcrc]
      exact hends .pass 0 (h4 testFrame_framed (bitsBytes_bytesBits _) hcrc)
    · rw [if_neg hcrc]
      exact hends .fail 3 (h3 testFrame_framed (bitsBytes_bytesBits _) (by simpa using hcrc))

end Sys2Proof.Machine
end


section
/-! PROOFS. An attempt on the vehicle link sends the head of the queue (O16). -/

namespace Sys2Proof.Machine

/-! ## The attempt begins -/

theorem beginAttempt_eq {s : State} {e : QEntry} {rest : List QEntry} (h : s.run.queues.vtq = e :: rest) :
    beginAttempt s =
      { s with run.queues.vtq := e.begin_ :: rest, run.vli.sending := some (frameBytes e.current)
               run.vli.iface.line := { s.run.vli.iface.line with stretch := 0, cell := 0 } } := by
  simp [beginAttempt, h]

/-! ## What follows at a frame's end -/

/-- A wave after which the line rests is followed by recessive up to EOD. -/
theorem heardUntil_eod {s : State} {link : Link} {wave : Wave} (hf : (heard s link wave).line.filter = restFilter)
    (hlow : (heard s link wave).line.stretch < 60) :
    (heardUntil s link wave false fun e => decide (e = LineEvent.eod)) =
      { line := (heard s link wave).line.restedTo 60, timer := 0, events := (heard s link wave).events ++ [.eod] } := by
  have hrest : restEvents (heard s link wave).line.stretch 60 = [.eod] := by
    unfold restEvents
    rw [if_pos (by omega), if_neg (by omega), if_neg (by omega), if_neg (by omega)]
    rfl
  rw [heardUntil, hearUntil_rest (h := { heard s link wave with events := [] }) (n := 60) hf rfl hlow (by omega) (by simp only [stuckSamples]; omega) ?_ ?_]
  · exact congrArg (fun es => ({ line := _, timer := 0, events := _ ++ es } : Heard)) hrest
  · intro k _ hk
    simp [restEvents_any]
    omega
  · simp [restEvents_any]
    exact hlow

theorem exec_frameSent {s : State} {bytes : List Byte} (hdue : due s = false) (hsending : s.run.vli.sending = some bytes) :
    exec .frameSent s = .next (listenFor (fun e => decide (e = LineEvent.eod)) .vehicle
      (heardUntil s .vehicle (restOfFrame s) false fun e => decide (e = LineEvent.eod)) s) :=
  calc exec .frameSent s = execFrameSent s := rfl
    _ = _ := by rw [execFrameSent, after_of_not_due _ hdue, if_pos (by rw [hsending]; rfl)]

/-! ## What a sent frame leaves -/

/-- The VLI when the frame is sent. -/
def frameLeft (s : State) : State :=
  { s with run.vli.sending := none, run.vli.iface := s.run.vli.iface.toState .ifrWait }

section
variable {s : State} {e : QEntry} {rest : List QEntry} (h : s.run.queues.vtq = e :: rest)
include h

theorem removeVtqHead_eq : removeVtqHead s = replyLeft e.origin { s with run.queues.vtq := rest } := by
  simp [removeVtqHead, h]

theorem vehicleSent_nextPart (hpart : e.part = 0) (hsecond : e.frame1.isSome = true) :
    vehicleSent s = { frameLeft s with run.queues.vtq := { e with part := 1, attempted := false } :: rest } := by
  have hleft : e.partsLeft = true := by simp [QEntry.partsLeft, hpart, hsecond]
  simp only [vehicleSent, h, hleft, if_true]
  rfl

theorem vehicleSent_gone (hlast : e.part ≠ 0 ∨ e.frame1 = none) :
    vehicleSent s = replyLeft e.origin { frameLeft s with run.queues.vtq := rest } := by
  have hleft : e.partsLeft = false := by
    rcases hlast with hpart | hone
    · simp [QEntry.partsLeft, hpart]
    · simp [QEntry.partsLeft, hone]
  have hremoved := removeVtqHead_eq (s := frameLeft s) h
  simp only [vehicleSent, h, hleft]
  exact hremoved

end

/-- An entry that is neither reported nor a BUSY REPLY leaves its queue unreported. -/
theorem replyLeft_other {o : Origin} (hresult : o ≠ .resultReply) (hbusy : o ≠ .busyReply) (s : State) :
    replyLeft o s = s := by
  cases o with
  | resultReply => exact absurd rfl hresult
  | busyReply => exact absurd rfl hbusy
  | _ => rfl

/-! ## The attempt reads itself back -/

/-- While it sends, the VLI moves as its attempt does, but for the stuck line. -/
theorem lineEvent_sending {s : State} {bytes : List Byte} {e : LineEvent} (hsending : s.run.vli.sending = some bytes)
    (he : e ≠ .stuck) : lineEvent .vehicle e s = sendEvent bytes e s := by
  simp [lineEvent, vehicleEvent, he, hsending]

/-- The state with another interface. -/
def withIface (s : State) (i : Iface) : State := { s with run.vli.iface := i }

/-- The interface of an attempt that has read so many of its own bits back. -/
def ReadBack (l : Line) (k : Nat) (i : Iface) : Prop := i.rx = .receiving ∧ i.bits = k ∧ i.line = l

theorem due_withIface (s : State) (i : Iface) : due (withIface s i) = due s := rfl

section
variable {s : State} {bytes : List Byte} {l : Line} {k : Nat} {i : Iface} {b : Bool} (hdue : due s = false)
  (hsending : s.run.vli.sending = some bytes) (hread : ReadBack l k i) (hbit : (bytesBits bytes)[k]? = some b)
include hsending hread

/-- At its EOD, with all its bits read back, the attempt has sent its frame. -/
theorem sendEvent_eod (hk : (bytesBits bytes).length ≤ k) :
    lineEvent .vehicle .eod (withIface s i) = vehicleSent (withIface s i) := by
  obtain ⟨hrx, hbits, -⟩ := hread
  rw [lineEvent_sending (s := withIface s i) hsending (by simp)]
  simp only [sendEvent, show (withIface s i).run.vli.iface = i from rfl, hrx, hbits]
  exact if_pos hk

include hbit

/-- The edge of a cell that the VLI drives is passed over. -/
theorem sendEvent_edge {r c : Nat} (hin : edgeAsDriven k r c = true) :
    lineEvent .vehicle (.edge r c) (withIface s i) = withIface s i := by
  obtain ⟨hrx, hbits, -⟩ := hread
  have hk := (List.getElem?_eq_some_iff.1 hbit).1
  rw [lineEvent_sending (s := withIface s i) hsending (by simp)]
  simp only [sendEvent, show (withIface s i).run.vli.iface = i from rfl, hrx, hbits]
  rw [if_neg (by simp), if_neg (by omega), if_pos hin]

/-- The symbol of the bit sent is read back, its loss's moment passed over. -/
theorem foldl_bitEvents (hdue : due s = false) (es : List LineEvent) :
    ∃ j, ReadBack l (k + 1) j ∧
      (bitEvents b ++ es).foldl (fun t e => lineEvent .vehicle e (settle t)) (withIface s i) =
        es.foldl (fun t e => lineEvent .vehicle e (settle t)) (withIface s j) := by
  obtain ⟨hrx, hbits, hline⟩ := hread
  refine ⟨i.addBit b, ⟨hrx, congrArg (· + 1) hbits, hline⟩, ?_⟩
  have hsettle : settle (withIface s i) = withIface s i := settle_of_not_due hdue
  have hget : (bytesBits bytes).getD k false = b := by rw [List.getD_eq_getElem?_getD, hbit]; rfl
  have hsymbol (x : Symbol) (hx : x.bit? = some b) :
      lineEvent .vehicle (.symbol x) (withIface s i) = withIface s (i.addBit b) := by
    rw [lineEvent_sending (s := withIface s i) hsending (by simp)]
    simp only [sendEvent, show (withIface s i).run.vli.iface = i from rfl, hrx, hbits, hx, hbit, hget]
    rfl
  cases b with
  | true => simp only [bitEvents, if_true, List.singleton_append, List.foldl_cons, hsettle, hsymbol .one rfl]
  | false =>
    have hpass : lineEvent .vehicle .passes14 (withIface s i) = withIface s i := by
      rw [lineEvent_sending (s := withIface s i) hsending (by simp)]
      simp only [sendEvent, show (withIface s i).run.vli.iface = i from rfl, hrx, hbits, hbit]
      rfl
    simp only [bitEvents, Bool.false_eq_true, if_false, List.cons_append, List.nil_append, List.foldl_cons, hsettle, hpass,
      hsymbol .zero rfl]

end

/-- Driven cells are read back as their bits. -/
theorem foldl_cellEvents {s : State} {bytes : List Byte} {l : Line} (hdue : due s = false)
    (hsending : s.run.vli.sending = some bytes) (bits : List Bool) {k : Nat} {i : Iface} (before : Bool)
    (hread : ReadBack l k i) (hk : 0 < k) (hbits : (bytesBits bytes).drop k = bits) (es : List LineEvent) :
    ∃ j, ReadBack l (k + bits.length) j ∧
      (cellEvents before bits ++ es).foldl (fun t e => lineEvent .vehicle e (settle t)) (withIface s i) =
        es.foldl (fun t e => lineEvent .vehicle e (settle t)) (withIface s j) := by
  induction bits generalizing k i before with
  | nil => exact ⟨i, hread, rfl⟩
  | cons b bits ih =>
    have hbit : (bytesBits bytes)[k]? = some b := by
      have := congrArg (fun l => l[0]?) hbits
      simpa using this
    have hnext : (bytesBits bytes).drop (k + 1) = bits := by
      rw [← List.drop_drop, hbits]
      rfl
    have hin : edgeAsDriven k (if before then 30 else 10) 40 = true := by
      have : k ≠ 0 := by omega
      simp [edgeAsDriven, edgeInTime, this]
    obtain ⟨j, hj, hfirst⟩ := foldl_bitEvents hsending hread hbit hdue (cellEvents b bits ++ es)
    obtain ⟨j', hj', hrest⟩ := ih b hj (by omega) hnext
    refine ⟨j', by rwa [List.length_cons, Nat.add_comm bits.length, ← Nat.add_assoc], ?_⟩
    simp only [cellEvents, List.cons_append, List.append_assoc, List.foldl_cons]
    rw [settle_of_not_due (s := withIface s i) hdue, sendEvent_edge hsending hread hbit hin, hfirst, hrest]

/-! ## The whole frame, from an idle line -/

/-- What driven cells bring after the SOF. -/
def frameEvents : List Bool → List LineEvent
  | [] => []
  | b :: bits => .edge 40 160 :: (bitEvents b ++ cellEvents b bits)

/-- The line after a driven frame. -/
def frameEnd : List Bool → Line
  | [] => afterSof
  | b :: bits => afterCell (bits.getLast?.getD b)

theorem frameEnd_rests (bits : List Bool) :
    (frameEnd bits).filter = restFilter ∧ (frameEnd bits).stretch < 60 ∧ (frameEnd bits).idle = false := by
  cases bits with
  | nil => decide
  | cons b bits =>
    refine ⟨rfl, ?_, rfl⟩
    simp only [frameEnd, afterCell]
    split <;> omega

theorem hear_bits_afterSof (bits : List Bool) :
    hearWave (bits.flatMap cellWave) { line := afterSof, timer := 0, events := [] } =
      { line := frameEnd bits, timer := 0, events := frameEvents bits } := by
  cases bits with
  | nil => rfl
  | cons b bits => exact hear_cells_afterSof b bits

/-- A frame that an attempt drives from its start on. -/
theorem hear_frame_begun (bytes : List Byte) (timer : Nat) :
    hearWave (frameWave bytes) { line := { idleLine with stretch := 0, cell := 0 }, timer := timer, events := [] } =
      { line := frameEnd (bytesBits bytes), timer := 0
        events := [.edge 6 6, .passes14, .symbol .sof] ++ frameEvents (bytesBits bytes) } := by
  have htimer : hearWave sofWave { line := { idleLine with stretch := 0, cell := 0 }, timer := timer, events := [] } =
      hearWave sofWave { line := { idleLine with stretch := 0, cell := 0 }, timer := 0, events := [] } := rfl
  rw [frameWave, hearWave_append, htimer, hear_sof_begun, hearWave_from, hear_bits_afterSof]
  rfl

theorem foldl_frameEvents {s : State} {bytes : List Byte} {l : Line} {i : Iface} (hdue : due s = false)
    (hsending : s.run.vli.sending = some bytes) (hread : ReadBack l 0 i) (es : List LineEvent) :
    ∃ j, ReadBack l (bytesBits bytes).length j ∧
      (frameEvents (bytesBits bytes) ++ es).foldl (fun t e => lineEvent .vehicle e (settle t)) (withIface s i) =
        es.foldl (fun t e => lineEvent .vehicle e (settle t)) (withIface s j) := by
  cases hbits : bytesBits bytes with
  | nil => exact ⟨i, hread, rfl⟩
  | cons b bits =>
    have hbit : (bytesBits bytes)[0]? = some b := by rw [hbits]; rfl
    obtain ⟨j, hj, hfirst⟩ := foldl_bitEvents hsending hread hbit hdue (cellEvents b bits ++ es)
    obtain ⟨j', hj', hrest⟩ := foldl_cellEvents hdue hsending bits b hj (by omega) (by rw [hbits]; rfl) es
    refine ⟨j', by rwa [List.length_cons, Nat.add_comm bits.length, ← Nat.zero_add 1], ?_⟩
    simp only [frameEvents, List.cons_append, List.append_assoc, List.foldl_cons]
    rw [settle_of_not_due (s := withIface s i) hdue, sendEvent_edge hsending hread hbit (by decide), hfirst, hrest]

/-! ## FRAME_SENT -/

/-- The state in which the frame of an attempt is sent, but for the queue and what follows from it. -/
def sentQuiet (s : State) (line : Line) : State :=
  { s with run.vli.sending := none, run.vli.stuckTimer := 0
           run.vli.iface := { rx := .ifrWait, buffer := [], bits := 0, binding := none, line := line } }

/-- The line and the timer that are heard, and an interface that has read the frame back. -/
def readState (s : State) (line : Line) (i : Iface) : State :=
  withIface { s with run.vli.stuckTimer := 0 } { i with line := line }

theorem frameLeft_readState (s : State) (line : Line) (i : Iface) : frameLeft (readState s line i) = sentQuiet s line := rfl

/-- From within the recessive of a cell on, the rest of it is left. -/
theorem dropSamples_inCell {b : Bool} {place : Nat} (hplace : (if b then 10 else 30) ≤ place) (w : Wave) :
    dropSamples place (cellWave b ++ w) =
      if place < 40 then (false, 40 - place) :: w else dropSamples (place - 40) w := by
  cases b with
  | true =>
    have hlow : 10 ≤ place := by simpa using hplace
    simp only [cellWave, if_true, List.cons_append, List.nil_append, dropSamples]
    rw [if_neg (by omega), Nat.sub_sub]
    by_cases h : place < 40
    · rw [if_pos h, if_pos (by omega), show 30 - (place - 10) = 40 - place by omega]
    · rw [if_neg h, if_neg (by omega)]
  | false =>
    have hlow : 30 ≤ place := by simpa using hplace
    simp only [cellWave, Bool.false_eq_true, if_false, List.cons_append, List.nil_append, dropSamples]
    rw [if_neg (by omega), Nat.sub_sub]
    by_cases h : place < 40
    · rw [if_pos h, if_pos (by omega), show 10 - (place - 30) = 40 - place by omega]
    · rw [if_neg h, if_neg (by omega)]

/-- After the last bit, what is left of the cells is the rest of its recessive. -/
theorem restOfCells_lastBit (lead : Wave) {bits : List Bool} {last : Bool} {read : Nat} {l : Line}
    (hf : l.filter = restFilter) (hread : read = bits.length) (hlast : bits.getLast? = some last)
    (hplace : (if last then 4 else 24) ≤ l.cell) :
    restOfCells lead bits read l = if l.cell < 34 then [(false, 34 - l.cell)] else [] := by
  have hne : bits ≠ [] := by
    rintro rfl
    simp at hlast
  have hpos : 0 < bits.length := List.length_pos_iff.2 hne
  have hdrop : bits.drop (read - 1) = [last] := by
    rw [hread, List.drop_length_sub_one hne]
    rw [List.getLast?_eq_some_getLast hne] at hlast
    simpa using hlast
  have hcells : ([last].flatMap cellWave) = cellWave last ++ [] := by simp
  simp only [restOfCells, hf, Bool.false_eq_true, if_false, Line.cellPlace]
  rw [if_neg (by omega), hdrop, hcells, dropSamples_inCell (by split <;> simp_all)]
  by_cases h : l.cell < 34
  · rw [if_pos h, if_pos (by omega), show 40 - (l.cell + 6) = 34 - l.cell by omega]
  · rw [if_neg h, if_neg (by omega)]
    rfl

/-- The rest of a cell's recessive brings nothing, and counts as recessive. -/
theorem heard_restOfCell {s : State} {wave : Wave} (hf : s.run.vli.iface.line.filter = restFilter)
    (hlow : s.run.vli.iface.line.stretch < 60) (hcell : s.run.vli.iface.line.stretch ≤ s.run.vli.iface.line.cell)
    (hwave : wave = if s.run.vli.iface.line.cell < 34 then [(false, 34 - s.run.vli.iface.line.cell)] else []) :
    (heard s .vehicle wave).line.filter = restFilter ∧ (heard s .vehicle wave).line.stretch < 60 ∧
      (heard s .vehicle wave).line.restedTo 60 = s.run.vli.iface.line.restedTo 60 ∧ (heard s .vehicle wave).events = [] := by
  subst hwave
  by_cases h : s.run.vli.iface.line.cell < 34
  · rw [if_pos h]
    have hrun : heard s .vehicle [(false, 34 - s.run.vli.iface.line.cell)] = _ :=
      hearRun_rest (h := ear s .vehicle) (k := 34 - s.run.vli.iface.line.cell) hf (by omega)
    have hnone : restEvents s.run.vli.iface.line.stretch
        (s.run.vli.iface.line.stretch + (34 - s.run.vli.iface.line.cell)) = [] := by
      unfold restEvents
      rw [if_neg (by omega), if_neg (by omega), if_neg (by omega), if_neg (by omega)]
      rfl
    rw [hrun]
    refine ⟨rfl, ?_, ?_, hnone⟩
    · show min stuckSamples (s.run.vli.iface.line.stretch + _) < 60
      omega
    · simp only [Line.restedTo, ear, ifaceOf, hf, stuckSamples]
      congr 1
      · omega
      · have : ¬ 120 ≤ s.run.vli.iface.line.stretch + (34 - s.run.vli.iface.line.cell) := by omega
        simp [this]
  · rw [if_neg h]
    exact ⟨hf, hlow, rfl, rfl⟩

section
variable {s : State} {bytes : List Byte} (hdue : due s = false) (hsending : s.run.vli.sending = some bytes)
  (hhears : hears s .vehicle = true) (hf : s.run.vli.iface.line.filter = restFilter)
include hdue hsending hhears hf

/-- From after the last bit on: the rest of its cell, and recessive up to EOD. -/
theorem exec_frameSent_lastBit (hrx : s.run.vli.iface.rx = .receiving)
    (hbits : s.run.vli.iface.bits = 8 * bytes.length) (hlow : s.run.vli.iface.line.stretch < 60)
    (hcell : s.run.vli.iface.line.stretch ≤ s.run.vli.iface.line.cell)
    (hlast : ∃ last, (bytesBits bytes).getLast? = some last ∧ (if last then 4 else 24) ≤ s.run.vli.iface.line.cell) :
    ∃ i, exec .frameSent s = .next (vehicleSent (readState s (s.run.vli.iface.line.restedTo 60) i)) := by
  obtain ⟨last, hlast, hplace⟩ := hlast
  have hwave : restOfFrame s =
      if s.run.vli.iface.line.cell < 34 then [(false, 34 - s.run.vli.iface.line.cell)] else [] := by
    simp only [restOfFrame, hsending, hrx]
    exact restOfCells_lastBit sofWave hf (by rw [hbits, bytesBits_length]) hlast hplace
  obtain ⟨hfilter, hshort, hline, hnone⟩ := heard_restOfCell (s := s) hf hlow hcell hwave
  rw [exec_frameSent hdue hsending, heardUntil_eod hfilter hshort, hline, hnone,
    listenFor_last (pre := []) hdue hhears rfl (by simp) (by simp)]
  refine ⟨s.run.vli.iface, congrArg _ ?_⟩
  exact sendEvent_eod (s := { s with run.vli.stuckTimer := 0 }) (l := s.run.vli.iface.line.restedTo 60)
    (i := { s.run.vli.iface with line := s.run.vli.iface.line.restedTo 60 }) hsending ⟨hrx, hbits, rfl⟩
    (by rw [bytesBits_length])

/-- From the start of an attempt on: the whole frame, and recessive up to EOD. -/
theorem exec_frameSent_whole (hrx : s.run.vli.iface.rx = .idle) (hidle : s.run.vli.iface.line.idle = true)
    (hstretch : s.run.vli.iface.line.stretch = 0) (hcell : s.run.vli.iface.line.cell = 0) :
    ∃ i, exec .frameSent s =
      .next (vehicleSent (readState s ((frameEnd (bytesBits bytes)).restedTo 60) i)) := by
  have hline : s.run.vli.iface.line = { idleLine with stretch := 0, cell := 0 } := by
    cases hl : s.run.vli.iface.line
    simp_all [idleLine]
  have hwave : restOfFrame s = frameWave bytes := by
    simp only [restOfFrame, hsending, hrx, if_true, hline]
    rfl
  have hheard : heard s .vehicle (restOfFrame s) =
      { line := frameEnd (bytesBits bytes), timer := 0
        events := [.edge 6 6, .passes14, .symbol .sof] ++ frameEvents (bytesBits bytes) } := by
    rw [hwave, ← hear_frame_begun bytes s.run.vli.stuckTimer, ← hline]
    rfl
  obtain ⟨hrest, hshort, -⟩ := frameEnd_rests (bytesBits bytes)
  rw [exec_frameSent hdue hsending, heardUntil_eod (by rw [hheard]; exact hrest) (by rw [hheard]; exact hshort), hheard,
    listenFor_heard hhears (e := .eod) (by simp) (by simp), listen]
  let line := (frameEnd (bytesBits bytes)).restedTo 60
  let u : State := { s with run.vli.stuckTimer := 0 }
  have hset (es : List LineEvent) : setHeard .vehicle { line := line, timer := 0, events := es } s =
      withIface u { s.run.vli.iface with line := line } := rfl
  have hstart : ([.edge 6 6, .passes14, .symbol .sof] : List LineEvent).foldl (fun t e => lineEvent .vehicle e (settle t))
      (withIface u { s.run.vli.iface with line := line }) =
      withIface u (({ s.run.vli.iface with line := line } : Iface).toState .receiving) := by
    simp only [List.foldl_cons, List.foldl_nil]
    have hidle (e : LineEvent) (he : e ≠ .stuck) :=
      lineEvent_sending (s := withIface u { s.run.vli.iface with line := line }) hsending he
    have hedge : lineEvent .vehicle (.edge 6 6) (withIface u { s.run.vli.iface with line := line }) =
        withIface u { s.run.vli.iface with line := line } := by
      rw [hidle _ (by simp)]
      exact if_pos hrx
    have hpass : lineEvent .vehicle .passes14 (withIface u { s.run.vli.iface with line := line }) =
        withIface u { s.run.vli.iface with line := line } := by
      rw [hidle _ (by simp)]
      exact if_pos hrx
    rw [settle_of_not_due (s := withIface u _) hdue, hedge, settle_of_not_due (s := withIface u _) hdue, hpass,
      settle_of_not_due (s := withIface u _) hdue, hidle _ (by simp)]
    exact if_pos hrx
  obtain ⟨j, hj, hframe⟩ := foldl_frameEvents (s := u) (l := line)
    (i := ({ s.run.vli.iface with line := line } : Iface).toState .receiving) hdue hsending ⟨rfl, rfl, rfl⟩ [.eod]
  refine ⟨j, congrArg _ ?_⟩
  rw [hset, List.append_assoc, List.foldl_append, hstart, hframe, List.foldl_cons, List.foldl_nil,
    settle_of_not_due (s := withIface u _) hdue, sendEvent_eod (s := u) hsending hj (Nat.le_refl _), readState,
    ← show j.line = (frameEnd (bytesBits bytes)).restedTo 60 from hj.2.2]

end

/-- Settles O16. -/
theorem vehicleFramesAreSent : Obligations.VehicleFramesAreSent := by
  intro s e rest hdue hvtq i
  refine ⟨fun hmode htest hsending hrx hidle hlevel => ?_, ?_⟩
  · have hcan : canAttempt s = true := by
      simp [canAttempt, powered_of_mode hmode, htest, hsending, hvtq,
        show s.run.vli.iface.rx = .idle from hrx, show s.run.vli.iface.line.idle = true from hidle,
        show s.run.vli.iface.line.filter.dominant = false from hlevel]
    rw [exec_transmitAttemptStart_of_not_due hdue, if_pos hcan, beginAttempt_eq hvtq]
    rfl
  · intro bytes hsending hhears hf quiet ends
    have hends {line : Line} (hexec : ∃ j, exec .frameSent s = .next (vehicleSent (readState s line j))) : ends line := by
      obtain ⟨j, hexec⟩ := hexec
      have hqueue : (readState s line j).run.queues.vtq = e :: rest := hvtq
      refine ⟨fun hpart hsecond => ?_, fun hlast => ⟨fun horigin hphase => ?_, fun hresult hbusy => ?_⟩⟩
      · rw [hexec, vehicleSent_nextPart hqueue hpart hsecond, frameLeft_readState]
        rfl
      · rw [hexec, vehicleSent_gone hqueue hlast, frameLeft_readState, horigin]
        exact congrArg _ (replyLeft_resultReply hphase rfl)
      · rw [hexec, vehicleSent_gone hqueue hlast, frameLeft_readState, replyLeft_other hresult hbusy]
        rfl
    refine ⟨fun hrx hbits hlow hcell hlast => hends (exec_frameSent_lastBit hdue hsending hhears hf hrx hbits hlow hcell hlast),
      fun hrx hidle hstretch hcell => ?_⟩
    have hends' := hends (exec_frameSent_whole hdue hsending hhears hf hrx hidle hstretch hcell)
    obtain ⟨hfilter, -, hquiet⟩ := frameEnd_rests (bytesBits bytes)
    refine ⟨((frameEnd (bytesBits bytes)).restedTo 60).cell, ?_⟩
    have hline : (frameEnd (bytesBits bytes)).restedTo 60 =
        { filter := restFilter, stretch := 60, cell := ((frameEnd (bytesBits bytes)).restedTo 60).cell, idle := false } := by
      simp only [Line.restedTo, hfilter, hquiet]
      rfl
    rw [← hline]
    exact hends'

end Sys2Proof.Machine
end


section
/-! PROOFS. Lost and failed attempts (O17). -/

namespace Sys2Proof.Machine

/-! ## The head leaves its queue -/

/-- `t` without the head of its queue, a REPLY of the command in progress reported. `s` is the state before. -/
def headLeft (e : QEntry) (rest : List QEntry) (s t : State) : State :=
  if e.origin = .resultReply ∧ s.run.mu.phase = .replyQueued then
    { t with run.queues.vtq := rest, run.mu.phase := .idle, run.mu.cmd := none }
  else { t with run.queues.vtq := rest }

theorem removeVtqHead_headLeft {e : QEntry} {rest : List QEntry} {s t : State} (hvtq : t.run.queues.vtq = e :: rest)
    (hbusy : e.origin ≠ .busyReply) (hphase : t.run.mu.phase = s.run.mu.phase) :
    removeVtqHead t = headLeft e rest s t := by
  rw [removeVtqHead_eq hvtq, headLeft]
  by_cases hresult : e.origin = .resultReply
  · by_cases hqueued : s.run.mu.phase = .replyQueued
    · rw [if_pos ⟨hresult, hqueued⟩]
      exact replyLeft_resultReply (hphase.trans hqueued) hresult
    · rw [if_neg fun h => hqueued h.2, hresult]
      exact if_neg fun h => hqueued (hphase.symm.trans h)
  · rw [if_neg fun h => hresult h.1, replyLeft_other hresult hbusy]

theorem headLeft_vli (e : QEntry) (rest : List QEntry) (s t : State) : (headLeft e rest s t).run.vli = t.run.vli := by
  unfold headLeft
  split <;> rfl

/-- A command whose REPLY leaves its queue was not due, nor is it afterwards. -/
theorem due_headLeft {e : QEntry} {rest : List QEntry} {s t : State} (hphase : t.run.mu.phase = s.run.mu.phase) :
    due (headLeft e rest s t) = due t := by
  unfold headLeft
  split
  · next h =>
    have hnone (c : CmdCode) : commandDue t c = none := by
      unfold commandDue
      split
      · rfl
      · exact if_neg fun hdue => by simp [hphase, h.2] at hdue
    have hcarry : carryOutDue t = false := by simp [carryOutDue, hnone]
    have hcarry' : carryOutDue { t with run.queues.vtq := rest, run.mu.phase := .idle, run.mu.cmd := none } = false := by
      simp [carryOutDue, commandDue]
    unfold due
    rw [hcarry, hcarry']
    rfl
  · rfl

/-! ## A failed attempt -/

/-- The VLI waits for the idle line, the attempt given up. -/
def attemptEnded (s : State) (line : Line) (timer : Nat) : State :=
  { s with run.vli.sending := none, run.vli.stuckTimer := timer
           run.vli.iface := { rx := .errorWait, buffer := [], bits := 0, binding := none, line := line } }

/-- What a transmit error leaves of an attempt: the entry with its error counted, or abandoned. -/
def failedAttempt (e : QEntry) (rest : List QEntry) (s : State) (line : Line) (timer : Nat) : State :=
  if s.mode = .shutdown ∨ e.errors ≠ 0 then headLeft e rest s { attemptEnded s line timer with run.mu.transmitAbandoned := true }
  else { attemptEnded s line timer with run.queues.vtq := { e with errors := 1 } :: rest }

/-- The state in which an interface has heard more. -/
def hearingAt (s : State) (line : Line) (timer : Nat) : State :=
  withIface { s with run.vli.stuckTimer := timer } { s.run.vli.iface with line := line }

theorem setHeard_vehicle (h : Heard) (s : State) : setHeard .vehicle h s = hearingAt s h.line h.timer := rfl

section
variable {s : State} {e : QEntry} {rest : List QEntry} (hvtq : s.run.queues.vtq = e :: rest)
  (hbusy : e.origin ≠ .busyReply)
include hvtq hbusy

theorem failAttempt_eq (line : Line) (timer : Nat) :
    failAttempt (hearingAt s line timer) = failedAttempt e rest s line timer := by
  have hqueue : (hearingAt s line timer).run.queues.vtq = e :: rest := hvtq
  have hmode : (hearingAt s line timer).mode = s.mode := rfl
  unfold failAttempt failedAttempt
  simp only [hqueue, hmode]
  split
  · exact removeVtqHead_headLeft hvtq hbusy rfl
  · rfl

end

theorem due_failedAttempt (e : QEntry) (rest : List QEntry) (s : State) (line : Line) (timer : Nat) : due (failedAttempt e rest s line timer) = due s := by
  unfold failedAttempt
  split
  · exact due_headLeft (s := s) (t := { attemptEnded s line timer with run.mu.transmitAbandoned := true }) rfl
  · rfl

theorem failedAttempt_between (e : QEntry) (rest : List QEntry) (s : State) (line : Line) (timer : Nat) :
    betweenFrames (failedAttempt e rest s line timer) .vehicle = true := by
  unfold failedAttempt
  split
  · simp [betweenFrames, ifaceOf, headLeft_vli, attemptEnded]
  · rfl

/-! ## What an attempt passes over -/

theorem edgeAsDriven_iff (bits r c : Nat) :
    edgeAsDriven bits r c = true ↔
      (if bits = 0 then 10 ≤ r ∧ r ≤ 50 else 36 ≤ c ∧ c ≤ 44) ∧ c ≤ if bits = 0 then 160 else 40 := by
  simp only [edgeAsDriven, Bool.and_eq_true, edgeInTime_iff, decide_eq_true_eq]

section
variable {s : State} {bytes : List Byte} (hsending : s.run.vli.sending = some bytes)
  (hrx : s.run.vli.iface.rx = .receiving)
include hsending hrx

/-- An event that the attempt in progress stands. -/
theorem lineEvent_driven {e : LineEvent} (hbits : s.run.vli.iface.bits < (bytesBits bytes).length)
    (he : e = .passes14 ∧ (bytesBits bytes)[s.run.vli.iface.bits]? ≠ some true ∨
      ∃ r c, e = .edge r c ∧ (if s.run.vli.iface.bits = 0 then 10 ≤ r ∧ r ≤ 50 else 36 ≤ c ∧ c ≤ 44) ∧
        c ≤ if s.run.vli.iface.bits = 0 then 160 else 40) : lineEvent .vehicle e s = s := by
  obtain ⟨rfl, hzero⟩ | ⟨r, c, rfl, htime⟩ := he
  · rw [lineEvent_sending hsending (by simp)]
    simp only [sendEvent, hrx]
    rw [if_neg (by simp), if_neg hzero]
  · rw [lineEvent_sending hsending (by simp)]
    simp only [sendEvent, hrx]
    rw [if_neg (by simp), if_neg (by omega), if_pos ((edgeAsDriven_iff _ _ _).2 htime)]

theorem lineEvent_lost (hone : (bytesBits bytes)[s.run.vli.iface.bits]? = some true) :
    lineEvent .vehicle .passes14 s = loseArbitration s := by
  rw [lineEvent_sending hsending (by simp)]
  simp only [sendEvent, hrx]
  rw [if_neg (by simp), if_pos hone]

theorem lineEvent_lateEdge {r c : Nat} (hbits : s.run.vli.iface.bits < (bytesBits bytes).length)
    (htime : ¬ ((if s.run.vli.iface.bits = 0 then 10 ≤ r ∧ r ≤ 50 else 36 ≤ c ∧ c ≤ 44) ∧
      c ≤ if s.run.vli.iface.bits = 0 then 160 else 40)) : lineEvent .vehicle (.edge r c) s = failAttempt s := by
  rw [lineEvent_sending hsending (by simp)]
  simp only [sendEvent, hrx]
  rw [if_neg (by simp), if_neg (by omega), if_neg (mt (edgeAsDriven_iff _ _ _).1 htime)]

theorem lineEvent_otherBit {x : Symbol}
    (hother : (bytesBits bytes)[s.run.vli.iface.bits]? ≠ x.bit?) : lineEvent .vehicle (.symbol x) s = failAttempt s := by
  rw [lineEvent_sending hsending (by simp)]
  simp only [sendEvent, hrx]
  rw [if_neg (by simp), if_neg fun h => hother h.2.symm]

theorem lineEvent_earlyEod (hbits : s.run.vli.iface.bits < (bytesBits bytes).length) :
    lineEvent .vehicle .eod s = failAttempt s := by
  rw [lineEvent_sending hsending (by simp)]
  simp only [sendEvent, hrx]
  rw [if_neg (by simp), if_neg (by omega)]

end

/-! ## Arbitration is lost -/

/-- The attempt given up, and in SHUTDOWN its entry too. -/
def resigned (t : State) : State :=
  if t.mode = .shutdown then removeVtqHead { t with run.vli.sending := none } else { t with run.vli.sending := none }

theorem loseArbitration_resigned (t : State) :
    loseArbitration t =
      if headerIsComplete (wholeBytes t.run.vli.iface) then presentHeader .vehicle (resigned t) else resigned t := rfl

/-- `t` with its attempt given up, and in SHUTDOWN its entry, a REPLY of the command in progress reported. -/
def attemptLeft (e : QEntry) (rest : List QEntry) (s t : State) : State :=
  if s.mode = .shutdown then headLeft e rest s { t with run.vli.sending := none } else { t with run.vli.sending := none }

theorem attemptLeft_iface (e : QEntry) (rest : List QEntry) (s t : State) :
    (attemptLeft e rest s t).run.vli.iface = t.run.vli.iface := by
  unfold attemptLeft
  split
  · rw [headLeft_vli]
  · rfl

theorem interest_attemptLeft (e : QEntry) (rest : List QEntry) (s : State) (line : Line) (timer : Nat) (h : Header) :
    interest (attemptLeft e rest s (hearingAt s line timer)) .vehicle h = interest s .vehicle h := by
  unfold attemptLeft headLeft
  split
  · split <;> rfl
  · rfl

/-- The interface that holds a complete header: bound, or the frame is ignored. -/
def presented (s : State) (i : Iface) : Iface :=
  match interest s .vehicle (headerOf (wholeBytes i)) with
  | some b => { i with binding := some b }
  | none => { i with rx := .ignoring, buffer := [], bits := 0, binding := none }

theorem presentHeader_vehicle (s : State) :
    presentHeader .vehicle s = withIface s (presented s s.run.vli.iface) := by
  unfold presentHeader presented
  simp only [ifaceOf]
  cases (interest s .vehicle (headerOf (wholeBytes s.run.vli.iface))) <;> rfl

/-- A bound interface goes on with the bits read. -/
theorem presented_bits {s : State} {i : Iface} (h : (presented s i).rx = .receiving) : (presented s i).bits = i.bits := by
  unfold presented at h ⊢
  split
  · rfl
  · next hnone =>
    rw [hnone] at h
    cases h

/-- What a lost arbitration leaves: the winning frame goes on in the bits read, its header presented if complete. -/
def lostAttempt (e : QEntry) (rest : List QEntry) (s : State) (line : Line) (timer : Nat) : State :=
  let left := attemptLeft e rest s (hearingAt s line timer)
  if headerIsComplete (wholeBytes s.run.vli.iface) = false then left
  else
    withIface left (presented s { s.run.vli.iface with line := line })

section
variable {s : State} {e : QEntry} {rest : List QEntry} (hvtq : s.run.queues.vtq = e :: rest)
  (hbusy : e.origin ≠ .busyReply)
include hvtq hbusy

theorem loseArbitration_eq (line : Line) (timer : Nat) :
    loseArbitration (hearingAt s line timer) = lostAttempt e rest s line timer := by
  have hleft : resigned (hearingAt s line timer) = attemptLeft e rest s (hearingAt s line timer) := by
    unfold resigned attemptLeft
    rw [removeVtqHead_headLeft (s := s) (t := { hearingAt s line timer with run.vli.sending := none }) hvtq hbusy rfl]
    rfl
  have hwhole : wholeBytes (hearingAt s line timer).run.vli.iface = wholeBytes s.run.vli.iface := rfl
  have hpresent : presentHeader .vehicle (attemptLeft e rest s (hearingAt s line timer)) =
      withIface (attemptLeft e rest s (hearingAt s line timer)) (presented s { s.run.vli.iface with line := line }) := by
    rw [presentHeader_vehicle, attemptLeft_iface]
    unfold presented
    rw [interest_attemptLeft]
    rfl
  rw [loseArbitration_resigned, hwhole, hleft, hpresent, lostAttempt]
  by_cases hcomplete : headerIsComplete (wholeBytes s.run.vli.iface) = true
  · rw [if_pos hcomplete, if_neg (by simp [hcomplete])]
  · rw [if_neg hcomplete, if_pos (by simpa using hcomplete)]

end

/-- The winning frame's next edge, in time, is passed over by its receiver. -/
theorem lostAttempt_edge {s : State} (e : QEntry) (rest : List QEntry) {line : Line} {timer r c : Nat}
    (htime : edgeInTime s.run.vli.iface.bits r c = true) :
    (if (lostAttempt e rest s line timer).run.vli.iface.rx = .receiving then
        receiveEvent .vehicle (.edge r c) (lostAttempt e rest s line timer)
      else lostAttempt e rest s line timer) = lostAttempt e rest s line timer := by
  have hbits (hrx : (lostAttempt e rest s line timer).run.vli.iface.rx = .receiving) :
      (lostAttempt e rest s line timer).run.vli.iface.bits = s.run.vli.iface.bits := by
    unfold lostAttempt at hrx ⊢
    simp only at hrx ⊢
    split
    · rw [attemptLeft_iface]
      rfl
    · next hcomplete =>
      rw [if_neg hcomplete] at hrx
      exact presented_bits hrx
  split
  · next hrx => exact if_pos (by rw [show (ifaceOf _ Link.vehicle).bits = _ from hbits hrx]; exact htime)
  · rfl

end Sys2Proof.Machine
end


section
/-! PROOFS. Lost and failed attempts (O17), continued: the rows. -/

namespace Sys2Proof.Machine

/-! ## The rows -/

section
variable {s : State} {bytes : List Byte} (hdue : due s = false) (hsending : s.run.vli.sending = some bytes)
include hdue hsending

theorem exec_arbitrationLoss (wave : Wave) :
    exec (.arbitrationLoss wave) s = .next (listenFor LineEvent.isForeign .vehicle (heard s .vehicle wave) s) :=
  calc exec (.arbitrationLoss wave) s = execArbitrationLoss wave s := rfl
    _ = _ := by rw [execArbitrationLoss, after_of_not_due _ hdue, if_pos (by rw [hsending]; rfl)]

/-- After the SOF the line stays recessive up to EOD. -/
theorem exec_transmitError_bits (hrx : s.run.vli.iface.rx = .receiving) :
    exec .transmitError s = .next (listenFor (fun e => decide (e = LineEvent.eod)) .vehicle
      (heardUntil s .vehicle [] false fun e => decide (e = LineEvent.eod)) s) :=
  calc exec .transmitError s = execTransmitError s := rfl
    _ = _ := by
      rw [execTransmitError, after_of_not_due _ hdue, if_pos (by rw [hsending]; rfl), hrx]
      rfl

/-- Before the SOF's edge the line stays dominant up to BREAK. -/
theorem exec_transmitError_sof (hrx : s.run.vli.iface.rx = .idle) :
    exec .transmitError s = .next (listenFor (fun e => decide (e = LineEvent.symbol .brk)) .vehicle
      (heardUntil s .vehicle [] true fun e => decide (e = LineEvent.symbol .brk)) s) :=
  calc exec .transmitError s = execTransmitError s := rfl
    _ = _ := by
      rw [execTransmitError, after_of_not_due _ hdue, if_pos (by rw [hsending]; rfl), hrx]
      rfl

end

/-! ## Before the SOF's edge -/

section
variable {s : State} {bytes : List Byte} (hsending : s.run.vli.sending = some bytes) (hrx : s.run.vli.iface.rx = .idle)
include hsending hrx

/-- What a beginning attempt passes over: all but EOD, a symbol and a late edge. -/
theorem lineEvent_beginning {e : LineEvent} (hstuck : e ≠ .stuck) (heod : e ≠ .eod) (hsymbol : ∀ x, e ≠ .symbol x)
    (hedge : ∀ r c, e = .edge r c → c ≤ 6) : lineEvent .vehicle e s = s := by
  rw [lineEvent_sending hsending hstuck]
  simp only [sendEvent, hrx, if_true]
  cases e with
  | edge r c => exact if_pos (decide_eq_true (hedge r c rfl))
  | symbol x => exact absurd rfl (hsymbol x)
  | eod => exact absurd rfl heod
  | passes14 | ifrTurn | eof | idle | stuck => rfl

/-- What fails a beginning attempt. -/
theorem lineEvent_beginningFails {e : LineEvent} (he : e = .eod ∨ e = .symbol .brk ∨ ∃ r c, e = .edge r c ∧ 6 < c) :
    lineEvent .vehicle e s = failAttempt s := by
  obtain rfl | rfl | ⟨r, c, rfl, hlate⟩ := he
  · rw [lineEvent_sending hsending (by simp)]
    exact if_pos hrx
  · rw [lineEvent_sending hsending (by simp)]
    exact if_pos hrx
  · rw [lineEvent_sending hsending (by simp)]
    simp only [sendEvent, hrx, if_true]
    exact if_neg (by simp [sofAsDriven]; omega)

theorem lineEvent_ownSof :
    lineEvent .vehicle (.symbol .sof) s = withIface s (s.run.vli.iface.toState .receiving) := by
  rw [lineEvent_sending hsending (by simp)]
  exact if_pos hrx

end

/-- What the vehicle line brings until it is a BREAK. -/
def breakHeard (l : Line) : Heard :=
  { line := { filter := heldFilter, stretch := 240, cell := 240, idle := l.idle || decide (114 ≤ l.stretch) }
    timer := 240
    events := restEvents l.stretch (l.stretch + 6) ++
      [.edge (min stuckSamples (l.stretch + 6)) (min stuckSamples (l.cell + 6)), .passes14, .symbol .brk] }

theorem heardUntil_break {s : State} (hf : s.run.vli.iface.line.filter = restFilter) :
    (heardUntil s .vehicle [] true fun e => decide (e = LineEvent.symbol .brk)) = breakHeard s.run.vli.iface.line := by
  rw [heardUntil_nil, hearUntil_pulse (n := 246) hf rfl (by omega) (by omega) (by simp only [stuckSamples]; omega) ?_ ?_ ?_ ?_]
  · rfl
  · simp [restEvents_any]
  · simp
  · intro b hb
    simp [heldEvents_any]
    omega
  · simp [heldEvents_any]

/-- One event that does something, passed events before and after it. -/
theorem listen_once {s t : State} {link : Link} {h : Heard} {pre post : List LineEvent} {e : LineEvent}
    (hdue : due s = false) (hevents : h.events = pre ++ e :: post)
    (hpre : ∀ y ∈ pre, lineEvent link y (setHeard link h s) = setHeard link h s)
    (he : lineEvent link e (setHeard link h s) = t) (hdue' : due t = false) (hpost : ∀ y ∈ post, lineEvent link y t = t) :
    listen link h s = t := by
  rw [listen_passes hdue hevents hpre, List.foldl_cons, settle_of_not_due (by simpa using hdue), he,
    foldl_lineEvents_passes hdue' hpost]

section
variable {s : State} {e : QEntry} {rest : List QEntry} {bytes : List Byte} (hdue : due s = false)
  (hvtq : s.run.queues.vtq = e :: rest) (hsending : s.run.vli.sending = some bytes) (hbusy : e.origin ≠ .busyReply)
  (hhears : hears s .vehicle = true)
include hdue hvtq hsending hbusy hhears

/-- Dominant from before the SOF's edge up to BREAK fails the attempt once: at an EOD on the way, at a late edge, or
at the BREAK. -/
theorem exec_transmitError_break (hf : s.run.vli.iface.line.filter = restFilter) (hrx : s.run.vli.iface.rx = .idle) :
    exec .transmitError s = .next (failedAttempt e rest s (breakHeard s.run.vli.iface.line).line 240) := by
  let h := breakHeard s.run.vli.iface.line
  let u := hearingAt s h.line h.timer
  have hfailed : failAttempt u = failedAttempt e rest s h.line 240 := failAttempt_eq hvtq hbusy _ _
  have hduef : due (failedAttempt e rest s h.line 240) = false := (due_failedAttempt e rest s _ _).trans hdue
  have hafter {x : LineEvent} (hx : x = .passes14 ∨ x = .symbol .brk ∨ ∃ r c, x = .edge r c) :
      lineEvent .vehicle x (failedAttempt e rest s h.line 240) = failedAttempt e rest s h.line 240 := by
    have hbetween := failedAttempt_between e rest s h.line 240
    obtain rfl | rfl | ⟨r, c, rfl⟩ := hx
    · exact lineEvent_waits hbetween (by simp) (by simp) (by simp)
    · exact lineEvent_waits hbetween (by simp) (by simp) (by simp)
    · exact lineEvent_waits hbetween (by simp) (by simp) (by simp)
  have hfails {x : LineEvent} (hx : x = .eod ∨ x = .symbol .brk ∨ ∃ r c, x = .edge r c ∧ 6 < c) :
      lineEvent .vehicle x u = failedAttempt e rest s h.line 240 :=
    (lineEvent_beginningFails (s := u) hsending hrx hx).trans hfailed
  have hrest (hgap : s.run.vli.iface.line.stretch < 54 ∨ 60 ≤ s.run.vli.iface.line.stretch) {x : LineEvent}
      (hx : x ∈ restEvents s.run.vli.iface.line.stretch (s.run.vli.iface.line.stretch + 6)) : lineEvent .vehicle x u = u := by
    have hevent := mem_restEvents hx
    exact lineEvent_beginning (s := u) hsending hrx (by rintro rfl; simp at hevent) (by rintro rfl; simp at hevent; omega)
      (by rintro y rfl; simp at hevent) (by rintro r c rfl; simp at hevent)
  rw [exec_transmitError_sof hdue hsending hrx, heardUntil_break hf,
    listenFor_heard hhears (e := .symbol .brk) (by simp [breakHeard]) (by simp)]
  refine congrArg _ ?_
  by_cases hgap : s.run.vli.iface.line.stretch < 54 ∨ 60 ≤ s.run.vli.iface.line.stretch
  · by_cases hlate : 6 < min stuckSamples (s.run.vli.iface.line.cell + 6)
    · refine listen_once (e := .edge _ _) (post := [.passes14, .symbol .brk]) (pre := restEvents _ _) hdue rfl
        (fun y hy => hrest hgap hy) (hfails (.inr (.inr ⟨_, _, rfl, hlate⟩))) hduef fun y hy => hafter ?_
      simp only [List.mem_cons, List.not_mem_nil, or_false] at hy
      obtain rfl | rfl := hy
      · exact .inl rfl
      · exact .inr (.inl rfl)
    · refine listen_once (e := .symbol .brk) (post := []) (pre := restEvents _ _ ++ [.edge _ _, .passes14]) hdue
        (by rw [List.append_assoc]; rfl) (fun y hy => ?_) (hfails (.inr (.inl rfl))) hduef (by simp)
      obtain hy | hy := List.mem_append.1 hy
      · exact hrest hgap hy
      · simp only [List.mem_cons, List.not_mem_nil, or_false] at hy
        obtain rfl | rfl := hy
        · refine lineEvent_beginning (s := u) hsending hrx (by simp) (by simp) (by simp) fun r c hc => ?_
          cases hc
          omega
        · exact lineEvent_beginning (s := u) hsending hrx (by simp) (by simp) (by simp) (by simp)
  · have hone : restEvents s.run.vli.iface.line.stretch (s.run.vli.iface.line.stretch + 6) = [.eod] := by
      unfold restEvents
      rw [if_pos (by omega), if_neg (by omega), if_neg (by omega), if_neg (by omega)]
      rfl
    refine listen_once (e := .eod) (pre := []) (post := [.edge _ _, .passes14, .symbol .brk]) hdue
      (by rw [breakHeard, hone]; rfl) (by simp) (hfails (.inl rfl)) hduef fun y hy => hafter ?_
    simp only [List.mem_cons, List.not_mem_nil, or_false] at hy
    obtain rfl | rfl | rfl := hy
    · exact .inr (.inr ⟨_, _, rfl⟩)
    · exact .inl rfl
    · exact .inr (.inl rfl)

/-- Recessive after the SOF up to EOD. -/
theorem exec_transmitError_eod (hf : s.run.vli.iface.line.filter = restFilter) (hrx : s.run.vli.iface.rx = .receiving)
    (hbits : s.run.vli.iface.bits < (bytesBits bytes).length) (hlow : s.run.vli.iface.line.stretch < 60) :
    exec .transmitError s = .next (failedAttempt e rest s (s.run.vli.iface.line.restedTo 60) 0) := by
  have hheard := heardUntil_eod (s := s) (link := .vehicle) (wave := []) hf hlow
  rw [exec_transmitError_bits hdue hsending hrx, hheard, listenFor_last (pre := []) hdue hhears rfl (by simp) (by simp)]
  exact congrArg _ ((lineEvent_earlyEod (bytes := bytes)
    (s := hearingAt s (s.run.vli.iface.line.restedTo 60) 0) hsending hrx hbits).trans (failAttempt_eq hvtq hbusy _ 0))

end

/-- The bit of a symbol, in the words of the statement. -/
theorem bit?_eq (x : Symbol) :
    x.bit? = match x with
      | .one => some true
      | .zero => some false
      | .sof | .brk | .invalid => none := by cases x <;> rfl

/-- Settles O17. -/
theorem lostAndFailedAttempts : Obligations.LostAndFailedAttempts := by
  intro s e rest bytes hdue hvtq hsending hbusy hhears i sent inTime onTime driven left failed
  have hfailed (line : Line) (timer : Nat) : failedAttempt e rest s line timer = failed line timer := rfl
  refine ⟨?_, ?_, ?_⟩
  · intro wave h u j after lost hrx
    have hu : u = hearingAt s h.line h.timer := rfl
    have hfail : failAttempt u = failed h.line h.timer := failAttempt_eq hvtq hbusy h.line h.timer
    have hlost : loseArbitration u = lost := by
      rw [hu, loseArbitration_eq hvtq hbusy]
      rfl
    have hpasses {x : LineEvent} (hbits : i.bits < sent.length) (hx : driven x) : lineEvent .vehicle x u = u :=
      lineEvent_driven (s := u) hsending hrx hbits hx
    refine ⟨fun pre hevents hpre hone => ?_, fun r c hevents hbits htime => ?_, fun pre r c hevents hpre hbits htime => ?_,
      fun pre x hevents hpre hbits hother => ?_⟩
    · have hbits := (List.getElem?_eq_some_iff.1 hone).1
      rw [exec_arbitrationLoss hdue hsending, listenFor_last hdue hhears hevents rfl fun x hx => hpasses hbits (hpre x hx),
        ← hlost]
      exact congrArg _ (lineEvent_lost (s := u) hsending hrx hone)
    · rw [exec_arbitrationLoss hdue hsending, listenFor_last (pre := []) hdue hhears hevents rfl (by simp)]
      refine congrArg _ ?_
      rw [lineEvent_sending (s := u) hsending (by simp)]
      have hlate : (bytesBits bytes).length ≤ u.run.vli.iface.bits := hbits
      have hrx' : u.run.vli.iface.rx = .receiving := hrx
      simp only [sendEvent, hrx']
      rw [if_neg (by simp), if_pos hlate, hu, loseArbitration_eq hvtq hbusy,
        lostAttempt_edge e rest ((edgeInTime_iff _ _ _).2 htime)]
      rfl
    · rw [exec_arbitrationLoss hdue hsending, listenFor_last hdue hhears hevents rfl fun x hx => hpasses hbits (hpre x hx),
        ← hfail]
      exact congrArg _ (lineEvent_lateEdge (s := u) hsending hrx hbits htime)
    · rw [exec_receiveError hdue, listenFor_last hdue hhears hevents rfl fun x hx => hpasses hbits (hpre x hx), ← hfail]
      refine congrArg _ (lineEvent_otherBit (s := u) hsending hrx ?_)
      rw [bit?_eq]
      exact hother
  · intro wave hrx h
    have hfail : failAttempt (setHeard .vehicle h s) = failed h.line h.timer :=
      failAttempt_eq hvtq hbusy h.line h.timer
    refine ⟨fun hevents => ?_, fun r c hevents hc => ?_⟩
    · obtain ⟨x, hx, hjudged, hbad⟩ : ∃ x, h.events = [x] ∧ x.isJudged = true ∧
          (x = .eod ∨ x = .symbol .brk ∨ ∃ r c, x = .edge r c ∧ 6 < c) := by
        obtain ⟨r, c, hx, hlate⟩ | hx := hevents
        · exact ⟨_, hx, rfl, .inr (.inr ⟨r, c, rfl, hlate⟩)⟩
        · exact ⟨_, hx, rfl, .inl rfl⟩
      rw [exec_receiveError hdue, listenFor_last (pre := []) hdue hhears hx hjudged (by simp), ← hfail]
      exact congrArg _ (lineEvent_beginningFails (s := setHeard .vehicle h s) hsending hrx hbad)
    · rw [exec_sofReceived hdue,
        listenFor_last (pre := [.edge r c, .passes14]) (e := .symbol .sof) hdue hhears hevents rfl fun x hx => ?_]
      · exact congrArg _ (lineEvent_ownSof (s := setHeard .vehicle h s) hsending hrx)
      · refine lineEvent_beginning (s := setHeard .vehicle h s) hsending hrx ?_ ?_ ?_ ?_
        all_goals
          simp only [List.mem_cons, List.not_mem_nil, or_false] at hx
          obtain rfl | rfl := hx
        all_goals simp
        omega
  · intro hf
    exact ⟨fun hrx hbits hlow => exec_transmitError_eod hdue hvtq hsending hbusy hhears hf hrx hbits hlow,
      fun hrx => exec_transmitError_break hdue hvtq hsending hbusy hhears hf hrx⟩

end Sys2Proof.Machine
end


section
/-! PROOFS. The in-frame response (O18): what is left of its cells, and how it is read back. -/

namespace Sys2Proof.Machine

/-! ## Cells as they are driven -/

/-- The samples for which a bit is driven dominant (R143). -/
def dominantPart (b : Bool) : Nat := if b then 10 else 30

theorem cellWave_eq (b : Bool) : cellWave b = [(true, dominantPart b), (false, 40 - dominantPart b)] := by
  cases b <;> rfl

theorem dominantSymbol_driven (b idle : Bool) :
    dominantSymbol (dominantPart b) idle = if b then .one else .zero := by
  cases b <;> cases idle <;> rfl

theorem dominantEnd_driven (b idle : Bool) :
    dominantEnd (dominantPart b) idle = [.symbol (if b then .one else .zero)] := by
  cases b <;> cases idle <;> rfl

theorem afterCell_eq (b : Bool) :
    afterCell b = { filter := restFilter, stretch := 34 - dominantPart b, cell := 34, idle := false } := by
  cases b <;> rfl

/-- The end of a driven cell from within its dominant on. -/
theorem hear_restOfDominant {h : Heard} {a : Nat} (b : Bool) (hf : h.line.filter = heldFilter)
    (hstretch : h.line.stretch = a) (hcell : h.line.cell = a) (htimer : h.timer = a) (hplace : a + 6 ≤ dominantPart b) :
    hearRun false (40 - dominantPart b) (hearRun true (dominantPart b - (a + 6)) h) =
      { line := afterCell b, timer := 0
        events := h.events ++ heldEvents a (dominantPart b) ++ [.symbol (if b then .one else .zero)] } := by
  have hpart : dominantPart b ≤ 30 := by cases b <;> decide
  rw [hearRun_held hf hstretch hcell htimer (by omega), show 40 - dominantPart b = 7 + (33 - dominantPart b) by omega,
    hearRun_add, hearRun_fall (a := a + (dominantPart b - (a + 6))) rfl rfl rfl rfl (by omega), hearRun_rest rfl (by omega)]
  have hsum : a + (dominantPart b - (a + 6)) + 6 = dominantPart b := by omega
  have hnone : restEvents 1 (1 + (33 - dominantPart b)) = [] := by
    unfold restEvents
    rw [if_neg (by omega), if_neg (by omega), if_neg (by omega), if_neg (by omega)]
    rfl
  simp only [hsum, dominantEnd_driven, hnone, List.append_nil, afterCell_eq, stuckSamples]
  have hnot : ¬ 120 ≤ 1 + (33 - dominantPart b) := by omega
  congr 2
  · omega
  · omega
  · simp [hnot]
  · rw [List.append_assoc, heldEvents_append (by omega) (by omega)]

/-- A driven cell on a line at rest is read as its bit. -/
theorem hear_cell_rested {h : Heard} (b : Bool) (hf : h.line.filter = restFilter) :
    hearWave (cellWave b) h =
      { line := afterCell b, timer := 0
        events := h.events ++ restEvents h.line.stretch (h.line.stretch + 6) ++
          [.edge (min stuckSamples (h.line.stretch + 6)) (min stuckSamples (h.line.cell + 6))] ++ bitEvents b } := by
  have hpart : 10 ≤ dominantPart b := by cases b <;> decide
  have hbit : heldEvents 1 (dominantPart b) ++ [.symbol (if b then .one else .zero)] = bitEvents b := by
    cases b <;> rfl
  rw [cellWave_eq]
  show hearRun false (40 - dominantPart b) (hearRun true (dominantPart b) h) = _
  rw [show hearRun true (dominantPart b) h = hearRun true (dominantPart b - (1 + 6)) (hearRun true 7 h) by
      rw [← hearRun_add]
      congr 1
      omega,
    hearRun_rise hf, hear_restOfDominant (a := 1) b rfl rfl rfl rfl (by omega)]
  simp only [List.append_assoc, ← hbit]

/-- Driven cells, the first on a line at rest. -/
theorem hear_cells_rested {h : Heard} (b : Bool) (bits : List Bool) (hf : h.line.filter = restFilter) :
    hearWave ((b :: bits).flatMap cellWave) h =
      { line := afterCell (bits.getLast?.getD b), timer := 0
        events := h.events ++ restEvents h.line.stretch (h.line.stretch + 6) ++
          [.edge (min stuckSamples (h.line.stretch + 6)) (min stuckSamples (h.line.cell + 6))] ++ bitEvents b ++
          cellEvents b bits } := by
  rw [List.flatMap_cons, hearWave_append, hear_cell_rested b hf, hearWave_from, hear_cells]
  rfl

/-- Driven cells from within the dominant of the first on. -/
theorem hear_cells_held {h : Heard} {a : Nat} (b : Bool) (bits : List Bool) (hf : h.line.filter = heldFilter)
    (hstretch : h.line.stretch = a) (hcell : h.line.cell = a) (htimer : h.timer = a) (hplace : a + 6 ≤ dominantPart b) :
    hearWave (dropSamples (a + 6) ((b :: bits).flatMap cellWave)) h =
      { line := afterCell (bits.getLast?.getD b), timer := 0
        events := h.events ++ heldEvents a (dominantPart b) ++ [.symbol (if b then .one else .zero)] ++
          cellEvents b bits } := by
  have hpart : dominantPart b ≤ 30 := by cases b <;> decide
  have hdrop : hearWave (dropSamples (a + 6) ((b :: bits).flatMap cellWave)) h =
      hearWave (bits.flatMap cellWave)
        (hearRun false (40 - dominantPart b) (hearRun true (dominantPart b - (a + 6)) h)) := by
    rw [List.flatMap_cons, cellWave_eq, List.cons_append, dropSamples]
    by_cases hin : a + 6 < dominantPart b
    · rw [if_pos hin]
      rfl
    · rw [if_neg hin, List.cons_append, dropSamples, if_pos (by omega), show dominantPart b - (a + 6) = 0 by omega,
        show a + 6 - dominantPart b = 0 by omega]
      rfl
  rw [hdrop, hear_restOfDominant b hf hstretch hcell htimer hplace, hearWave_from, hear_cells]
  rfl

/-! ## Where an IFR stands in its cells -/

/-- The line of an IFR before the next cell: before the first, which begins at 80 samples of recessive, or within the
recessive of a cell read. -/
def IfrRests (bits : List Bool) (i : Iface) : Prop :=
  i.line.filter = restFilter ∧ (i.bits = 0 ∧ i.line.stretch = 80 ∨
    ∃ b, 1 ≤ i.bits ∧ i.bits ≤ 7 ∧ bits[i.bits - 1]? = some b ∧ i.line.stretch ≤ i.line.cell ∧ i.line.cell ≤ 34 ∧
      dominantPart b ≤ i.line.cell + 6)

/-- The line of an IFR within the dominant of its next cell. -/
def IfrHeld (bits : List Bool) (i : Iface) (timer : Nat) : Prop :=
  i.line.filter = heldFilter ∧ 1 ≤ i.line.stretch ∧ i.line.cell = i.line.stretch ∧ timer = i.line.stretch ∧
    ∃ b, i.bits ≤ 7 ∧ bits[i.bits]? = some b ∧ i.line.stretch + 6 ≤ dominantPart b

/-- The line right before the next cell of an IFR. -/
def BeforeCell (k : Nat) (l : Line) : Prop :=
  l.filter = restFilter ∧ (k = 0 ∧ l.stretch = 80 ∨ 1 ≤ k ∧ l.stretch ≤ 34 ∧ l.cell = 34)

theorem BeforeCell.quiet {k : Nat} {l : Line} (h : BeforeCell k l) : restEvents l.stretch (l.stretch + 6) = [] := by
  obtain ⟨-, ⟨-, h⟩ | ⟨-, h, -⟩⟩ := h
  all_goals
    unfold restEvents
    rw [if_neg (by omega), if_neg (by omega), if_neg (by omega), if_neg (by omega)]
    rfl

theorem BeforeCell.edge {k : Nat} {l : Line} (h : BeforeCell k l) :
    ifrEdgeAsDriven k (min stuckSamples (l.stretch + 6)) (min stuckSamples (l.cell + 6)) = true := by
  obtain ⟨-, ⟨hk, h⟩ | ⟨hk, -, hcell⟩⟩ := h
  · simp [ifrEdgeAsDriven, hk, h, stuckSamples]
  · have hk0 : k ≠ 0 := by omega
    simp [ifrEdgeAsDriven, edgeAsDriven, edgeInTime, hk0, hcell, stuckSamples]

theorem BeforeCell.idle {k : Nat} {l : Line} (h : BeforeCell k l) : (l.idle || decide (114 ≤ l.stretch)) = l.idle := by
  obtain ⟨-, ⟨-, h⟩ | ⟨-, h, -⟩⟩ := h
  · simp [h]
  · have : ¬ 114 ≤ l.stretch := by omega
    simp [this]

theorem ifrBits_of {s : State} {f : Ifr} (hifr : s.run.vli.ifr = some f) : ifrBits s = byteBits f.byte := by
  simp [ifrBits, hifr]

/-- What is left of an IFR before the next cell: the rest of the recessive, and the cells. -/
theorem heard_restOfIfr {s : State} {f : Ifr} {n : Nat} (hifr : s.run.vli.ifr = some f)
    (hrests : IfrRests (byteBits f.byte) s.run.vli.iface) (hn : s.run.vli.iface.bits ≤ n) :
    ∃ (l : Line) (timer : Nat), BeforeCell s.run.vli.iface.bits l ∧ l.idle = s.run.vli.iface.line.idle ∧
      heard s .vehicle (restOfIfr s n) =
        hearWave ((((byteBits f.byte).take n).drop s.run.vli.iface.bits).flatMap cellWave)
          { line := l, timer := timer, events := [] } := by
  obtain ⟨hf, hbits, hstretch⟩ | ⟨hf, b, hlow, hhigh, hb, hstretch, hcell, hplace⟩ :=
    (by simpa only [IfrRests, and_or_left] using hrests : _ ∨ _)
  · refine ⟨s.run.vli.iface.line, s.run.vli.stuckTimer, ⟨hf, .inl ⟨hbits, hstretch⟩⟩, rfl, ?_⟩
    have hwave : restOfIfr s n = ((byteBits f.byte).take n).flatMap cellWave := by
      simp only [restOfIfr, ifrBits_of hifr, hbits, hf, and_self, if_true, hstretch, Nat.sub_self, dropSamples_cells]
    rw [hwave, hbits, List.drop_zero]
    rfl
  · have hlen : s.run.vli.iface.bits - 1 < ((byteBits f.byte).take n).length := by simp; omega
    have hcells : ((byteBits f.byte).take n).drop (s.run.vli.iface.bits - 1) =
        b :: ((byteBits f.byte).take n).drop s.run.vli.iface.bits := by
      rw [List.drop_eq_getElem_cons hlen, show s.run.vli.iface.bits - 1 + 1 = s.run.vli.iface.bits by omega]
      congr 1
      have hget := List.getElem?_eq_getElem hlen
      rw [List.getElem?_take_of_lt (by omega), hb] at hget
      exact (Option.some.inj hget).symm
    have hwave : restOfIfr s n =
        if s.run.vli.iface.line.cell < 34 then
          (false, 34 - s.run.vli.iface.line.cell) ::
            (((byteBits f.byte).take n).drop s.run.vli.iface.bits).flatMap cellWave
        else (((byteBits f.byte).take n).drop s.run.vli.iface.bits).flatMap cellWave := by
      have hbits : s.run.vli.iface.bits ≠ 0 := by omega
      simp only [restOfIfr, ifrBits_of hifr, hbits, false_and, if_false, restOfCells, hf, Bool.false_eq_true, hcells,
        List.flatMap_cons, Line.cellPlace]
      rw [dropSamples_inCell (by simpa [dominantPart] using hplace)]
      by_cases h : s.run.vli.iface.line.cell < 34
      · rw [if_pos h, if_pos (by omega), show 40 - (s.run.vli.iface.line.cell + 6) = 34 - s.run.vli.iface.line.cell by omega]
      · rw [if_neg h, if_neg (by omega), show s.run.vli.iface.line.cell + 6 - 40 = 0 by omega, dropSamples_cells]
    by_cases h : s.run.vli.iface.line.cell < 34
    · rw [hwave, if_pos h]
      have hrun := hearRun_rest (h := ear s .vehicle) (k := 34 - s.run.vli.iface.line.cell) hf (by omega)
      have hnone : restEvents s.run.vli.iface.line.stretch
          (s.run.vli.iface.line.stretch + (34 - s.run.vli.iface.line.cell)) = [] := by
        unfold restEvents
        rw [if_neg (by omega), if_neg (by omega), if_neg (by omega), if_neg (by omega)]
        rfl
      have hnot : ¬ 120 ≤ s.run.vli.iface.line.stretch + (34 - s.run.vli.iface.line.cell) := by omega
      refine ⟨(hearRun false (34 - s.run.vli.iface.line.cell) (ear s .vehicle)).line, 0, ?_, ?_, ?_⟩
      · rw [hrun]
        refine ⟨rfl, .inr ⟨hlow, ?_, ?_⟩⟩
        · show min stuckSamples (s.run.vli.iface.line.stretch + _) ≤ 34
          omega
        · show min stuckSamples (s.run.vli.iface.line.cell + _) = 34
          simp only [stuckSamples]
          omega
      · rw [hrun]
        show (s.run.vli.iface.line.idle ||
          decide (120 ≤ s.run.vli.iface.line.stretch + (34 - s.run.vli.iface.line.cell))) = _
        rw [decide_eq_false hnot, Bool.or_false]
      · show hearWave _ (hearRun false (34 - s.run.vli.iface.line.cell) (ear s .vehicle)) = _
        rw [hrun]
        exact congrArg (fun es => hearWave _ ({ line := _, timer := 0, events := es } : Heard)) hnone
    · rw [hwave, if_neg h]
      exact ⟨s.run.vli.iface.line, s.run.vli.stuckTimer, ⟨hf, .inr ⟨hlow, by omega, by omega⟩⟩, rfl, rfl⟩

/-- What is left of an IFR within the dominant of its next cell. -/
theorem restOfIfr_held {s : State} {f : Ifr} {timer n : Nat} (hifr : s.run.vli.ifr = some f)
    (hheld : IfrHeld (byteBits f.byte) s.run.vli.iface timer) :
    restOfIfr s n = dropSamples (s.run.vli.iface.line.stretch + 6)
      ((((byteBits f.byte).take n).drop s.run.vli.iface.bits).flatMap cellWave) := by
  obtain ⟨hf, -, hcell, -, -⟩ := hheld
  simp only [restOfIfr, ifrBits_of hifr, hf, restOfCells, Line.cellPlace, hcell]
  rw [if_neg (by simp), if_pos trivial]

end Sys2Proof.Machine
end


section
/-! PROOFS. The in-frame response (O18), continued: what moves it. -/

namespace Sys2Proof.Machine

/-! ## An IFR to send -/

section
variable {s : State} (hrx : s.run.vli.iface.rx = .ifrWait) (hsending : s.run.vli.sending = none)
include hrx hsending

/-- In IFR_WAIT with an IFR to send a line event is the IFR's, but for the stuck line. -/
theorem lineEvent_ifr {f : Ifr} {e : LineEvent} (hifr : s.run.vli.ifr = some f) (he : e ≠ .stuck) :
    lineEvent .vehicle e s = ifrEvent f e s := by
  simp [lineEvent, vehicleEvent, he, hrx, hifr, hsending]

/-- Before its first cell an IFR passes over all but its turn and an edge. -/
theorem lineEvent_ifrWaits {f : Ifr} {e : LineEvent} (hifr : s.run.vli.ifr = some f) (hwaits : f.sending = false)
    (he : e ≠ .stuck) (hturn : e.isIfrTurn = false) : lineEvent .vehicle e s = s := by
  rw [lineEvent_ifr hrx hsending hifr he]
  simp only [ifrEvent, hwaits]
  cases e with
  | edge r c | ifrTurn => cases hturn
  | symbol _ | passes14 | eod | eof | idle | stuck => rfl

theorem lineEvent_ifrBegins {f : Ifr} {e : LineEvent} (hifr : s.run.vli.ifr = some f) (hwaits : f.sending = false)
    (hturn : e.isIfrTurn = true) : lineEvent .vehicle e s = { s with run.vli.ifr := some { f with sending := true } } := by
  rw [lineEvent_ifr hrx hsending hifr (by rintro rfl; cases hturn)]
  have hbegin : beginIfr s = { s with run.vli.ifr := some { f with sending := true } } := by simp [beginIfr, hifr]
  simp only [ifrEvent, hwaits]
  cases e with
  | edge r c | ifrTurn => exact hbegin
  | symbol _ | passes14 | eod | eof | idle | stuck => cases hturn

variable {f : Ifr} (hifr : s.run.vli.ifr = some f) (hbusy : f.sending = true)
include hifr hbusy

theorem lineEvent_ifrEdge {r c : Nat} (hedge : ifrEdgeAsDriven s.run.vli.iface.bits r c = true) :
    lineEvent .vehicle (.edge r c) s = s := by
  rw [lineEvent_ifr hrx hsending hifr (by simp)]
  simp only [ifrEvent, hbusy, if_true]
  exact if_pos hedge

theorem lineEvent_ifrLateEdge {r c : Nat} (hedge : ifrEdgeAsDriven s.run.vli.iface.bits r c = false) :
    lineEvent .vehicle (.edge r c) s = failIfr s := by
  rw [lineEvent_ifr hrx hsending hifr (by simp)]
  simp only [ifrEvent, hbusy, if_true]
  exact if_neg (by simp [hedge])

theorem lineEvent_ifrPasses (hzero : (byteBits f.byte)[s.run.vli.iface.bits]? = some false) :
    lineEvent .vehicle .passes14 s = s := by
  rw [lineEvent_ifr hrx hsending hifr (by simp)]
  simp only [ifrEvent, hbusy, if_true]
  exact if_neg (by simp [hzero])

theorem lineEvent_ifrLost (hone : (byteBits f.byte)[s.run.vli.iface.bits]? = some true) :
    lineEvent .vehicle .passes14 s = loseIfr s := by
  rw [lineEvent_ifr hrx hsending hifr (by simp)]
  simp only [ifrEvent, hbusy, if_true]
  exact if_pos hone

/-- A bit of the IFR is read back; the eighth ends it. -/
theorem lineEvent_ifrBit {b : Bool} (hbit : (byteBits f.byte)[s.run.vli.iface.bits]? = some b) :
    lineEvent .vehicle (.symbol (if b then .one else .zero)) s =
      if s.run.vli.iface.bits = 7 then sentIfr (countIfrBit .vehicle s) else countIfrBit .vehicle s := by
  have hx : (if b then Symbol.one else Symbol.zero).bit? = some b := by cases b <;> rfl
  rw [lineEvent_ifr hrx hsending hifr (by simp)]
  simp only [ifrEvent, hbusy, if_true]
  exact if_pos ⟨by rw [hx]; rfl, by rw [hx, hbit]⟩

/-- Neither EOD nor EOF may come within an IFR. -/
theorem lineEvent_ifrEnds {e : LineEvent} (he : e = .eod ∨ e = .eof) : lineEvent .vehicle e s = failIfr s := by
  rw [lineEvent_ifr hrx hsending hifr (by rintro rfl; simp at he)]
  simp only [ifrEvent, hbusy, if_true]
  obtain rfl | rfl := he <;> rfl

end

/-! ## The IFR is read back -/

/-- The interface of an IFR that has read so many of its bits back. -/
def ifrRead (s : State) (line : Line) (timer k : Nat) : State :=
  withIface { s with run.vli.stuckTimer := timer } { { s.run.vli.iface with line := line } with bits := k }

theorem countIfrBit_ifrRead (s : State) (line : Line) (timer : Nat) {k : Nat} (hk : k < 8) :
    countIfrBit .vehicle (ifrRead s line timer k) = ifrRead s line timer (k + 1) := by
  have hmin : min 8 (k + 1) = k + 1 := by omega
  show ifrRead s line timer (min 8 (k + 1)) = _
  rw [hmin]

section
variable {s : State} {f : Ifr} (hdue : due s = false) (hrx : s.run.vli.iface.rx = .ifrWait)
  (hsending : s.run.vli.sending = none) (hifr : s.run.vli.ifr = some f) (hbusy : f.sending = true)
include hdue hrx hsending hifr hbusy

/-- From a bit's symbol on, the rest of the IFR is read back. -/
theorem foldl_ifrBits (line : Line) (timer : Nat) (bits : List Bool) {k : Nat} {b : Bool} (hk : k < 8)
    (hbits : (byteBits f.byte).drop k = b :: bits) :
    (.symbol (if b then .one else .zero) :: cellEvents b bits).foldl (fun t e => lineEvent .vehicle e (settle t))
      (ifrRead s line timer k) = sentIfr (ifrRead s line timer 8) := by
  have hlength : (b :: bits).length = 8 - k := by rw [← hbits]; simp
  have hbit {k : Nat} {b : Bool} {bits : List Bool} (hbits : (byteBits f.byte).drop k = b :: bits) :
      (byteBits f.byte)[k]? = some b := by
    have hfirst := congrArg (fun l : List Bool => l[0]?) hbits
    simpa using hfirst
  have hsettle (j : Nat) : settle (ifrRead s line timer j) = ifrRead s line timer j := settle_of_not_due hdue
  induction bits generalizing k b with
  | nil =>
    obtain rfl : k = 7 := by simp at hlength; omega
    rw [cellEvents, List.foldl_cons, List.foldl_nil, hsettle,
      lineEvent_ifrBit (s := ifrRead s line timer 7) hrx hsending hifr hbusy (hbit hbits), countIfrBit_ifrRead s line timer hk]
    rfl
  | cons b' bits ih =>
    have hk' : k + 1 < 8 := by simp at hlength; omega
    have hnext : (byteBits f.byte).drop (k + 1) = b' :: bits := by rw [← List.drop_drop, hbits]; rfl
    have hread : lineEvent .vehicle (.symbol (if b then .one else .zero)) (ifrRead s line timer k) =
        ifrRead s line timer (k + 1) := by
      rw [lineEvent_ifrBit (s := ifrRead s line timer k) hrx hsending hifr hbusy (hbit hbits), countIfrBit_ifrRead s line timer hk]
      exact if_neg (by show k ≠ 7; omega)
    have hedge : lineEvent .vehicle (.edge (if b then 30 else 10) 40) (ifrRead s line timer (k + 1)) =
        ifrRead s line timer (k + 1) := by
      refine lineEvent_ifrEdge (s := ifrRead s line timer (k + 1)) hrx hsending hifr hbusy ?_
      show ifrEdgeAsDriven (k + 1) _ 40 = true
      simp [ifrEdgeAsDriven, edgeAsDriven, edgeInTime]
    have hrest := ih hk' hnext (by rw [← hnext]; simp)
    rw [List.foldl_cons, hsettle, hread, cellEvents, List.foldl_cons, hsettle, hedge]
    cases b' with
    | true => exact hrest
    | false =>
      have hpass := lineEvent_ifrPasses (s := ifrRead s line timer (k + 1)) hrx hsending hifr hbusy (hbit hnext)
      simp only [bitEvents, Bool.false_eq_true, if_false, List.cons_append, List.nil_append, List.foldl_cons, hsettle, hpass]
      simpa only [Bool.false_eq_true, if_false, List.foldl_cons, hsettle] using hrest

end

/-! ## What the end of an IFR leaves -/

theorem ifrFailed_eq (s : State) :
    ifrFailed s =
      if s.run.mu.phase = .ifrPending then { s with run.mu := { s.run.mu with phase := .idle, cmd := none } } else s := rfl

/-- R154: a lost IFR sets F11 and drops the command that waits for it. -/
theorem loseIfr_frame (s : State) :
    WarningsOnly
      (ifrFailed { { s with run.vli.ifr := none } with run.flags.addressConflict := true }) (loseIfr s) := by
  have h := flagChange_frame .addressConflict true { s with run.vli.ifr := none }
  have hphase : (flagChange .addressConflict true { s with run.vli.ifr := none }).run.mu = s.run.mu := h.mu
  unfold loseIfr
  rw [ifrFailed_eq, ifrFailed_eq, hphase]
  split
  · exact replyLeft_frame h { s.run.mu with phase := .idle, cmd := none }
  · exact h

/-- R174, R177: after a sent IFR the command is carried out, or refused. -/
theorem sentIfr_pending {s : State} {cmd : Command} {c : CmdCode} (hphase : s.run.mu.phase = .ifrPending)
    (hcmd : s.run.mu.cmd = some cmd) (hcode : payloadCmd cmd.payload = some c) :
    sentIfr s =
      if c.inMode s.mode = true then { { s with run.vli.ifr := none } with run.mu.phase := .executing }
      else answer .refusedMode [] { s with run.vli.ifr := none } := by
  have hbind : s.run.mu.cmd.bind (fun c => payloadCmd c.payload) = some c := by rw [hcmd]; exact hcode
  simp only [sentIfr, ifrWasSent, hphase, if_true, hbind]

theorem sentIfr_other {s : State} (hphase : s.run.mu.phase ≠ .ifrPending) :
    sentIfr s = { s with run.vli.ifr := none } := if_neg hphase

end Sys2Proof.Machine
end


section
/-! PROOFS. The in-frame response (O18), continued: the rows. -/

namespace Sys2Proof.Machine

/-! ## The rows -/

section
variable {s : State} (hdue : due s = false)
include hdue

theorem exec_ifrStart (hstate : ifrState s = some false) :
    exec .ifrStart s = .next (listenFor (fun e => decide (e = LineEvent.ifrTurn)) .vehicle
      (heardUntil s .vehicle [] false fun e => decide (e = LineEvent.ifrTurn)) s) :=
  calc exec .ifrStart s = execIfrStart s := rfl
    _ = _ := by rw [execIfrStart, after_of_not_due _ hdue, if_pos hstate]

theorem exec_ifrSent (hstate : ifrState s = some true) :
    exec .ifrSent s = .next (listenFor LineEvent.isBit .vehicle (heard s .vehicle (restOfIfr s 8)) s) :=
  calc exec .ifrSent s = execIfrSent s := rfl
    _ = _ := by rw [execIfrSent, after_of_not_due _ hdue, if_pos hstate]

theorem exec_ifrLoss {n : Nat} (hstate : ifrState s = some true) (hone : nextOne s = some n) :
    exec .ifrLoss s = .next (listenFor (fun e => decide (e = LineEvent.passes14)) .vehicle
      (heardUntil s .vehicle (restOfIfr s n) true fun e => decide (e = LineEvent.passes14)) s) :=
  calc exec .ifrLoss s = execIfrLoss s := rfl
    _ = _ := by rw [execIfrLoss, after_of_not_due _ hdue, hstate, hone]

theorem exec_ifrTransmitError (hstate : ifrState s = some true) :
    exec .ifrTransmitError s = .next (listenFor (fun e => decide (e = LineEvent.eod ∨ e = LineEvent.eof)) .vehicle
      (heardUntil s .vehicle [] false fun e => decide (e = LineEvent.eod ∨ e = LineEvent.eof)) s) :=
  calc exec .ifrTransmitError s = execIfrTransmitError s := rfl
    _ = _ := by rw [execIfrTransmitError, after_of_not_due _ hdue, if_pos hstate]

theorem exec_endOfFrame (hquiet : ifrQuiet s = true) :
    exec .endOfFrame s = .next (listenFor (fun e => decide (e = LineEvent.eof)) .vehicle
      (heardUntil s .vehicle [] false fun e => decide (e = LineEvent.eof)) s) :=
  calc exec .endOfFrame s = execEndOfFrame s := rfl
    _ = _ := by rw [execEndOfFrame, after_of_not_due _ hdue, if_pos hquiet]

end

/-! ## The last bit, and the next ONE -/

theorem byteBits_getLast? (x : Byte) : (byteBits x).getLast? = some (x.getLsbD 0) := rfl

theorem byteBits_drop {x : Byte} {k : Nat} (hk : k < 8) :
    ∃ bits, (byteBits x).drop k = x.getLsbD (7 - k) :: bits ∧
      bits.getLast?.getD (x.getLsbD (7 - k)) = x.getLsbD 0 := by
  have hget := byteBits_getElem? x k hk
  obtain ⟨hlen, hval⟩ := List.getElem?_eq_some_iff.1 hget
  refine ⟨_, by rw [List.drop_eq_getElem_cons hlen, hval], ?_⟩
  have hlast : ((byteBits x).drop k).getLast? = some (x.getLsbD 0) := by
    rw [List.getLast?_drop, if_neg (by simp; omega), byteBits_getLast?]
  rw [List.drop_eq_getElem_cons hlen, hval, List.getLast?_cons] at hlast
  exact Option.some.inj hlast

theorem nextOne_now {s : State} {f : Ifr} (hifr : s.run.vli.ifr = some f) (hk : s.run.vli.iface.bits < 8)
    (hone : f.byte.getLsbD (7 - s.run.vli.iface.bits) = true) : nextOne s = some s.run.vli.iface.bits := by
  obtain ⟨bits, hdrop, -⟩ := byteBits_drop (x := f.byte) hk
  rw [nextOne, ifrBits_of hifr, hdrop, hone]
  simp [List.findIdx?_cons]

section
variable {s : State} {f : Ifr} (hdue : due s = false) (hhears : hears s .vehicle = true)
  (hrx : s.run.vli.iface.rx = .ifrWait) (hsending : s.run.vli.sending = none) (hifr : s.run.vli.ifr = some f)
include hdue hhears hrx hsending hifr

/-! ## The IFR begins -/

/-- R154: at 80 samples of recessive. -/
theorem exec_ifrStart_begins (hwaits : f.sending = false) (hf : s.run.vli.iface.line.filter = restFilter)
    (hlow : s.run.vli.iface.line.stretch < 80) :
    exec .ifrStart s = .next
      { hearingAt s (s.run.vli.iface.line.restedTo 80) 0 with run.vli.ifr := some { f with sending := true } } := by
  have hstate : ifrState s = some false := by simp [ifrState, hrx, hifr, hwaits]
  have hevents : restEvents s.run.vli.iface.line.stretch 80 = restEvents s.run.vli.iface.line.stretch 79 ++ [.ifrTurn] :=
    restEvents_succ (by omega)
  rw [exec_ifrStart hdue hstate, heardUntil_rest (n := 80) (link := .vehicle) hf hlow (by omega) ?_ ?_,
    listenFor_last hdue hhears hevents (by simp) fun e he => ?_]
  · exact congrArg _ (lineEvent_ifrBegins (s := hearingAt s (s.run.vli.iface.line.restedTo 80) 0) hrx hsending hifr hwaits rfl)
  · obtain ⟨rfl, -⟩ | ⟨-, -, h⟩ | ⟨-, -, h⟩ | ⟨-, -, h⟩ := mem_restEvents he
    · exact lineEvent_ifrWaits (s := setHeard .vehicle _ s) hrx hsending hifr hwaits (by simp) rfl
    all_goals omega
  · intro m _ hm
    simp [restEvents_any]
    omega
  · simp [restEvents_any]
    exact hlow

variable (hbusy : f.sending = true)
include hbusy

/-! ## The IFR is sent -/

/-- The next bit's edge and loss's moment are passed over, and from its symbol on the IFR is read back. -/
theorem listen_ifrBits {h : Heard} {pre : List LineEvent} {b : Bool} {bits : List Bool}
    (hk : s.run.vli.iface.bits < 8) (hbits : (byteBits f.byte).drop s.run.vli.iface.bits = b :: bits)
    (hevents : h.events = pre ++ .symbol (if b then .one else .zero) :: cellEvents b bits)
    (hpre : ∀ e ∈ pre, (∃ r c, e = .edge r c ∧ ifrEdgeAsDriven s.run.vli.iface.bits r c = true) ∨
      e = .passes14 ∧ b = false) :
    listenFor LineEvent.isBit .vehicle h s = sentIfr (ifrRead s h.line h.timer 8) := by
  have hsymbol : LineEvent.isBit (.symbol (if b then .one else .zero)) = true := by cases b <;> rfl
  have hbit : (byteBits f.byte)[s.run.vli.iface.bits]? = some b := by
    have hfirst := congrArg (fun l : List Bool => l[0]?) hbits
    simpa using hfirst
  rw [listenFor_heard hhears (by rw [hevents]; simp) hsymbol, listen_passes hdue hevents fun e he => ?_]
  · exact foldl_ifrBits hdue hrx hsending hifr hbusy h.line h.timer bits hk hbits
  · obtain ⟨r, c, rfl, hedge⟩ | ⟨rfl, rfl⟩ := hpre e he
    · exact lineEvent_ifrEdge (s := setHeard .vehicle h s) hrx hsending hifr hbusy hedge
    · exact lineEvent_ifrPasses (s := setHeard .vehicle h s) hrx hsending hifr hbusy hbit

/-- R154: the IFR's remaining bits are read back as they are driven. -/
theorem exec_ifrSent_read (hk : s.run.vli.iface.bits < 8)
    (haligned : IfrRests (byteBits f.byte) s.run.vli.iface ∨
      IfrHeld (byteBits f.byte) s.run.vli.iface s.run.vli.stuckTimer) :
    exec .ifrSent s = .next (sentIfr (ifrRead s (afterCell (f.byte.getLsbD 0)) 0 8)) := by
  have hstate : ifrState s = some true := by simp [ifrState, hrx, hifr, hbusy]
  obtain ⟨bits, hdrop, hlast⟩ := byteBits_drop (x := f.byte) hk
  have htake : (byteBits f.byte).take 8 = byteBits f.byte := List.take_of_length_le (by simp)
  rw [exec_ifrSent hdue hstate, ← hlast]
  refine congrArg _ ?_
  rcases haligned with hrests | hheld
  · obtain ⟨l, timer, hbefore, -, hheard⟩ := heard_restOfIfr (n := 8) hifr hrests (by omega)
    rw [htake, hdrop, hear_cells_rested _ _ hbefore.1, hbefore.quiet] at hheard
    rw [listen_ifrBits hdue hhears hrx hsending hifr hbusy (b := f.byte.getLsbD (7 - s.run.vli.iface.bits)) (bits := bits)
      (pre := [.edge (min stuckSamples (l.stretch + 6)) (min stuckSamples (l.cell + 6))] ++
        if f.byte.getLsbD (7 - s.run.vli.iface.bits) then [] else [.passes14]) hk hdrop ?_ ?_, hheard]
    · rw [hheard]
      cases f.byte.getLsbD (7 - s.run.vli.iface.bits) <;> rfl
    · intro e he
      obtain he | he := List.mem_append.1 he
      · exact .inl ⟨_, _, by simpa using he, hbefore.edge⟩
      · cases hb : f.byte.getLsbD (7 - s.run.vli.iface.bits) with
        | true => simp [hb] at he
        | false => exact .inr ⟨by simpa [hb] using he, rfl⟩
  · have hwave := restOfIfr_held (n := 8) hifr hheld
    obtain ⟨hf, hlow, hcell, htimer, b, -, hb, hplace⟩ := hheld
    obtain rfl : f.byte.getLsbD (7 - s.run.vli.iface.bits) = b := by
      rw [byteBits_getElem? _ _ hk] at hb
      exact Option.some.inj hb
    have hheard : heard s .vehicle (restOfIfr s 8) =
        hearWave (dropSamples (s.run.vli.iface.line.stretch + 6)
          ((f.byte.getLsbD (7 - s.run.vli.iface.bits) :: bits).flatMap cellWave)) (ear s .vehicle) := by
      rw [hwave, htake, hdrop]
      rfl
    rw [hear_cells_held (h := ear s .vehicle) (a := s.run.vli.iface.line.stretch) _ bits hf rfl hcell htimer hplace] at hheard
    rw [listen_ifrBits hdue hhears hrx hsending hifr hbusy (b := f.byte.getLsbD (7 - s.run.vli.iface.bits)) (bits := bits)
      (pre := heldEvents s.run.vli.iface.line.stretch (dominantPart (f.byte.getLsbD (7 - s.run.vli.iface.bits)))) hk hdrop
      ?_ ?_, hheard]
    · rw [hheard]
      simp [ear]
    · intro e he
      cases hb : f.byte.getLsbD (7 - s.run.vli.iface.bits) with
      | true =>
        rw [hb] at he
        obtain ⟨-, -, h⟩ | ⟨-, -, h⟩ | ⟨-, -, h⟩ := mem_heldEvents he
        all_goals simp [dominantPart] at h
      | false =>
        rw [hb] at he
        obtain ⟨rfl, -, -⟩ | ⟨-, -, h⟩ | ⟨-, -, h⟩ := mem_heldEvents he
        · exact .inr ⟨rfl, rfl⟩
        all_goals simp [dominantPart] at h

/-! ## The IFR loses -/

/-- The line in the moment of a loss. -/
def lossLine (l : Line) : Line := { filter := heldFilter, stretch := 15, cell := 15, idle := l.idle }

/-- R154: another node's dominant where the IFR sends a ONE. -/
theorem exec_ifrLoss_loses (hk : s.run.vli.iface.bits < 8)
    (haligned : IfrRests (byteBits f.byte) s.run.vli.iface ∨
      IfrHeld (byteBits f.byte) s.run.vli.iface s.run.vli.stuckTimer)
    (hone : f.byte.getLsbD (7 - s.run.vli.iface.bits) = true) :
    exec .ifrLoss s = .next (loseIfr (hearingAt s (lossLine s.run.vli.iface.line) 15)) := by
  have hstate : ifrState s = some true := by simp [ifrState, hrx, hifr, hbusy]
  have hbit : (byteBits f.byte)[s.run.vli.iface.bits]? = some true := by rw [byteBits_getElem? _ _ hk, hone]
  have hnothing : ((byteBits f.byte).take s.run.vli.iface.bits).drop s.run.vli.iface.bits = [] :=
    List.drop_eq_nil_of_le (by simp)
  obtain ⟨pre, hheard, hpre⟩ : ∃ pre, (heardUntil s .vehicle (restOfIfr s s.run.vli.iface.bits) true
        fun e => decide (e = LineEvent.passes14)) =
      { line := lossLine s.run.vli.iface.line, timer := 15, events := pre ++ [.passes14] } ∧
      ∀ e ∈ pre, ∃ r c, e = .edge r c ∧ ifrEdgeAsDriven s.run.vli.iface.bits r c = true := by
    rcases haligned with hrests | hheld
    · obtain ⟨l, timer, hbefore, hidle, hheard⟩ := heard_restOfIfr (n := s.run.vli.iface.bits) hifr hrests (by omega)
      rw [hnothing, List.flatMap_nil, hearWave_nil] at hheard
      refine ⟨[.edge (min stuckSamples (l.stretch + 6)) (min stuckSamples (l.cell + 6))], ?_, fun e he =>
        ⟨_, _, by simpa using he, hbefore.edge⟩⟩
      have hpulse := hearUntil_pulse (h := { line := l, timer := timer, events := [] }) (n := 21) (m := stuckSamples + 7)
        (stop := fun e => decide (e = LineEvent.passes14)) hbefore.1 rfl (by omega) (by omega)
        (by simp only [stuckSamples]; omega) (by simp [restEvents_any]) (by simp)
        (fun b hb => by simp [heldEvents_any]; omega) (by simp [heldEvents_any])
      simp only [hbefore.idle.trans hidle, pulseEvents, hbefore.quiet] at hpulse
      rw [heardUntil, hheard, hpulse]
      rfl
    · have hwave := restOfIfr_held (n := s.run.vli.iface.bits) hifr hheld
      rw [hnothing] at hwave
      obtain ⟨hf, hlow, hcell, htimer, b, -, hb, hplace⟩ := hheld
      obtain rfl : true = b := by
        rw [hbit] at hb
        exact Option.some.inj hb
      have hshort : s.run.vli.iface.line.stretch + 6 ≤ 10 := hplace
      have hrun {k : Nat} (hcap : s.run.vli.iface.line.stretch + k ≤ 20000) :=
        hearRun_held (h := ear s .vehicle) (a := s.run.vli.iface.line.stretch) (k := k) hf rfl hcell htimer hcap
      have hsum : s.run.vli.iface.line.stretch + (15 - s.run.vli.iface.line.stretch) = 15 := by omega
      have hpasses : heldEvents s.run.vli.iface.line.stretch 15 = [.passes14] := by
        unfold heldEvents
        rw [if_pos (by omega), if_neg (by omega), if_neg (by omega)]
        rfl
      refine ⟨[], ?_, by simp⟩
      rw [hwave, List.flatMap_nil, dropSamples, heardUntil_nil,
        hearUntil_at (k := 15 - s.run.vli.iface.line.stretch) (by simp only [stuckSamples]; omega) (fun j hj => ?_) ?_,
        hrun (by omega), hsum, hpasses]
      · rfl
      · rw [hrun (by omega), hsum, hpasses]
        simp
      · rw [hrun (by omega)]
        simp [ear, heldEvents_any]
        omega
  rw [exec_ifrLoss hdue hstate (nextOne_now hifr hk hone), hheard,
    listenFor_last hdue hhears rfl (by simp) fun e he => ?_]
  · exact congrArg _ (lineEvent_ifrLost (s := hearingAt s (lossLine s.run.vli.iface.line) 15) hrx hsending hifr hbusy hbit)
  · obtain ⟨r, c, rfl, hedge⟩ := hpre e he
    exact lineEvent_ifrEdge (s := setHeard .vehicle _ s) hrx hsending hifr hbusy hedge

/-! ## The IFR fails -/

/-- R154: the line stays recessive up to EOD, or from beyond it up to EOF. -/
theorem exec_ifrTransmitError_fails (hf : s.run.vli.iface.line.filter = restFilter)
    (hlow : s.run.vli.iface.line.stretch < 100) :
    exec .ifrTransmitError s = .next (failIfr (hearingAt s (s.run.vli.iface.line.restedTo
      (if s.run.vli.iface.line.stretch < 60 then 60 else 100)) 0)) := by
  have hstate : ifrState s = some true := by simp [ifrState, hrx, hifr, hbusy]
  have hfails (line : Line) {e : LineEvent} (he : e = .eod ∨ e = .eof) :=
    lineEvent_ifrEnds (s := hearingAt s line 0) hrx hsending hifr hbusy he
  rw [exec_ifrTransmitError hdue hstate]
  by_cases hshort : s.run.vli.iface.line.stretch < 60
  · have hevents : restEvents s.run.vli.iface.line.stretch 60 = [.eod] := by
      unfold restEvents
      rw [if_pos (by omega), if_neg (by omega), if_neg (by omega), if_neg (by omega)]
      rfl
    rw [if_pos hshort, heardUntil_rest (n := 60) (link := .vehicle) hf hshort (by omega) ?_ ?_,
      listenFor_last (pre := []) hdue hhears hevents (by simp) (by simp)]
    · exact congrArg _ (hfails _ (.inl rfl))
    · intro m _ hm
      simp [restEvents_any]
      omega
    · simp [restEvents_any]
      exact hshort
  · have hevents : restEvents s.run.vli.iface.line.stretch 100 = restEvents s.run.vli.iface.line.stretch 99 ++ [.eof] :=
      restEvents_succ (by omega)
    rw [if_neg hshort, heardUntil_rest (n := 100) (link := .vehicle) hf hlow (by omega) ?_ ?_,
      listenFor_last hdue hhears hevents (by simp) fun e he => ?_]
    · exact congrArg _ (hfails _ (.inr rfl))
    · obtain ⟨-, h, -⟩ | ⟨rfl, -⟩ | ⟨-, -, h⟩ | ⟨-, -, h⟩ := mem_restEvents he
      · omega
      · rw [lineEvent_ifr (s := setHeard .vehicle _ s) hrx hsending hifr (by simp)]
        simp only [ifrEvent, hbusy, if_true]
      all_goals omega
    · intro m _ hm
      simp [restEvents_any, ifaceOf]
      omega
    · simp [restEvents_any, ifaceOf]
      omega

end

/-- R154: with no IFR to send, EOF ends the frame. -/
theorem exec_endOfFrame_ends {s : State} (hdue : due s = false) (hhears : hears s .vehicle = true)
    (hrx : s.run.vli.iface.rx = .ifrWait) (hsending : s.run.vli.sending = none) (hifr : s.run.vli.ifr = none)
    (hf : s.run.vli.iface.line.filter = restFilter) (hlow : s.run.vli.iface.line.stretch < 100)
    (hwhole : s.run.vli.iface.bits = 0 ∨ 8 ≤ s.run.vli.iface.bits ∨ 60 ≤ s.run.vli.iface.line.stretch) :
    exec .endOfFrame s = .next (setIface .vehicle
      (({ s.run.vli.iface with line := s.run.vli.iface.line.restedTo 100 } : Iface).toState .idle)
      (hearingAt s (s.run.vli.iface.line.restedTo 100) 0)) := by
  have hquiet : ifrQuiet s = true := by simp [ifrQuiet, hrx, hifr]
  have hevents : restEvents s.run.vli.iface.line.stretch 100 = restEvents s.run.vli.iface.line.stretch 99 ++ [.eof] :=
    restEvents_succ (by omega)
  rw [exec_endOfFrame hdue hquiet, heardUntil_rest (n := 100) (link := .vehicle) hf hlow (by omega) ?_ ?_,
    listenFor_last hdue hhears hevents (by simp) fun e he => ?_]
  · rw [lineEvent_quiet (s := setHeard .vehicle _ s) hrx hifr hsending (by simp)]
    rfl
  · obtain ⟨rfl, h, -⟩ | ⟨rfl, -⟩ | ⟨-, -, h⟩ | ⟨-, -, h⟩ := mem_restEvents he
    · rw [lineEvent_quiet (s := setHeard .vehicle _ s) hrx hifr hsending (by simp)]
      exact if_pos (hwhole.imp_right fun h' => h'.resolve_right (by omega))
    · rw [lineEvent_quiet (s := setHeard .vehicle _ s) hrx hifr hsending (by simp)]
      rfl
    all_goals omega
  · intro m _ hm
    simp [restEvents_any, ifaceOf]
    omega
  · simp [restEvents_any, ifaceOf]
    omega

end Sys2Proof.Machine
end


section
/-! PROOFS. The in-frame response (O18), settled. -/

namespace Sys2Proof.Machine

/-- R154: an edge out of its time fails the IFR. -/
theorem ifrEdgeAsDriven_late {bits r c : Nat} (h : if bits = 0 then 86 < r else ¬ (36 ≤ c ∧ c ≤ 40)) :
    ifrEdgeAsDriven bits r c = false := by
  unfold ifrEdgeAsDriven
  split at h
  · next hbits => simp [hbits, h]
  · next hbits =>
    rw [if_neg hbits, Bool.eq_false_iff]
    intro hedge
    obtain ⟨hin, hlate⟩ := (edgeAsDriven_iff _ _ _).1 hedge
    rw [if_neg hbits] at hin hlate
    exact h ⟨hin.1, hlate⟩

/-- Settles O18, by whether the IFR waits, is sent, or there is none. -/
theorem inFrameResponses : Obligations.InFrameResponses := by
  intro s hdue hhears hrx hsending i rests after waits gone pending drop dominant aligned
  refine ⟨?_, ?_, fun hifr hf hlow hwhole => exec_endOfFrame_ends hdue hhears hrx hsending hifr hf hlow hwhole⟩
  · intro f hifr hwaits begun
    refine ⟨fun hf hlow => exec_ifrStart_begins hdue hhears hrx hsending hifr hwaits hf hlow, ?_⟩
    intro wave r c hevents h
    rw [exec_ifrWaitSymbolError hdue, listenFor_last (pre := []) hdue hhears hevents rfl (by simp)]
    exact congrArg _ (lineEvent_ifrBegins (s := setHeard .vehicle h s) hrx hsending hifr hwaits rfl)
  · intro f hifr hbusy
    have hplaced (h : aligned f) : i.bits < 8 ∧
        (IfrRests (byteBits f.byte) i ∨ IfrHeld (byteBits f.byte) i s.run.vli.stuckTimer) := by
      obtain ⟨hf, hbits, hstretch⟩ | ⟨hf, hlow, hhigh, hstretch, hcell, hplace⟩ |
        ⟨hf, hhigh, hlow, hcell, htimer, hplace⟩ := h
      · exact ⟨by omega, .inl ⟨hf, .inl ⟨hbits, hstretch⟩⟩⟩
      · exact ⟨by omega, .inl ⟨hf, .inr ⟨_, hlow, hhigh, byteBits_getElem? _ _ (by omega), hstretch, hcell, hplace⟩⟩⟩
      · exact ⟨by omega, .inr ⟨hf, hlow, hcell, htimer, _, hhigh, byteBits_getElem? _ _ (by omega), hplace⟩⟩
    refine ⟨?_, ?_, ?_, fun hf hlow => exec_ifrTransmitError_fails hdue hhears hrx hsending hifr hbusy hf hlow⟩
    · intro halign line sent
      obtain ⟨hk, halign⟩ := hplaced halign
      have hexec := exec_ifrSent_read hdue hhears hrx hsending hifr hbusy hk halign
      refine ⟨fun hpending => ?_, fun cmd c hpending hcmd hcode => ?_⟩
      · rw [hexec, sentIfr_other (s := ifrRead s _ 0 8) hpending]
        rfl
      · rw [sentIfr_pending (s := ifrRead s _ 0 8) hpending hcmd hcode] at hexec
        refine ⟨fun hmode => ?_, fun hmode hshutdown => ⟨_, hexec, ?_⟩⟩
        · rw [hexec, if_pos (show c.inMode (ifrRead s _ 0 8).mode = true from hmode)]
          rfl
        · rw [if_neg (show ¬ c.inMode (ifrRead s _ 0 8).mode = true by rw [show (ifrRead s _ 0 8).mode = s.mode from rfl, hmode]; simp)]
          exact answer_replied (s := sent) hcmd hshutdown .refusedMode []
    · intro halign hone
      obtain ⟨hk, halign⟩ := hplaced halign
      refine ⟨_, exec_ifrLoss_loses hdue hhears hrx hsending hifr hbusy hk halign hone, ?_⟩
      exact loseIfr_frame (hearingAt s (lossLine i.line) 15)
    · intro wave r c hevents hlate h
      rw [exec_ifrWaitSymbolError hdue, listenFor_last (pre := []) hdue hhears hevents rfl (by simp)]
      exact congrArg _ (lineEvent_ifrLateEdge (s := setHeard .vehicle h s) hrx hsending hifr hbusy
        (ifrEdgeAsDriven_late hlate))

end Sys2Proof.Machine
end


section
/-! PROOFS. What the extraction of a frame's signals leaves alone (O14): the links, the tables, the relay queues. -/

namespace Sys2Proof.Machine

/-! ## What no dispatch changes -/

/-- The links, the store, the identity, the inputs, the tables and the display relay queue are as they were. -/
structure LinkKept (s t : State) : Prop where
  vli : t.run.vli = s.run.vli
  dli : t.run.dli = s.run.dli
  iu : t.run.iu = s.run.iu
  store : t.store = s.store
  nodeAddress : t.nodeAddress = s.nodeAddress
  din0 : t.din0 = s.din0
  tables : t.run.tables = s.run.tables
  drq : t.run.queues.drq = s.run.queues.drq

theorem LinkKept.refl (s : State) : LinkKept s s := ⟨rfl, rfl, rfl, rfl, rfl, rfl, rfl, rfl⟩

theorem LinkKept.trans {s t u : State} (h : LinkKept s t) (h' : LinkKept t u) : LinkKept s u where
  vli := h'.vli.trans h.vli
  dli := h'.dli.trans h.dli
  iu := h'.iu.trans h.iu
  store := h'.store.trans h.store
  nodeAddress := h'.nodeAddress.trans h.nodeAddress
  din0 := h'.din0.trans h.din0
  tables := h'.tables.trans h.tables
  drq := h'.drq.trans h.drq

theorem WarningsOnly.linkKept {s t : State} (h : WarningsOnly s t) : LinkKept s t :=
  ⟨h.vli, h.dli, h.iu, h.store, h.nodeAddress, h.din0, h.tables, h.drq⟩

theorem DriveOnly.linkKept {s t : State} (h : DriveOnly s t) : LinkKept s t :=
  ⟨h.vli, h.dli, h.iu, h.store, h.nodeAddress, h.din0, h.tables, h.drq⟩

theorem putFlag_linkKept (s : State) (f : FlagId) (v : Bool) : LinkKept s (putFlag s f v) := by
  cases f <;> exact ⟨rfl, rfl, rfl, rfl, rfl, rfl, rfl, rfl⟩

theorem flagChange_linkKept (f : FlagId) (v : Bool) (s : State) : LinkKept s (flagChange f v s) :=
  (putFlag_linkKept s f v).trans (flagChange_frame f v s).linkKept

theorem replyLeft_linkKept (o : Origin) (s : State) : LinkKept s (replyLeft o s) := by
  rw [replyLeft_mu]
  exact ⟨rfl, rfl, rfl, rfl, rfl, rfl, rfl, rfl⟩

theorem placeVtq_linkKept (e : QEntry) (replaces : Bool) (s : State) : LinkKept s (placeVtq e replaces s) := by
  rcases placeVtq_cases e replaces s with h | ⟨q, h⟩ | h
  · rw [h]
    exact replyLeft_linkKept _ s
  · rw [h]
    exact ⟨rfl, rfl, rfl, rfl, rfl, rfl, rfl, rfl⟩
  · rw [h]
    exact (flagChange_linkKept _ true s).trans (replyLeft_linkKept _ _)

theorem sendResult_linkKept (frames : Command → NoticeFrames) (s : State) : LinkKept s (sendResult frames s) := by
  unfold sendResult
  split
  · exact .refl s
  · dsimp only
    split
    · exact .trans (t := { s with run.mu.phase := .replyQueued }) ⟨rfl, rfl, rfl, rfl, rfl, rfl, rfl, rfl⟩
        (placeVtq_linkKept _ _ _)
    · exact ⟨rfl, rfl, rfl, rfl, rfl, rfl, rfl, rfl⟩

/-- The vehicle transmit queue and F4 are as they were. -/
def SameRelay (s t : State) : Prop :=
  t.run.queues.vtq = s.run.queues.vtq ∧ t.run.flags.relayOverflow = s.run.flags.relayOverflow

theorem SameRelay.trans {s t u : State} (h : SameRelay s t) (h' : SameRelay t u) : SameRelay s u :=
  ⟨h'.1.trans h.1, h'.2.trans h.2⟩

theorem WarningsOnly.sameRelay {s t : State} (h : WarningsOnly s t) : SameRelay s t :=
  ⟨h.vtq, congrArg Flags.relayOverflow h.flags⟩

theorem DriveOnly.sameRelay {s t : State} (h : DriveOnly s t) : SameRelay s t :=
  ⟨h.vtq, by rw [h.flags]⟩

theorem flagChange_sameRelay {f : FlagId} (hf : f ≠ .relayOverflow) (v : Bool) (s : State) :
    SameRelay s (flagChange f v s) := by
  have hput : SameRelay s (putFlag s f v) := by
    cases f with
    | relayOverflow => exact absurd rfl hf
    | _ => exact ⟨rfl, rfl⟩
  exact hput.trans (flagChange_frame f v s).sameRelay

/-! ## The forced exit -/

theorem requestRepeat_sameRelay (s : State) : LinkKept s (requestRepeat s) ∧ SameRelay s (requestRepeat s) ∧
    (requestRepeat s).run.mc = s.run.mc := by
  unfold requestRepeat
  split
  · obtain ⟨c, -, h⟩ := chimeRequest_step .rep s
    rw [h]
    exact ⟨⟨rfl, rfl, rfl, rfl, rfl, rfl, rfl, rfl⟩, ⟨rfl, rfl⟩, rfl⟩
  · exact ⟨.refl s, ⟨rfl, rfl⟩, rfl⟩

theorem abandonLeaveService_linkKept (s : State) : LinkKept s (abandonLeaveService s) := by
  unfold abandonLeaveService
  split
  · dsimp only
    split
    · exact .trans (t := { s with run.mc.validation := none }) ⟨rfl, rfl, rfl, rfl, rfl, rfl, rfl, rfl⟩
        (sendResult_linkKept _ _)
    · exact ⟨rfl, rfl, rfl, rfl, rfl, rfl, rfl, rfl⟩
  · exact .refl s

theorem abandonLeaveService_none {s : State} (h : s.run.mc.validation = none) : abandonLeaveService s = s :=
  if_neg (by simp [h])

/-- Releasing the forcings leaves the queues. -/
theorem exitReleased_queues (s : State) :
    (exitReleased s).run.queues = (flagChange .service false { s with mode := .run }).run.queues := rfl

theorem exitReleased_kept (s : State) : LinkKept s (exitReleased s) ∧ SameRelay s (exitReleased s) ∧
    (exitReleased s).run.mc = s.run.mc := by
  have hframe := exitReleased_frame s
  have hqueues := exitReleased_queues s
  have hlinks := flagChange_linkKept .service false { s with mode := .run }
  have hrelay := flagChange_sameRelay (f := .service) (by decide) false { s with mode := .run }
  exact ⟨⟨congrArg (·.run.vli) hframe, congrArg (·.run.dli) hframe, congrArg (·.run.iu) hframe, congrArg (·.store) hframe,
      congrArg (·.nodeAddress) hframe, congrArg (·.din0) hframe, congrArg (·.run.tables) hframe,
      (congrArg Queues.drq hqueues).trans hlinks.drq⟩,
    ⟨(congrArg Queues.vtq hqueues).trans hrelay.1, congrArg (·.run.flags.relayOverflow) hframe⟩,
    congrArg (·.run.mc) hframe⟩

/-- What writing a frame's signals leaves alone; the relay queue too where no LEAVE SERVICE validation can end. -/
structure SignalKept (s t : State) : Prop where
  links : LinkKept s t
  mode : t.mode = s.mode ∨ t.mode = .run
  calm : s.run.mc.validation = none → t.run.mc.validation = none ∧ SameRelay s t

theorem SignalKept.refl (s : State) : SignalKept s s := ⟨.refl s, .inl rfl, fun h => ⟨h, rfl, rfl⟩⟩

theorem SignalKept.trans {s t u : State} (h : SignalKept s t) (h' : SignalKept t u) : SignalKept s u where
  links := h.links.trans h'.links
  mode := by
    rcases h'.mode with hm | hm
    · rw [hm]
      exact h.mode
    · exact .inr hm
  calm hnone := by
    obtain ⟨hnone', hrelay⟩ := h.calm hnone
    obtain ⟨hnone'', hrelay'⟩ := h'.calm hnone'
    exact ⟨hnone'', hrelay.trans hrelay'⟩

theorem WarningsOnly.signalKept {s t : State} (h : WarningsOnly s t) : SignalKept s t :=
  ⟨h.linkKept, .inl h.mode, fun hnone => ⟨by rw [h.mc, hnone], h.sameRelay⟩⟩

theorem DriveOnly.signalKept {s t : State} (h : DriveOnly s t) : SignalKept s t :=
  ⟨h.linkKept, .inl h.mode, fun hnone => ⟨by rw [h.mc, hnone], h.sameRelay⟩⟩

theorem flagChange_signalKept {f : FlagId} (hf : f ≠ .relayOverflow) (v : Bool) (s : State) :
    SignalKept s (flagChange f v s) where
  links := flagChange_linkKept f v s
  mode := .inl (flagChange_mode f v s)
  calm hnone := ⟨by rw [(flagChange_frame f v s).mc, putFlag_mc, hnone], flagChange_sameRelay hf v s⟩

theorem superviseRoutes_signalKept (s : State) : SignalKept s (superviseRoutes s) :=
  ((flagChange_signalKept (by decide) _ s).trans (flagChange_signalKept (by decide) _ _)).trans
    (flagChange_signalKept (by decide) _ _)

theorem forcedExit_signalKept (s : State) : SignalKept s (forcedExit s) := by
  by_cases hservice : s.mode = .service
  · obtain ⟨hlinks, hrelay, hmc⟩ := exitReleased_kept s
    obtain ⟨hlinks', hrelay', hmc'⟩ := requestRepeat_sameRelay (exitReleased s)
    have hexit : forcedExit s = noticeIfOn .status (abandonLeaveService (requestRepeat (exitReleased s))) :=
      if_pos hservice
    have hnotice := noticeIfOn_frame .status (abandonLeaveService (requestRepeat (exitReleased s)))
    obtain ⟨-, -, hvalidation, -⟩ := forcedExit_ends hservice
    refine ⟨?_, .inr (forcedExit_mode hservice), fun hnone => ⟨hvalidation, ?_⟩⟩
    · rw [hexit]
      exact ((hlinks.trans hlinks').trans (abandonLeaveService_linkKept _)).trans hnotice.linkKept
    · rw [hexit]
      rw [abandonLeaveService_none (by rw [hmc', hmc, hnone])] at hnotice ⊢
      exact (hrelay.trans hrelay').trans hnotice.sameRelay
  · have hstays : forcedExit s = s := if_neg hservice
    rw [hstays]
    exact .refl s

theorem forcedExit_signals (s : State) : (forcedExit s).run.signals = s.run.signals := by
  by_cases hservice : s.mode = .service
  · obtain ⟨-, -, -, -, -, -, hsignals, -⟩ := forcedExit_ends hservice
    exact hsignals
  · rw [show forcedExit s = s from if_neg hservice]

theorem roadSpeedEvent_kept (i : Nat) (s : State) :
    SignalKept s (roadSpeedEvent i s) ∧ (roadSpeedEvent i s).run.signals = s.run.signals := by
  unfold roadSpeedEvent
  split
  · split
    · split
      · exact ⟨forcedExit_signalKept s, forcedExit_signals s⟩
      · exact ⟨.refl s, rfl⟩
    · exact ⟨.refl s, rfl⟩
  · exact ⟨.refl s, rfl⟩

/-! ## One signal, and a route's signals -/

theorem writeSignal_signalKept (i : Nat) (e : SigEntry) (s : State) : SignalKept s (writeSignal i e s) :=
  .trans (t := unitEvents i (putSignal s i e))
    (.trans (t := putSignal s i e) ⟨⟨rfl, rfl, rfl, rfl, rfl, rfl, rfl, rfl⟩, .inl rfl, fun h => ⟨h, rfl, rfl⟩⟩
      (unitEvents_driveOnly i _).signalKept) (roadSpeedEvent_kept i _).1

theorem writeSignal_frames (i : Nat) (e : SigEntry) (s : State) : SameFrames (putSignal s i e) (writeSignal i e s) :=
  (unitEvents_sameFrames i _).trans (.of_signals (roadSpeedEvent_kept i _).2)

/-- What a frame makes of entry `k`, when it is a signal of its range. -/
def extractedAt (s : State) (payload : List Byte) (k : Nat) : SigEntry :=
  match descAt s k with
  | some d => extractSignal d payload (signalAt s k)
  | none => signalAt s k

theorem extractOne_signalKept (payload : List Byte) (s : State) (i : Nat) : SignalKept s (extractOne payload s i) := by
  unfold extractOne
  split
  · exact writeSignal_signalKept _ _ s
  · exact .refl s

theorem extractOne_length (payload : List Byte) (s : State) (i : Nat) :
    (extractOne payload s i).run.signals.length = s.run.signals.length := by
  unfold extractOne
  split
  · exact (writeSignal_frames _ _ s).length.trans (updAt_length ..)
  · rfl

theorem extractOne_entry {s : State} {payload : List Byte} {i k : Nat} (hlt : i < s.run.signals.length) (hk : k ≤ 160) :
    signalAt (extractOne payload s i) k = if k = i then extractedAt s payload k else signalAt s k := by
  unfold extractOne
  cases hd : descAt s i with
  | none =>
    dsimp only
    split
    · next h =>
      subst h
      rw [extractedAt, hd]
    · rfl
  | some d =>
    dsimp only
    rw [(writeSignal_frames _ _ s).entry k hk]
    split
    · next h =>
      subst h
      rw [signalAt_putSignal_self hlt, extractedAt, hd]
    · next h => exact signalAt_putSignal _ _ _ _ h

/-- The signals of a route, each extracted in its turn. -/
theorem extractAll {s : State} (payload : List Byte) {first count : Nat} (hlen : s.run.signals.length = 163)
    (hrange : first + count ≤ 160) :
    SignalKept s (((List.range count).map (first + ·)).foldl (extractOne payload) s) ∧
      (((List.range count).map (first + ·)).foldl (extractOne payload) s).run.signals.length = 163 ∧
      ∀ k, k ≤ 160 → signalAt (((List.range count).map (first + ·)).foldl (extractOne payload) s) k =
        if first ≤ k ∧ k < first + count then extractedAt s payload k else signalAt s k := by
  induction count with
  | zero => exact ⟨.refl s, hlen, fun k _ => by rw [if_neg (by omega)]; rfl⟩
  | succ n ih =>
    obtain ⟨hkept, hlength, hentry⟩ := ih (by omega)
    rw [List.range_succ, List.map_append, List.map_singleton, List.foldl_append, List.foldl_cons, List.foldl_nil]
    generalize ((List.range n).map (first + ·)).foldl (extractOne payload) s = u at hkept hlength hentry
    have hlt : first + n < u.run.signals.length := by omega
    refine ⟨hkept.trans (extractOne_signalKept _ _ _), (extractOne_length _ _ _).trans hlength, fun k hk => ?_⟩
    rw [extractOne_entry hlt hk]
    by_cases hkn : k = first + n
    · have hheld : signalAt u k = signalAt s k := by rw [hentry k hk, if_neg (by omega)]
      have hdesc : descAt u k = descAt s k := by rw [descAt, hkept.links.tables, ← descAt]
      rw [if_pos hkn, if_pos (by omega), extractedAt, extractedAt, hdesc, hheld]
    · rw [if_neg hkn, hentry k hk]
      by_cases hin : first ≤ k ∧ k < first + n
      · rw [if_pos hin, if_pos (by omega)]
      · rw [if_neg hin, if_neg (by omega)]

end Sys2Proof.Machine
end


section
/-! PROOFS. The dispatch of an accepted DATA frame (O14). -/

namespace Sys2Proof.Machine

/-! ## The relay queues -/

theorem find?_waiting {p : QEntry → Bool} {ahead behind : List QEntry} {old : QEntry}
    (hahead : ∀ e ∈ ahead, p e = false) (hold : p old = true) : (ahead ++ old :: behind).find? p = some old := by
  rw [List.find?_append, List.find?_eq_none.2 (by simpa using hahead)]
  simp [hold]

theorem replaceFrame_waiting {o : Origin} {f : NoticeFrames} {ahead behind : List QEntry} {old : QEntry}
    (hahead : ∀ e ∈ ahead, waitingOf o e = false) (hold : waitingOf o old = true) :
    replaceFrame o f (ahead ++ old :: behind) = ahead ++ { old with frame0 := f.1, frame1 := f.2 } :: behind := by
  induction ahead with
  | nil => exact if_pos hold
  | cons x ahead ih =>
    have hx : waitingOf o x = false := hahead x List.mem_cons_self
    rw [List.cons_append, replaceFrame, if_neg (by simp [hx]), ih fun e he => hahead e (List.mem_cons_of_mem _ he)]
    rfl

theorem dropFirst_waiting {p : QEntry → Bool} {ahead behind : List QEntry} {old : QEntry}
    (hahead : ∀ e ∈ ahead, p e = false) (hold : p old = true) :
    dropFirst p (ahead ++ old :: behind) = ahead ++ behind := by
  induction ahead with
  | nil => exact if_pos hold
  | cons x ahead ih =>
    have hx : p x = false := hahead x List.mem_cons_self
    rw [List.cons_append, dropFirst, if_neg (by simp [hx]), ih fun e he => hahead e (List.mem_cons_of_mem _ he)]
    rfl

/-- R16: where LATEST finds the waiting copy of its route. -/
def Waits (o : Origin) (q ahead : List QEntry) (old : QEntry) (behind : List QEntry) : Prop :=
  q = ahead ++ old :: behind ∧ (∀ e ∈ ahead, waitingOf o e = false) ∧ waitingOf o old = true

theorem vtqLatest_waits {e old : QEntry} {q ahead behind : List QEntry} (h : Waits e.origin q ahead old behind) :
    vtqLatest e q =
      some (if old.frame0.prio = e.frame0.prio then ahead ++ { old with frame0 := e.frame0, frame1 := e.frame1 } :: behind
        else vtqInsert e (ahead ++ behind)) := by
  obtain ⟨rfl, hahead, hold⟩ := h
  rw [vtqLatest, find?_waiting hahead hold]
  simp only
  rw [replaceFrame_waiting hahead hold, dropFirst_waiting hahead hold]
  split <;> rfl

theorem vtqLatest_new {e : QEntry} {q : List QEntry} (h : ∀ x ∈ q, waitingOf e.origin x = false) :
    vtqLatest e q = vtqNew e q := by
  rw [vtqLatest, List.find?_eq_none.2 (by simpa using h)]

theorem drqLatest_waits {e old : QEntry} {q ahead behind : List QEntry} (h : Waits e.origin q ahead old behind) :
    drqLatest e q = some (ahead ++ { old with frame0 := e.frame0, frame1 := e.frame1 } :: behind) := by
  obtain ⟨rfl, hahead, hold⟩ := h
  rw [drqLatest, if_pos (by simp [hold]), replaceFrame_waiting hahead hold]

theorem drqLatest_new {e : QEntry} {q : List QEntry} (h : ∀ x ∈ q, waitingOf e.origin x = false) :
    drqLatest e q = drqNew e q :=
  if_neg (by simpa using h)

/-! ## The copy of a frame (R13) -/

/-- The copy of a DATA frame for the other link. -/
def relayCopy (n : Nat) (body : List Byte) : QEntry :=
  { frame0 := { kind := .data, prio := (headerOf body).prio, ident := (headerOf body).ident, target := 0, source := 0
                payload := payloadOf body }
    frame1 := none, origin := .route n, inFlight := false, part := 0, attempted := false, errors := 0 }

/-- A copy that stands in no other copy's place. -/
def RelaysNew (relay : Relay) (n : Nat) (q : List QEntry) : Prop :=
  relay = .all ∨ (relay = .latest ∧ ∀ e ∈ q, waitingOf (.route n) e = false)

/-- A full relay queue sets F4 and keeps both queues. -/
theorem overflow_route (n : Nat) (s : State) :
    LinkKept s (overflow (.route n) s) ∧ (overflow (.route n) s).run.queues.vtq = s.run.queues.vtq ∧
      (overflow (.route n) s).run.flags.relayOverflow = true := by
  have hframe := flagChange_frame .relayOverflow true s
  exact ⟨flagChange_linkKept _ _ s, hframe.vtq.trans (by rw [putFlag_queues]), congrArg Flags.relayOverflow hframe.flags⟩

section
variable {s : State} {n : Nat} {relay : Relay} {body : List Byte} (hmode : s.mode ≠ .shutdown)
include hmode

theorem relayFrame_vehicle_new (hnew : RelaysNew relay n s.run.queues.drq) :
    relayFrame .vehicle n relay body s =
      match drqNew (relayCopy n body) s.run.queues.drq with
      | some q => { s with run.queues.drq := q }
      | none => overflow (.route n) s := by
  obtain rfl | ⟨rfl, hnone⟩ := hnew
  · exact if_neg hmode
  · rw [← drqLatest_new (e := relayCopy n body) hnone]
    exact if_neg hmode

theorem relayFrame_vehicle_waits {ahead behind : List QEntry} {old : QEntry}
    (hwaits : Waits (.route n) s.run.queues.drq ahead old behind) :
    relayFrame .vehicle n .latest body s =
      { s with run.queues.drq := ahead ++ { old with frame0 := (relayCopy n body).frame0, frame1 := none } :: behind } := by
  have hplaced : relayFrame .vehicle n .latest body s =
      match drqLatest (relayCopy n body) s.run.queues.drq with
      | some q => { s with run.queues.drq := q }
      | none => overflow (.route n) s := if_neg hmode
  rw [hplaced, drqLatest_waits (e := relayCopy n body) hwaits]
  rfl

theorem relayFrame_display_new (hnew : RelaysNew relay n s.run.queues.vtq) :
    relayFrame .display n relay body s =
      match vtqNew (relayCopy n body) s.run.queues.vtq with
      | some q => { s with run.queues.vtq := q }
      | none => overflow (.route n) s := by
  obtain rfl | ⟨rfl, hnone⟩ := hnew
  · exact if_neg hmode
  · rw [← vtqLatest_new (e := relayCopy n body) hnone]
    exact if_neg hmode

theorem relayFrame_display_waits {ahead behind : List QEntry} {old : QEntry}
    (hwaits : Waits (.route n) s.run.queues.vtq ahead old behind) :
    relayFrame .display n .latest body s =
      { s with
        run.queues.vtq :=
          if old.frame0.prio = (relayCopy n body).frame0.prio then
            ahead ++ { old with frame0 := (relayCopy n body).frame0, frame1 := none } :: behind
          else vtqInsert (relayCopy n body) (ahead ++ behind) } := by
  have hplaced : relayFrame .display n .latest body s =
      match vtqLatest (relayCopy n body) s.run.queues.vtq with
      | some q => { s with run.queues.vtq := q }
      | none => overflow (.route n) s := if_neg hmode
  rw [hplaced, vtqLatest_waits (e := relayCopy n body) hwaits]
  rfl

end

theorem relayFrame_none (link : Link) (n : Nat) (body : List Byte) (s : State) :
    relayFrame link n .none body s = s := rfl

/-- A relay on a link keeps the links, the tables and the inputs. -/
structure RelayKept (s t : State) : Prop where
  vli : t.run.vli = s.run.vli
  dli : t.run.dli = s.run.dli
  iu : t.run.iu = s.run.iu
  store : t.store = s.store
  nodeAddress : t.nodeAddress = s.nodeAddress
  din0 : t.din0 = s.din0
  tables : t.run.tables = s.run.tables
  signals : t.run.signals = s.run.signals

theorem placeDrq_kept (e : QEntry) (replaces : Bool) (s : State) (n : Nat) (horigin : e.origin = .route n) :
    RelayKept s (placeDrq e replaces s) ∧ (placeDrq e replaces s).run.queues.vtq = s.run.queues.vtq := by
  have hframe := flagChange_frame .relayOverflow true s
  unfold placeDrq
  split
  · exact ⟨⟨rfl, rfl, rfl, rfl, rfl, rfl, rfl, rfl⟩, rfl⟩
  · split
    · exact ⟨⟨rfl, rfl, rfl, rfl, rfl, rfl, rfl, rfl⟩, rfl⟩
    · rw [horigin]
      exact ⟨⟨hframe.vli, hframe.dli, hframe.iu, hframe.store, hframe.nodeAddress, hframe.din0, hframe.tables,
        hframe.signals⟩, hframe.vtq⟩

theorem placeVtq_kept (e : QEntry) (replaces : Bool) (s : State) (n : Nat) (horigin : e.origin = .route n) :
    RelayKept s (placeVtq e replaces s) ∧ (placeVtq e replaces s).run.queues.drq = s.run.queues.drq := by
  have hframe := flagChange_frame .relayOverflow true s
  rcases placeVtq_cases e replaces s with h | ⟨q, h⟩ | h
  · rw [h, horigin]
    exact ⟨⟨rfl, rfl, rfl, rfl, rfl, rfl, rfl, rfl⟩, rfl⟩
  · rw [h]
    exact ⟨⟨rfl, rfl, rfl, rfl, rfl, rfl, rfl, rfl⟩, rfl⟩
  · rw [h, horigin]
    exact ⟨⟨hframe.vli, hframe.dli, hframe.iu, hframe.store, hframe.nodeAddress, hframe.din0, hframe.tables,
      hframe.signals⟩, hframe.drq⟩

/-- R13: a copy changes the queue of the other link alone, and F4 with the warnings path. -/
theorem relayFrame_kept (link : Link) (n : Nat) (relay : Relay) (body : List Byte) (s : State) :
    RelayKept s (relayFrame link n relay body s) ∧
      (link = .display ∨ relay = .none → (relayFrame link n relay body s).run.queues.drq = s.run.queues.drq) ∧
      (link = .vehicle ∨ relay = .none → (relayFrame link n relay body s).run.queues.vtq = s.run.queues.vtq) := by
  have hdrq (replaces : Bool) := placeDrq_kept (relayCopy n body) replaces s n rfl
  have hvtq (replaces : Bool) := placeVtq_kept (relayCopy n body) replaces s n rfl
  cases relay with
  | none => exact ⟨⟨rfl, rfl, rfl, rfl, rfl, rfl, rfl, rfl⟩, fun _ => rfl, fun _ => rfl⟩
  | all =>
    cases link with
    | vehicle => exact ⟨(hdrq false).1, fun h => by simp at h, fun _ => (hdrq false).2⟩
    | display => exact ⟨(hvtq false).1, fun _ => (hvtq false).2, fun h => by simp at h⟩
  | latest =>
    cases link with
    | vehicle => exact ⟨(hdrq true).1, fun h => by simp at h, fun _ => (hdrq true).2⟩
    | display => exact ⟨(hvtq true).1, fun _ => (hvtq true).2, fun h => by simp at h⟩

/-! ## Driver actions (R95) -/

theorem driverAction_frame (payload : List Byte) (s : State) : WarningsOnly s (driverAction payload s) := by
  unfold driverAction
  split
  · exact .refl s
  · split
    · exact acknowledge_frame _ s
    · exact acknowledge_frame _ s
    · exact .refl s

theorem ackCondition_some {s : State} {j : Nat} (h : ∃ a ∈ s.run.tu.alerts, a.cond = j ∧ a.acked = false) :
    ackCondition s j = some j :=
  if_pos (List.any_eq_true.2 (by simpa using h))

theorem ackCondition_none {s : State} {j : Nat} (h : ¬ ∃ a ∈ s.run.tu.alerts, a.cond = j ∧ a.acked = false) :
    ackCondition s j = none :=
  if_neg (mt List.any_eq_true.1 (by simpa using h))

theorem driverAction_one (j : Byte) (rest : List Byte) (s : State) :
    driverAction (1#8 :: j :: rest) s = acknowledge (ackCondition s j.toNat) s := rfl

theorem driverAction_two (rest : List Byte) (s : State) :
    driverAction (2#8 :: rest) s = acknowledge (ackNewest s) s := by cases rest <;> rfl

theorem driverAction_other {payload : List Byte} {s : State}
    (h : payload = [] ∨ payload = [1#8] ∨ ∃ c rest, payload = c :: rest ∧ c ≠ 1#8 ∧ c ≠ 2#8) :
    driverAction payload s = s := by
  obtain rfl | rfl | ⟨c, rest, rfl, hone, htwo⟩ := h
  · rfl
  · rfl
  · have h1 : c.toNat ≠ 1 := fun hc => hone (BitVec.eq_of_toNat_eq hc)
    have h2 : c.toNat ≠ 2 := fun hc => htwo (BitVec.eq_of_toNat_eq hc)
    unfold driverAction
    split
    · rfl
    · next code rest' heq =>
      obtain ⟨rfl, rfl⟩ := List.cons.inj heq
      split
      · next hcode => exact absurd hcode h1
      · next hcode => exact absurd hcode h2
      · rfl

end Sys2Proof.Machine
end


section
/-! PROOFS. The dispatch of an accepted DATA frame (O14): its stages, and what each leaves. -/

namespace Sys2Proof.Machine

/-! ## The stages of a dispatch -/

/-- R8, R11, R25: the route refreshed and its signals extracted. -/
def extracted (n : Nat) (r : LiveRoute) (body : List Byte) (s : State) : State :=
  (routeSignals r.cfg).foldl (extractOne (payloadOf body)) (refreshRoute n r s)

/-- R13: the copy placed in the other link's queue. -/
def relayed (link : Link) (n : Nat) (r : LiveRoute) (body : List Byte) (s : State) : State :=
  relayFrame link n r.cfg.relay body (extracted n r body s)

theorem dispatch_eq (link : Link) (n : Nat) (r : LiveRoute) (body : List Byte) (s : State) :
    dispatch link n r body s =
      if r.cfg.driverAction then driverAction (payloadOf body) (relayed link n r body s) else relayed link n r body s := rfl

/-- R95: a driver action has no effect but its acknowledgement. -/
theorem dispatch_warnings (link : Link) (n : Nat) (r : LiveRoute) (body : List Byte) (s : State) :
    WarningsOnly (relayed link n r body s) (dispatch link n r body s) := by
  rw [dispatch_eq]
  split
  · exact driverAction_frame _ _
  · exact .refl _

theorem refreshRoute_signalKept (n : Nat) (r : LiveRoute) (s : State) :
    SignalKept (updRoute n refreshed s) (refreshRoute n r s) := by
  unfold refreshRoute
  dsimp only
  split
  · exact superviseRoutes_signalKept _
  · exact .refl _

theorem refreshRoute_sameFrames (n : Nat) (r : LiveRoute) (s : State) :
    SameFrames (updRoute n refreshed s) (refreshRoute n r s) := by
  unfold refreshRoute
  dsimp only
  split
  · obtain ⟨display, gateway, tacho, hframe⟩ := superviseRoutes_frame (updRoute n refreshed s)
    exact ⟨hframe.sameFrames.length, hframe.sameFrames.entry⟩
  · exact .refl _

section
variable {s : State} {n : Nat} {r : LiveRoute} {body : List Byte} {link : Link}
  (hlen : s.run.signals.length = 163) (hrange : r.cfg.first + r.cfg.count ≤ 160)
include hlen hrange

theorem extracted_signalKept : SignalKept (updRoute n refreshed s) (extracted n r body s) :=
  (refreshRoute_signalKept n r s).trans
    (extractAll (payloadOf body) ((refreshRoute_sameFrames n r s).length.trans hlen) hrange).1

/-- R25: the entries after the extraction of the route's signals. -/
theorem extracted_entry {k : Nat} (hk : k ≤ 160) :
    signalAt (extracted n r body s) k =
      if r.cfg.first ≤ k ∧ k < r.cfg.first + r.cfg.count then extractedAt s (payloadOf body) k else signalAt s k := by
  have hframes := refreshRoute_sameFrames n r s
  have hheld : signalAt (refreshRoute n r s) k = signalAt s k := hframes.entry k hk
  have hdesc : descAt (refreshRoute n r s) k = descAt s k := by
    rw [descAt, (refreshRoute_signalKept n r s).links.tables]
    rfl
  have hread : extractedAt (refreshRoute n r s) (payloadOf body) k = extractedAt s (payloadOf body) k := by
    rw [extractedAt, extractedAt, hdesc, hheld]
  rw [extracted, routeSignals, (extractAll (payloadOf body) (hframes.length.trans hlen) hrange).2.2 k hk, hread, hheld]

theorem extracted_mode (hmode : s.mode ≠ .shutdown) : (extracted n r body s).mode ≠ .shutdown := by
  rcases (extracted_signalKept (n := n) (body := body) hlen hrange).mode with h | h
  · rw [h]
    exact hmode
  · rw [h]
    decide

/-! ## What a dispatch keeps -/

/-- The tables after a dispatch: only the route's own entry changed. -/
theorem dispatch_tables : (dispatch link n r body s).run.tables = (updRoute n refreshed s).run.tables := by
  rw [(dispatch_warnings link n r body s).tables, relayed, (relayFrame_kept ..).1.tables,
    (extracted_signalKept hlen hrange).links.tables]

theorem dispatch_route (hroute : routeAt s n = some r) (m : Nat) :
    routeAt (dispatch link n r body s) m = if m = n then some (refreshed r) else routeAt s m := by
  rw [routeAt, dispatch_tables hlen hrange, ← routeAt, routeAt_updRoute]
  split
  · next h =>
    rw [h, hroute]
    rfl
  · rfl

theorem dispatch_entry {k : Nat} (hk : k ≤ 160) :
    signalAt (dispatch link n r body s) k =
      match descAt s k with
      | some d =>
          if r.cfg.first ≤ k ∧ k < r.cfg.first + r.cfg.count then extractSignal d (payloadOf body) (signalAt s k)
          else signalAt s k
      | none => signalAt s k := by
  have hrelayed : signalAt (relayed link n r body s) k = signalAt (extracted n r body s) k := by
    rw [signalAt, relayed, (relayFrame_kept ..).1.signals, ← signalAt]
  rw [(dispatch_warnings link n r body s).sameFrames.entry k hk, hrelayed, extracted_entry hlen hrange hk, extractedAt]
  cases descAt s k with
  | none => exact ite_self _
  | some d => rfl

/-- The links, the store, the identity and the inputs are as they were. -/
theorem dispatch_kept :
    (dispatch link n r body s).run.vli = s.run.vli ∧ (dispatch link n r body s).run.dli = s.run.dli ∧
      (dispatch link n r body s).store = s.store ∧ (dispatch link n r body s).nodeAddress = s.nodeAddress ∧
      (dispatch link n r body s).din0 = s.din0 ∧ (dispatch link n r body s).run.iu = s.run.iu := by
  have hlast := dispatch_warnings link n r body s
  have hrelay := (relayFrame_kept link n r.cfg.relay body (extracted n r body s)).1
  have hfirst := (extracted_signalKept (n := n) (body := body) hlen hrange).links
  exact ⟨hlast.vli.trans (hrelay.vli.trans hfirst.vli), hlast.dli.trans (hrelay.dli.trans hfirst.dli),
    hlast.store.trans (hrelay.store.trans hfirst.store),
    hlast.nodeAddress.trans (hrelay.nodeAddress.trans hfirst.nodeAddress),
    hlast.din0.trans (hrelay.din0.trans hfirst.din0), hlast.iu.trans (hrelay.iu.trans hfirst.iu)⟩

end

/-! ## The relay queues after a dispatch -/

theorem drqNew_room {e : QEntry} {q : List QEntry} (h : q.length < 24) : drqNew e q = some (q ++ [e]) := if_pos h

theorem drqNew_full {e : QEntry} {q : List QEntry} (h : 24 ≤ q.length) : drqNew e q = none := if_neg (Nat.not_lt.2 h)

theorem vtqNew_room {e : QEntry} {q : List QEntry} (h : q.length < 8) : vtqNew e q = some (vtqInsert e q) := if_pos h

theorem vtqNew_full {e : QEntry} {q : List QEntry} (h : 8 ≤ q.length) : vtqNew e q = none := if_neg (Nat.not_lt.2 h)

section
variable {s : State} {n : Nat} {r : LiveRoute} {body : List Byte}
  (hlen : s.run.signals.length = 163) (hrange : r.cfg.first + r.cfg.count ≤ 160)
include hlen hrange

/-- A frame that goes to no display queue leaves it. -/
theorem dispatch_drq_same {link : Link} (h : link = .display ∨ r.cfg.relay = .none) :
    (dispatch link n r body s).run.queues.drq = s.run.queues.drq := by
  rw [(dispatch_warnings link n r body s).drq, relayed, (relayFrame_kept ..).2.1 h, (extracted_signalKept hlen hrange).links.drq]
  rfl

section
variable (hmode : s.mode ≠ .shutdown)
include hmode

theorem relayed_drq_new (hnew : RelaysNew r.cfg.relay n s.run.queues.drq) :
    relayed .vehicle n r body s =
      match drqNew (relayCopy n body) s.run.queues.drq with
      | some q => { extracted n r body s with run.queues.drq := q }
      | none => overflow (.route n) (extracted n r body s) := by
  have hdrq : (extracted n r body s).run.queues.drq = s.run.queues.drq := (extracted_signalKept hlen hrange).links.drq
  have hplaced := relayFrame_vehicle_new (body := body) (extracted_mode hlen hrange hmode) (hdrq.symm ▸ hnew)
  rw [hdrq] at hplaced
  exact hplaced

theorem relayed_drq_waits {ahead behind : List QEntry} {old : QEntry} (hlatest : r.cfg.relay = .latest)
    (hwaits : Waits (.route n) s.run.queues.drq ahead old behind) :
    relayed .vehicle n r body s =
      { extracted n r body s with
        run.queues.drq := ahead ++ { old with frame0 := (relayCopy n body).frame0, frame1 := none } :: behind } := by
  have hdrq : (extracted n r body s).run.queues.drq = s.run.queues.drq := (extracted_signalKept hlen hrange).links.drq
  rw [relayed, hlatest, relayFrame_vehicle_waits (extracted_mode hlen hrange hmode) (by rw [hdrq]; exact hwaits)]

/-- R16: a copy that is new to the display relay queue. -/
theorem dispatch_drq_new (hnew : RelaysNew r.cfg.relay n s.run.queues.drq) :
    (s.run.queues.drq.length < 24 →
        (dispatch .vehicle n r body s).run.queues.drq = s.run.queues.drq ++ [relayCopy n body]) ∧
      (24 ≤ s.run.queues.drq.length → (dispatch .vehicle n r body s).run.queues.drq = s.run.queues.drq ∧
        (dispatch .vehicle n r body s).run.flags.relayOverflow = true) := by
  have hlast := dispatch_warnings .vehicle n r body s
  have hplaced := relayed_drq_new (body := body) hlen hrange hmode hnew
  refine ⟨fun hroom => ?_, fun hfull => ?_⟩
  · rw [drqNew_room hroom] at hplaced
    rw [hlast.drq, hplaced]
  · obtain ⟨hkept, -, hset⟩ := overflow_route n (extracted n r body s)
    rw [drqNew_full hfull] at hplaced
    rw [hlast.drq, hlast.flags, hplaced]
    exact ⟨hkept.drq.trans (extracted_signalKept hlen hrange).links.drq, hset⟩

/-- R16: LATEST replaces the copy that waits in the display relay queue. -/
theorem dispatch_drq_waits {ahead behind : List QEntry} {old : QEntry} (hlatest : r.cfg.relay = .latest)
    (hwaits : Waits (.route n) s.run.queues.drq ahead old behind) :
    (dispatch .vehicle n r body s).run.queues.drq =
      ahead ++ { old with frame0 := (relayCopy n body).frame0, frame1 := none } :: behind := by
  rw [(dispatch_warnings .vehicle n r body s).drq, relayed_drq_waits hlen hrange hmode hlatest hwaits]

end

/-! Where no LEAVE SERVICE validation runs, the vehicle queue and F4 change by the copy alone. -/

section
variable (hcalm : s.run.mc.validation = none)
include hcalm

theorem extracted_relay : SameRelay s (extracted n r body s) :=
  ((extracted_signalKept hlen hrange).calm hcalm).2

/-- A frame that goes to no vehicle queue leaves it. -/
theorem dispatch_vtq_same {link : Link} (h : link = .vehicle ∨ r.cfg.relay = .none) :
    (dispatch link n r body s).run.queues.vtq = s.run.queues.vtq := by
  rw [(dispatch_warnings link n r body s).vtq, relayed, (relayFrame_kept ..).2.2 h,
    (extracted_relay hlen hrange hcalm).1]

theorem dispatch_overflow_none {link : Link} (h : r.cfg.relay = .none) :
    (dispatch link n r body s).run.flags.relayOverflow = s.run.flags.relayOverflow := by
  rw [(dispatch_warnings link n r body s).flags, relayed, h, relayFrame_none, (extracted_relay hlen hrange hcalm).2]

section
variable (hmode : s.mode ≠ .shutdown)
include hmode

theorem relayed_vtq_new (hnew : RelaysNew r.cfg.relay n s.run.queues.vtq) :
    relayed .display n r body s =
      match vtqNew (relayCopy n body) s.run.queues.vtq with
      | some q => { extracted n r body s with run.queues.vtq := q }
      | none => overflow (.route n) (extracted n r body s) := by
  have hvtq : (extracted n r body s).run.queues.vtq = s.run.queues.vtq := (extracted_relay hlen hrange hcalm).1
  have hplaced := relayFrame_display_new (body := body) (extracted_mode hlen hrange hmode) (hvtq.symm ▸ hnew)
  rw [hvtq] at hplaced
  exact hplaced

/-- R15: a copy that is new to the vehicle queue. -/
theorem dispatch_vtq_new (hnew : RelaysNew r.cfg.relay n s.run.queues.vtq) :
    (s.run.queues.vtq.length < 8 →
        (dispatch .display n r body s).run.queues.vtq = vtqInsert (relayCopy n body) s.run.queues.vtq ∧
          (dispatch .display n r body s).run.flags.relayOverflow = s.run.flags.relayOverflow) ∧
      (8 ≤ s.run.queues.vtq.length → (dispatch .display n r body s).run.queues.vtq = s.run.queues.vtq ∧
        (dispatch .display n r body s).run.flags.relayOverflow = true) := by
  have hlast := dispatch_warnings .display n r body s
  have hrelay := extracted_relay (n := n) (body := body) hlen hrange hcalm
  have hplaced := relayed_vtq_new (body := body) hlen hrange hcalm hmode hnew
  refine ⟨fun hroom => ?_, fun hfull => ?_⟩
  · rw [vtqNew_room hroom] at hplaced
    rw [hlast.vtq, hlast.flags, hplaced]
    exact ⟨rfl, hrelay.2⟩
  · obtain ⟨-, hkept, hset⟩ := overflow_route n (extracted n r body s)
    rw [vtqNew_full hfull] at hplaced
    rw [hlast.vtq, hlast.flags, hplaced]
    exact ⟨hkept.trans hrelay.1, hset⟩

/-- R16: LATEST replaces the copy that waits in the vehicle queue, in its place at an equal priority. -/
theorem dispatch_vtq_waits {ahead behind : List QEntry} {old : QEntry} (hlatest : r.cfg.relay = .latest)
    (hwaits : Waits (.route n) s.run.queues.vtq ahead old behind) :
    (dispatch .display n r body s).run.flags.relayOverflow = s.run.flags.relayOverflow ∧
      (dispatch .display n r body s).run.queues.vtq =
        if old.frame0.prio = (relayCopy n body).frame0.prio then
          ahead ++ { old with frame0 := (relayCopy n body).frame0, frame1 := none } :: behind
        else vtqInsert (relayCopy n body) (ahead ++ behind) := by
  have hlast := dispatch_warnings .display n r body s
  have hrelay := extracted_relay (n := n) (body := body) hlen hrange hcalm
  have hwaits' : Waits (.route n) (extracted n r body s).run.queues.vtq ahead old behind := by
    rw [hrelay.1]
    exact hwaits
  rw [hlast.vtq, hlast.flags, relayed, hlatest,
    relayFrame_display_waits (body := body) (extracted_mode hlen hrange hmode) hwaits']
  exact ⟨hrelay.2, rfl⟩

/-- A copy that finds its place in the display relay queue leaves F4. -/
theorem dispatch_overflow_vehicle
    (h : (RelaysNew r.cfg.relay n s.run.queues.drq ∧ s.run.queues.drq.length < 24) ∨
      (r.cfg.relay = .latest ∧ ∃ ahead old behind, Waits (.route n) s.run.queues.drq ahead old behind)) :
    (dispatch .vehicle n r body s).run.flags.relayOverflow = s.run.flags.relayOverflow := by
  have hrelay := extracted_relay (n := n) (body := body) hlen hrange hcalm
  rw [(dispatch_warnings .vehicle n r body s).flags]
  obtain ⟨hnew, hroom⟩ | ⟨hlatest, ahead, old, behind, hwaits⟩ := h
  · rw [relayed_drq_new hlen hrange hmode hnew, drqNew_room hroom]
    exact hrelay.2
  · rw [relayed_drq_waits hlen hrange hmode hlatest hwaits]
    exact hrelay.2

end
end
end

/-! ## A driver-action frame with no signals (R95) -/

/-- With no signals, no relay and a route that was not STALE, the dispatch is the refresh and the action. -/
theorem dispatch_action {link : Link} {n : Nat} {r : LiveRoute} {body : List Byte} {s : State}
    (haction : r.cfg.driverAction = true)
    (hcount : r.cfg.count = 0) (hrelay : r.cfg.relay = .none) (hfresh : r.fresh ≠ .stale) :
    dispatch link n r body s = driverAction (payloadOf body) (updRoute n refreshed s) := by
  have hrefresh : refreshRoute n r s = updRoute n refreshed s := if_neg hfresh
  have hnone : routeSignals r.cfg = [] := by rw [routeSignals, hcount]; rfl
  rw [dispatch_eq, if_pos haction, relayed, hrelay, relayFrame_none, extracted, hnone, List.foldl_nil, hrefresh]

/-- R95: the frame that names a condition acknowledges its entry, if one waits. -/
theorem driverAction_named {s : State} (j : Byte) (rest : List Byte) :
    if ∃ a ∈ s.run.tu.alerts, a.cond = j.toNat ∧ a.acked = false then
      Acknowledged s j.toNat (driverAction (1#8 :: j :: rest) s)
    else driverAction (1#8 :: j :: rest) s = s := by
  rw [driverAction_one]
  split
  · next h =>
    rw [ackCondition_some h]
    exact acknowledge_acknowledged _ s
  · next h =>
    rw [ackCondition_none h]
    rfl

/-- R95: the frame that names none acknowledges the newest entry that waits. -/
theorem driverAction_newest {s : State} (rest : List Byte) :
    (∀ older a newer, s.run.tu.alerts = older ++ a :: newer → a.acked = false → (∀ b ∈ newer, b.acked = true) →
        Acknowledged s a.cond (driverAction (2#8 :: rest) s)) ∧
      ((∀ a ∈ s.run.tu.alerts, a.acked = true) → driverAction (2#8 :: rest) s = s) := by
  rw [driverAction_two]
  refine ⟨fun older a newer hl ha hnewer => ?_, fun h => ?_⟩
  · rw [ackNewest_some hl ha hnewer]
    exact acknowledge_acknowledged _ s
  · rw [ackNewest_none h]
    rfl

/-! ## The obligation -/

theorem routing_mode {s : State} (h : routing s = true) : s.mode ≠ .shutdown := by
  intro hmode
  simp [routing, hmode] at h

theorem deliver_route {link : Link} {n : Nat} {r : LiveRoute} {ident : Nat} {expected : Option Nat} {body : List Byte} {s : State}
    (hroute : routeAt s n = some r) (hrouting : routing s = true) (hlink : r.cfg.link = link) (hident : r.cfg.ident = ident) :
    deliver link (.route n ident expected) body s = dispatch link n r body s := by
  rw [deliver, hroute]
  exact if_pos ⟨hrouting, hlink, hident⟩

/-- What the acceptance of a frame leaves: only the link's own interface has changed. -/
theorem frameHeard_kept (link : Link) (wave : Wave) (s : State) :
    (frameHeard link wave s).run.signals = s.run.signals ∧ (frameHeard link wave s).run.tables = s.run.tables ∧
      (frameHeard link wave s).run.queues = s.run.queues ∧ (frameHeard link wave s).run.flags = s.run.flags ∧
      (frameHeard link wave s).run.mc = s.run.mc ∧ (frameHeard link wave s).run.tu = s.run.tu ∧
      (frameHeard link wave s).run.iu = s.run.iu ∧ (frameHeard link wave s).mode = s.mode ∧
      (frameHeard link wave s).phase = s.phase ∧ (frameHeard link wave s).store = s.store ∧
      (frameHeard link wave s).nodeAddress = s.nodeAddress ∧ (frameHeard link wave s).din0 = s.din0 ∧
      (frameHeard link wave s).run.dli.sending = s.run.dli.sending ∧
      (frameHeard link wave s).run.dli.recessive = s.run.dli.recessive := by
  cases link <;> exact ⟨rfl, rfl, rfl, rfl, rfl, rfl, rfl, rfl, rfl, rfl, rfl, rfl, rfl, rfl⟩

/-- Settles O14: the stages of `dispatch`, taken apart in `extracted`, `relayed` and the action that follows them. -/
theorem dataFramesAreDispatched : Obligations.DataFramesAreDispatched := by
  intro s link wave received n r hdue hreceiving hlen hrouting hevents hbuffer hbits hbound hgood hroute hlink
    hrange body payload u fresh heard
  have hheard : frameHeard link wave s = heard := frameHeard_eq link wave s
  have hlistened := frameHeard_kept link wave s
  have hexec : exec (.frameAccepted link wave) s =
      .next (deliver link (.route n r.cfg.ident r.cfg.expected) body (frameHeard link wave s)) :=
    exec_frameAccepted_accepted hdue hreceiving hevents hbuffer hbits hbound (hbound ▸ hgood)
  rw [hheard] at hlistened hexec
  obtain ⟨hsignals, htables, hqueues, hflags, hmc, htu, hiu, hmode, hphase, hstore, haddress, hdin0, hsending,
    hrecessive⟩ := hlistened
  clear_value heard
  have hroute' : ∀ m, routeAt heard m = routeAt s m := fun m => by rw [routeAt, htables, ← routeAt]
  have hdesc (k : Nat) : descAt heard k = descAt s k := by rw [descAt, htables, ← descAt]
  have hentry (k : Nat) : signalAt heard k = signalAt s k := by rw [signalAt, hsignals, ← signalAt]
  have hlen' : heard.run.signals.length = 163 := by rw [hsignals, hlen]
  have hmode' : heard.mode ≠ .shutdown := hmode ▸ routing_mode hrouting
  have hrouting' : routing heard = true := by rw [routing, hmode, hphase, ← routing, hrouting]
  rw [deliver_route ((hroute' n).trans hroute) hrouting' hlink rfl] at hexec
  have hkept := dispatch_kept (link := link) (n := n) (body := body) hlen' hrange
  obtain ⟨hvli, hdli, hstore', haddress', hdin0', hiu'⟩ := hkept
  refine ⟨_, hexec, ?_, fun m => ?_, fun k hk => ?_, ?_, ?_, hstore'.trans hstore, haddress'.trans haddress,
    hdin0'.trans hdin0, hiu'.trans hiu, by rw [hdli, hsending], by rw [hdli, hrecessive]⟩
  · cases link
    · exact congrArg Vli.iface hvli
    · exact congrArg Dli.iface hdli
  · rw [dispatch_route hlen' hrange ((hroute' n).trans hroute), hroute']
    rfl
  · have hextracted := dispatch_entry (link := link) (n := n) (body := body) hlen' hrange hk
    rw [hdesc, hentry] at hextracted
    exact hextracted
  · intro copy drq vtq keepsF4 isNew waits replaced
    have hdrq : heard.run.queues.drq = drq := congrArg Queues.drq hqueues
    have hvtq : heard.run.queues.vtq = vtq := congrArg Queues.vtq hqueues
    have hF4 : heard.run.flags.relayOverflow = s.run.flags.relayOverflow := congrArg Flags.relayOverflow hflags
    have hnew {q q' : List QEntry} (h : q = q') (hn : isNew q') : RelaysNew r.cfg.relay n q := h ▸ hn
    have hwait {q q' ahead behind : List QEntry} {old : QEntry} (h : q = q') (hw : waits q' ahead old behind) :
        r.cfg.relay = .latest ∧ Waits (.route n) q ahead old behind := h ▸ hw
    refine ⟨fun h => (dispatch_drq_same hlen' hrange h).trans hdrq, ?_, ?_, fun hcalm => ?_⟩
    · rintro rfl hn
      have hplaced := dispatch_drq_new (body := body) hlen' hrange hmode' (hnew hdrq hn)
      rw [hdrq] at hplaced
      exact hplaced
    · rintro ahead old behind rfl hw
      obtain ⟨hlatest, hw'⟩ := hwait hdrq hw
      exact dispatch_drq_waits hlen' hrange hmode' hlatest hw'
    · have hcalm' : heard.run.mc.validation = none := by rw [hmc, hcalm]
      refine ⟨fun h => (dispatch_vtq_same hlen' hrange hcalm' h).trans hvtq, ?_, ?_, ?_,
        fun h => (dispatch_overflow_none hlen' hrange hcalm' h).trans hF4⟩
      · rintro rfl hn
        have hplaced := dispatch_vtq_new (body := body) hlen' hrange hcalm' hmode' (hnew hvtq hn)
        rw [hvtq, hF4] at hplaced
        exact hplaced
      · rintro ahead old behind rfl hw
        obtain ⟨hlatest, hw'⟩ := hwait hvtq hw
        have hplaced := dispatch_vtq_waits (body := body) hlen' hrange hcalm' hmode' hlatest hw'
        rw [hF4] at hplaced
        exact hplaced
      · rintro rfl h
        refine (dispatch_overflow_vehicle hlen' hrange hcalm' hmode' ?_).trans hF4
        obtain ⟨hn, hroom⟩ | ⟨ahead, old, behind, hw⟩ := h
        · exact .inl ⟨hnew hdrq hn, hdrq.symm ▸ hroom⟩
        · obtain ⟨hlatest, hw'⟩ := hwait hdrq hw
          exact .inr ⟨hlatest, ahead, old, behind, hw'⟩
  · intro haction hcount hrelay hfresh routes before acts
    have hbefore : updRoute n refreshed heard = before := by
      rw [updRoute, htables]
      rfl
    have halerts : before.run.tu.alerts = s.run.tu.alerts := congrArg Tu.alerts htu
    have hdispatch : dispatch link n r body heard = driverAction payload before := by
      rw [dispatch_action haction hcount hrelay hfresh, hbefore]
    refine ⟨fun j rest hp => ?_, fun rest hp => ?_, fun h => hdispatch.trans (driverAction_other h)⟩
    · have hnamed := driverAction_named (s := before) j rest
      rw [halerts, ← hp, ← hdispatch] at hnamed
      exact hnamed
    · have hnewest := driverAction_newest (s := before) rest
      rw [halerts, ← hp, ← hdispatch] at hnewest
      exact hnewest

end Sys2Proof.Machine
end
